-- ==== Sys2Proof/Word.lean ====
section
/-! DEFINITION. The plain data words of the FV-40: bytes, 32-bit words, 16-byte digests. -/

namespace Sys2Proof

/-- One byte on either serial port, in a record or in a report slot. -/
abbrev Byte := BitVec 8

/-- A 32-bit word: the millisecond count (R115) and the words of SHA-256 (R94). -/
abbrev Word32 := BitVec 32

/-- A 16-byte digest (R94); byte 0 of the value is the most significant byte of the number, so two
digests are equal exactly when all 16 bytes are equal at each position (R95). -/
abbrev Digest := BitVec 128

end Sys2Proof
end

