-- ==== Sys2Proof/Syntax.lean ====
section
/-! DEFINITION. Syntax. The steps of the FV-40, one constructor for each row of spec/opcode_table.json: the host's
commands on the System Port, the part's internal operations on the Flash Port, its timers, and the
electrical events. What the flash answers stands in the step as an operand, because the flash is another device. -/

namespace Sys2Proof

/-- The three straps as levels on their pins (R166). -/
structure Straps where
  /-- SIZE, 3 bits (R22). -/
  size : BitVec 3
  /-- REGION: false is 0 (top), true is 1 (bottom) (R23). -/
  regionBottom : Bool
  /-- ROLLBACK: true allows a commit to an equal or lower version (R138). -/
  rollback : Bool
  deriving DecidableEq, Repr

/-- The three bands of the battery sense voltage (R146). -/
inductive Band where
  | low | mid | high
  deriving DecidableEq, Repr

/-- What may fall into a READ between two of its bytes (R105): a millisecond tick (R115), a band change and with it a dip (R147,
R149), and the start of a read-back (R124). Nothing else can: the READ holds the Flash Port. -/
inductive DuringRead where
  | tick
  | bandChange (band : Band)
  | readbackStart
  deriving DecidableEq, Repr

/-- One command of the host, from the assertion of select to its release (R2). -/
structure HostXfer where
  /-- The opcode byte. -/
  opcode : Byte
  /-- The bytes the host clocks in after the opcode, in order: address bytes, dummy bytes, data bytes. -/
  sent : List Byte
  /-- One byte for each byte the host clocks out: the byte the flash returns for it when the
  bridge reads it from the flash. If nothing reaches the flash only the number of bytes counts. -/
  flash : List Byte
  /-- The events that fall into a READ, each with the number of the data byte in front of which it falls (the count of all
  bytes: behind the last one, before select is released). Other commands have none. -/
  during : List (Nat × DuringRead) := []
  deriving DecidableEq, Repr

/-- The steps of the part. `waiting` says whether a host command waits on the ready line at the
boundary at which the operation asks for the Flash Port (R16). -/
inductive Instr where
  | read (x : HostXfer)
  | program (x : HostXfer)
  | erase4K (x : HostXfer)
  | erase32K (x : HostXfer)
  | erase64K (x : HostXfer)
  | eraseAll (x : HostXfer)
  | programForward
  | eraseForward
  | status (x : HostXfer)
  | writeEnable (x : HostXfer)
  | pass (x : HostXfer)
  | block (x : HostXfer)
  | commandDiscard (x : HostXfer)
  | opcodeWhileNotReady (x : HostXfer)
  | statusPoll (waiting : Bool) (byte : Byte)
  | markProgram (waiting : Bool)
  | reportProgram (waiting : Bool)
  | internalProgramTransactionEnd
  | internalProgramPoll (byte : Byte)
  | internalProgramTimeout
  | startupRead (waiting : Bool)
  | startupReadEnd (bytes : List Byte)
  | readbackStart
  | readbackBurst (waiting : Bool)
  | readbackBurstEnd (bytes : List Byte)
  | tick
  | quietTimerExpiry (window : Nat)
  | bandChange (band : Band)
  | settleTimerExpiry
  | powerOnReset (straps : Straps) (band : Band)
  | resetPinAssert
  | resetPinRelease (straps : Straps) (band : Band)
  deriving DecidableEq, Repr

end Sys2Proof
end

