-- ==== Sys2Proof/Decode.lean ====
section
/-! DEFINITION. Decode. The opcode table gives no row any bits: its rows are steps of the part, not encoded words. So no
word spells a step. (The host's serial commands are decoded by the opcode class table of R1, in Machine/Operands.lean,
and the command records by R157, in Machine/Records.lean.) -/

namespace Sys2Proof

/-- The step that a word of `nbits` bits spells: none, because spec/opcode_table.json gives no row bits. -/
def decodeTableWord (_nbits _w : Nat) : Option Instr := none

end Sys2Proof
end

