-- ==== Sys2Proof/Config.lean ====
section
/-! DEFINITION. Config. The capacities and constants the manual fixes for the part ("Principal capacities" in
00_scope.md; each with the rule that owns it). The FV-40 has no value that the manual leaves to an
implementation, so nothing here is opaque. -/

namespace Sys2Proof.Config

/-- Windows and the 64 KiB block every range is a union of (R24, R29). -/
def blockBytes : Nat := 65536
/-- The largest window size, 16 MiB (R25). -/
def maxWindowBytes : Nat := 16777216
/-- Records in the chunk pool (R47). -/
def poolRecords : Nat := 4096
/-- The most chunks an image may have (R27). -/
def maxChunks : Nat := 1024
/-- Bytes of one flash page (R38). -/
def pageBytes : Nat := 256
/-- The command buffer keeps the first 256 data bytes (R6); a longer program is OVERSIZE (R7). -/
def maxProgram : Nat := 256
/-- The most entries of the touched list (R12). -/
def maxTouched : Nat := 16
/-- The most bytes of a read-back burst or a start-up read (R18, R111, R168). -/
def burstBytes : Nat := 256
/-- Entries of the check queue (R116). -/
def queueEntries : Nat := 64
/-- Reports of the pending report queue (R170). -/
def reportEntries : Nat := 16
/-- Marks of the mark queue (R164). -/
def markEntries : Nat := 16
/-- Slots of the report area (R171). -/
def reportSlots : Nat := 2048
/-- Bytes of one report slot (R23). -/
def slotBytes : Nat := 32
/-- The value at which every saturating count stays (R5, R8, R149, R169, R176). -/
def countMax : Nat := 65535
/-- The limit of the claim count (R16). -/
def claimLimit : Nat := 2
/-- The tick at which an internal program still in flight times out (R20). -/
def programTicks : Nat := 20
/-- The ticks the sense must stand in HIGH (R147). -/
def settleTicks : Nat := 25
/-- Read-back rate, cap and their bounds (R125, R127). -/
def rateReset : Nat := 2048
def rateMax : Nat := 16384
def capReset : Nat := 8192
def capMin : Nat := 256
def capMax : Nat := 65535
/-- Record lengths in words (R157). -/
def recordMinWords : Nat := 2
def recordMaxWords : Nat := 272
/-- Expected digests in one DIGESTS record (R55). -/
def digestsPerRecord : Nat := 64
/-- Part code and revision of the START report (R169, R179). -/
def partCode : Nat := 0x0F40
def partRevision : Nat := 2

end Sys2Proof.Config
end

