-- ==== Sys2Proof/Machine/ClassTable.lean ====
section
/-! DEFINITION. The entries of the opcode class table and their values after reset (R1). -/

namespace Sys2Proof.Machine

/-- The ten classes of host command (R1). -/
inductive CmdClass where
  | read | program | erase4K | erase32K | erase64K | eraseAll | status | writeEnable | pass | block
  deriving DecidableEq, Repr

/-- One entry of the opcode class table (R1). -/
structure ClassEntry where
  cls : CmdClass
  /-- 0, 3 or 4 bytes. -/
  addrLen : Nat
  /-- 0..15 bytes. -/
  dummies : Nat
  deriving DecidableEq, Repr

/-- The entry of an opcode after every reset (R1). -/
def ClassEntry.atReset (opcode : Nat) : ClassEntry :=
  match opcode with
  | 0x03 => ⟨.read, 3, 0⟩
  | 0x0B => ⟨.read, 3, 1⟩
  | 0x13 => ⟨.read, 4, 0⟩
  | 0x0C => ⟨.read, 4, 1⟩
  | 0x02 => ⟨.program, 3, 0⟩
  | 0x12 => ⟨.program, 4, 0⟩
  | 0x20 => ⟨.erase4K, 3, 0⟩
  | 0x21 => ⟨.erase4K, 4, 0⟩
  | 0x52 => ⟨.erase32K, 3, 0⟩
  | 0xD8 => ⟨.erase64K, 3, 0⟩
  | 0xDC => ⟨.erase64K, 4, 0⟩
  | 0x60 => ⟨.eraseAll, 0, 0⟩
  | 0xC7 => ⟨.eraseAll, 0, 0⟩
  | 0x05 => ⟨.status, 0, 0⟩
  | 0x06 => ⟨.writeEnable, 0, 0⟩
  | _ => ⟨.pass, 0, 0⟩

/-- The class codes of OPCLASS records and WITHHELD reports (R180). -/
def CmdClass.code : CmdClass → Nat
  | .read => 0
  | .program => 1
  | .erase4K => 2
  | .erase32K => 3
  | .erase64K => 4
  | .eraseAll => 5
  | .status => 6
  | .writeEnable => 7
  | .pass => 8
  | .block => 9

/-- The class a code names, if it names one (R3, R180). -/
def CmdClass.ofCode : Nat → Option CmdClass
  | 0 => some .read
  | 1 => some .program
  | 2 => some .erase4K
  | 3 => some .erase32K
  | 4 => some .erase64K
  | 5 => some .eraseAll
  | 6 => some .status
  | 7 => some .writeEnable
  | 8 => some .pass
  | 9 => some .block
  | _ => none

end Sys2Proof.Machine
end

