-- ==== Sys2Proof/Machine/Straps.lean ====
section
/-! DEFINITION. What the straps fix: the flash size (R22) and the place of the control region (R23). -/

namespace Sys2Proof.Machine

/-- The flash size F of a SIZE code; codes 5, 6 and 7 are taken as 256 MiB (R22). -/
def flashSize (size : BitVec 3) : Nat :=
  match size.toNat with
  | 0 => 0x01000000
  | 1 => 0x02000000
  | 2 => 0x04000000
  | 3 => 0x08000000
  | _ => 0x10000000

/-- The start of the command area (R23). -/
def commandBase (p : Straps) : Nat :=
  if p.regionBottom then 0 else flashSize p.size - 0x20000

/-- The address just past the command area (R23). -/
def commandEnd (p : Straps) : Nat := commandBase p + Config.blockBytes

/-- The start of the report area (R23). -/
def reportBase (p : Straps) : Nat := commandBase p + Config.blockBytes

/-- The address just past the report area, which is also the end of the control region (R23). -/
def reportEnd (p : Straps) : Nat := reportBase p + Config.blockBytes

/-- The address of report slot `n` (R23). -/
def slotAddr (p : Straps) (n : Nat) : Nat := reportBase p + Config.slotBytes * n

end Sys2Proof.Machine
end

