-- ==== Sys2Proof/Machine/State.lean ====
section
/-! DEFINITION. The state of the FV-40, block by block ("Blocks" in 00_scope.md), as plain data, and the machine right after
reset. The ready line (R11), the Flash Port select and the pool's allocation map (R47) are views computed from these
fields (Machine/Flags.lean, Machine/Catalogue.lean); every other named piece of state is a field. -/

namespace Sys2Proof.Machine

/-! ### Codes shared by records and reports (R180) -/

/-- The reasons of refusals, rejections, commit outcomes and withholdings (R180). -/
inductive Reason where
  | badCheck | supply | unknownKind | range | state | overlap | poolFull | activeBank | conflict | list
  | incomplete | target | version | replaced | eraseAll | oversize | viewRange | reportArea | classBlock
  deriving DecidableEq, Repr

/-- Whether something arose live or at replay (R160, R177). -/
inductive Origin where
  | live | replay
  deriving DecidableEq, Repr

/-- The three kinds of reset (R166). -/
inductive ResetCause where
  | supply | pin | restart
  deriving DecidableEq, Repr

/-- How replay ended (R168). -/
inductive ReplayEnd where
  | endMark | areaEnd | broken
  deriving DecidableEq, Repr

/-- Why the parser became BROKEN (R160). -/
inductive ParseCause where
  | wrap | skew | length | overrun
  deriving DecidableEq, Repr

/-- Where the digest of a BAD chunk came from (R91). -/
inductive Source where
  | stream | harvest | readback | load
  deriving DecidableEq, Repr

/-- The two banks of a view (R28). -/
inductive Bank where
  | a | b
  deriving DecidableEq, Repr

/-- The outcomes of a COMMIT report (R145). -/
inductive CommitOutcome where
  | taken | pending | refused | dropped
  deriving DecidableEq, Repr

/-! ### The part as a whole -/

/-- Held in reset by the reset pin (R166), STARTING or RUNNING (R167). -/
inductive PartState where
  | held | starting | running
  deriving DecidableEq, Repr

/-! ### Flash Path Bridge -/

/-- The owner of the flash-busy record (R12). -/
inductive Owner where
  | nobody | host | internal
  deriving DecidableEq, Repr

/-- The touched list (R12). An entry holds the touched bytes of one command as half-open address ranges.
`whole` is the one entry that replaces all of them when a seventeenth command is forwarded. -/
inductive TouchedList where
  | each (entries : List (List (Nat × Nat)))
  | whole
  deriving DecidableEq, Repr

/-- The command buffer (R6): a PROGRAM or erase collected and issued, and not yet forwarded. -/
structure Collected where
  cls : CmdClass
  opcode : Byte
  /-- The address A (R30); 0 for ERASE_ALL. -/
  addr : Nat
  /-- The first 256 data bytes of a PROGRAM. -/
  data : List Byte
  /-- The program length L. -/
  len : Nat
  deriving DecidableEq, Repr

/-- What an internal program writes (R18). -/
inductive ProgramKind where
  | mark | report
  deriving DecidableEq, Repr

/-- Before and after the end of the program transaction of an internal program (R19). -/
inductive ProgramPhase where
  | programming | polling
  deriving DecidableEq, Repr

/-- What a start-up read is for (R18). -/
inductive ReadPurpose where
  | scan | replay
  deriving DecidableEq, Repr

/-- The internal operation in flight on the Flash Port, other than a read-back burst (which stands in the
read-back context, R97) and a status poll (which is one step). -/
inductive PortOp where
  /-- An internal program with its timer in milliseconds (R19). -/
  | program (kind : ProgramKind) (phase : ProgramPhase) (timer : Nat)
  | startupRead (purpose : ReadPurpose)
  deriving DecidableEq, Repr

/-- The Flash Path Bridge. -/
structure Bridge where
  /-- The opcode class table (R1). -/
  classes : Vector ClassEntry 256
  /-- The flash-busy record (R12). -/
  busy : Bool
  owner : Owner
  touched : TouchedList
  /-- The write-enable pairing flag (R17). -/
  pairing : Bool
  /-- The claim count, 0..2 (R16). -/
  claim : Nat
  collected : Option Collected
  portOp : Option PortOp
  deriving DecidableEq, Repr

/-! ### Window Map, Catalogue Store and Chunk Tracker -/

/-- The geometry of a window (R24). -/
structure Geometry where
  base : Nat
  size : Nat
  chunkSize : Nat
  guarded : Bool
  fill : Byte
  /-- The quiet interval in milliseconds. -/
  quiet : Nat
  deriving DecidableEq, Repr

/-- The seven chunk states (R67). -/
inductive ChunkState where
  | erased | filling | computed | unchecked | checking | good | bad
  deriving DecidableEq, Repr

/-- The digest context that holds a chunk (R67, R68): a stream context 0..2 or the read-back context 3. -/
inductive Link where
  | stream (k : Fin 3)
  | readback
  deriving DecidableEq, Repr

/-- A chunk record (R67). -/
structure Chunk where
  state : ChunkState
  expected : Option Digest
  observed : Option Digest
  queued : Bool
  link : Option Link
  deriving DecidableEq, Repr

/-- The catalogue of an OPEN or LOADED window (R46). The list `chunks` is the window's run of pool records
`runStart`, `runStart + 1`, … in chunk order, so its length is the chunk count N. -/
structure Catalogue where
  target : Nat
  version : Nat
  /-- The image length len (R27). -/
  len : Nat
  /-- The list digest of the manifest. -/
  list : Digest
  runStart : Nat
  received : Nat
  chunks : List Chunk
  deriving DecidableEq, Repr

/-- The two erased digests a LOADED catalogue keeps (R60). -/
structure ErasedDigests where
  whole : Digest
  last : Digest
  deriving DecidableEq, Repr

/-- The state of a window with what it holds in that state (R45). -/
inductive WinBody where
  | vacant
  | defined (g : Geometry)
  | opened (g : Geometry) (c : Catalogue)
  | loaded (g : Geometry) (c : Catalogue) (e : ErasedDigests)
  | rejected (g : Geometry)
  deriving DecidableEq, Repr

/-- A window number's entry: the window table entry (R24) and catalogue (R46), the companion state (R69), and the
Check Scheduler's quiet timer and refill cursor (R120, R121). -/
structure Window where
  body : WinBody
  goodCount : Nat
  checkWanted : Bool
  checkReportWanted : Bool
  dipTouched : Bool
  fillReported : Bool
  /-- The quiet timer: stopped, or running with a remaining count. -/
  quiet : Option Nat
  cursor : Nat
  deriving DecidableEq, Repr

/-- The entry of a window number after every reset (R24, R69, R120, R121). -/
def Window.atReset : Window :=
  { body := .vacant, goodCount := 0, checkWanted := false, checkReportWanted := false
    dipTouched := false, fillReported := false, quiet := none, cursor := 0 }

/-! ### Install View Control -/

/-- A pending commit (R128). `recordStands` turns false when an erase of the command area takes its record away;
then no mark is requested for it (R162). -/
structure PendingCommit where
  bank : Bank
  recordAddr : Nat
  recordStands : Bool
  deriving DecidableEq, Repr

/-- A present view: its geometry (R28) and its state (R128). -/
structure View where
  base : Nat
  bankA : Fin 32
  bankB : Fin 32
  selected : Bank
  /-- The view state: true is HELD, false is IDLE. -/
  held : Bool
  pendingCommit : Option PendingCommit
  deriving DecidableEq, Repr

/-! ### Digest Engine -/

/-- The eight working words of SHA-256 (R94). -/
structure HashWords where
  a : Word32
  b : Word32
  c : Word32
  d : Word32
  e : Word32
  f : Word32
  g : Word32
  h : Word32
  deriving DecidableEq, Repr

/-- A running digest state (R94): the words after the whole 64-byte blocks taken so far, the bytes of the block that is not
whole yet, and the count of all bytes taken. -/
structure Running where
  words : HashWords
  block : List Byte
  count : Nat
  deriving DecidableEq, Repr

/-- The kind of a stream context (R97). -/
inductive StreamKind where
  | program | read
  deriving DecidableEq, Repr

/-- A BUSY stream context (R97). -/
structure StreamCtx where
  kind : StreamKind
  window : Fin 32
  chunk : Nat
  frontier : Nat
  run : Running
  deriving DecidableEq, Repr

/-- The BUSY read-back context (R97). -/
structure ReadbackCtx where
  window : Fin 32
  chunk : Nat
  /-- The next burst offset. -/
  next : Nat
  /-- The length of the burst now on the Flash Port, if there is one. -/
  inFlight : Option Nat
  run : Running
  urgent : Bool
  deriving DecidableEq, Repr

/-- The Digest Engine: contexts 0..2, the stream recency list (R99) and context 3. -/
structure Engine where
  streams : Vector (Option StreamCtx) 3
  recency : List (Fin 3)
  readback : Option ReadbackCtx
  deriving DecidableEq, Repr

/-! ### Check Scheduler -/

/-- An entry of the check queue (R116). -/
structure Entry where
  window : Fin 32
  chunk : Nat
  urgent : Bool
  deriving DecidableEq, Repr

/-- The Check Scheduler's own state; its quiet timers and refill cursors stand in the windows' entries. -/
structure Scheduler where
  /-- The millisecond count (R115). -/
  ms : Word32
  queue : List Entry
  rate : Nat
  cap : Nat
  credit : Nat
  deriving DecidableEq, Repr

/-! ### Supply Monitor -/

/-- The supply states (R147). -/
inductive SupplyState where
  | normal | dip | settling
  deriving DecidableEq, Repr

/-- The away record (R149). -/
structure Away where
  leftAt : Word32
  entries : Nat
  deriving DecidableEq, Repr

/-- The Supply Monitor. -/
structure Supply where
  state : SupplyState
  /-- The band held (R146). -/
  band : Band
  /-- The settle timer: stopped, or running with a remaining count (R147). -/
  settle : Option Nat
  /-- The supply-steady latch (R155). -/
  latch : Bool
  away : Option Away
  deriving DecidableEq, Repr

/-! ### Command Area Parser -/

/-- The parser state (R159), with the record being collected and its supply taint (R152). -/
inductive ParsePhase where
  | ready
  | inRecord (bytes : List Byte) (taint : Bool)
  | broken
  deriving DecidableEq, Repr

/-- The Command Area Parser: phase and cursor (R159) and the replay counts of the START report (R169). -/
structure Parser where
  phase : ParsePhase
  cursor : Nat
  taken : Nat
  refused : Nat
  skipped : Nat
  deriving DecidableEq, Repr

/-! ### Report Writer -/

/-- The six counters (R176). -/
structure Counters where
  goodVerdicts : Nat
  badVerdicts : Nat
  readbackAborts : Nat
  evictions : Nat
  withheld : Nat
  fillCommands : Nat
  deriving DecidableEq, Repr

/-- A report with its detail fields, fixed when it is raised (R170, R179). -/
inductive Report where
  | start (cause : ResetCause) (straps : Straps) (ended : ReplayEnd) (taken refused skipped cursor : Nat)
  | catalogue (window : Fin 32) (rejected : Option Reason) (target n version good : Nat)
  | image (window : Fin 32) (lost : Bool) (target version n good : Nat)
  | chunkBad (window : Fin 32) (source : Source) (chunk length : Nat)
  | checkDone (window : Fin 32) (n good bad erased : Nat)
  | commit (view : Fin 8) (outcome : CommitOutcome) (reason : Option Reason) (bank : Bank)
      (staging current : Fin 32) (target version recordAddr : Nat)
  | recordRefused (kind : Byte) (reason : Reason) (origin : Origin) (recordAddr : Nat)
  | withheld (cls : CmdClass) (reason : Reason) (opcode : Byte) (addr : Nat)
  | guardFill (window : Fin 32) (view : Option (Fin 8)) (windowState : Nat) (fill : Byte)
  | supply (recovered : Bool) (owner : Owner) (entries : Nat) (leftAt away : Word32) (marked : Nat)
      (windows : Word32)
  | snapshot (counters : Counters) (latch : Bool) (state : SupplyState) (index : Nat)
  | parse (cause : ParseCause) (origin : Origin) (first cursor : Nat)
  deriving DecidableEq, Repr

/-- The journal states (R171). -/
inductive Journal where
  | scanning | ready | full | rescan | failed
  deriving DecidableEq, Repr

/-- The two disposition marks (R163). -/
inductive MarkKind where
  | kept | void
  deriving DecidableEq, Repr

/-- A mark (R164). `restart` is true for the void mark of a RESTART record taken live, whose completion or loss begins
the restart (R165); the void mark a RESTART gets at replay carries false. -/
structure Mark where
  addr : Nat
  kind : MarkKind
  restart : Bool
  deriving DecidableEq, Repr

/-- The Report Writer. -/
structure ReportWriter where
  /-- The pending report queue, head first (R170). -/
  queue : List Report
  dropped : Bool
  journal : Journal
  /-- The write index, 0..2048 (R171). -/
  index : Nat
  /-- The slot at which the next read of the scan begins (R171). -/
  scanSlot : Nat
  /-- The mark queue, head first (R164). -/
  marks : List Mark
  /-- The alert line: true is asserted (R174). -/
  alert : Bool
  counters : Counters
  deriving DecidableEq, Repr

/-! ### Ports -/

/-- One transaction on the Flash Port: the opcode, the bytes sent after it, and how many bytes are read. -/
structure FlashTxn where
  opcode : Byte
  sent : List Byte
  reads : Nat
  deriving DecidableEq, Repr

/-- The serial outputs: the bytes delivered to the host by the last host command, and the transactions issued on the
Flash Port by the last step that was a host command or used that port. -/
structure Ports where
  toHost : List Byte
  toFlash : List FlashTxn
  deriving DecidableEq, Repr

/-- The whole state of the FV-40. -/
structure State where
  /-- The steps that wait, first in, first out (the model's own field). -/
  pending : List Instr
  part : PartState
  cause : ResetCause
  /-- The levels on the strap pins, as the last step that carries them gave them. -/
  strapPins : Straps
  /-- The straps as sampled at the last reset (R166). -/
  straps : Straps
  bridge : Bridge
  windows : Vector Window 32
  views : Vector (Option View) 8
  engine : Engine
  scheduler : Scheduler
  supply : Supply
  parser : Parser
  reports : ReportWriter
  ports : Ports
  deriving DecidableEq, Repr

/-- Reasons for a fault. There is none: the manual gives every step of the part an effect or no effect, and no
step stops the part. Leaving it empty is safe. -/
inductive Fault where
  deriving DecidableEq, Repr

/-- Reasons for a refusal. -/
inductive Refusal where
  /-- Raised by exec's arm of a step that has no meaning yet, with the row's mnemonic; safe, because the model stops
  there. No arm raises it now. -/
  | notModelled (mnemonic : String)
  deriving DecidableEq, Repr

/-- Every block at its values after reset, before the supply band is looked at: R1 and R21 (bridge), R24, R45, R69, R120
and R121 (windows), R28 (views), R97 and R99 (engine), R115, R116 and R125 (scheduler), R148 (supply), R159 (parser), R164,
R170, R171, R174 and R176 (reports). The part is STARTING (R167). -/
def State.cleared (cause : ResetCause) (pins : Straps) (band : Band) (pending : List Instr) : State :=
  { pending := pending
    part := .starting
    cause := cause
    strapPins := pins
    straps := pins
    bridge :=
      { classes := Vector.ofFn fun op => ClassEntry.atReset op.val
        busy := true, owner := .internal, touched := .each []
        pairing := false, claim := 0, collected := none, portOp := none }
    windows := Vector.replicate 32 Window.atReset
    views := Vector.replicate 8 none
    engine := { streams := Vector.replicate 3 none, recency := [], readback := none }
    scheduler :=
      { ms := 0, queue := [], rate := Config.rateReset, cap := Config.capReset, credit := 0 }
    supply := { state := .normal, band := band, settle := none, latch := true, away := none }
    parser := { phase := .ready, cursor := commandBase pins, taken := 0, refused := 0, skipped := 0 }
    reports :=
      { queue := [], dropped := false, journal := .scanning, index := 0, scanSlot := 0, marks := []
        alert := false
        counters :=
          { goodVerdicts := 0, badVerdicts := 0, readbackAborts := 0, evictions := 0, withheld := 0
            fillCommands := 0 } }
    ports := { toHost := [], toFlash := [] } }

/-- The machine right after reset: a supply power-on reset with all straps at 0 and the battery band HIGH.
DESIGN CHOICE (log entry 1): the levels on the straps and on the sense input come from outside. -/
def State.reset : State :=
  State.cleared .supply { size := 0, regionBottom := false, rollback := false } .high []

end Sys2Proof.Machine
end

