-- ==== Sys2Proof/Machine/Digest.lean ====
section
/-! DEFINITION. The chunk digest (R94): the first 16 bytes of the SHA-256 value of a byte string, taken byte by byte so
that it does not depend on the pieces the bytes came in. The manual names SHA-256 without defining it; the constants and
the schedule are those of FIPS 180-4 (PRESUMED, log entry 2). -/

namespace Sys2Proof.Machine

/-- The 64 round constants of SHA-256. -/
def roundConstants : List Word32 :=
  [0x428a2f98, 0x71374491, 0xb5c0fbcf, 0xe9b5dba5, 0x3956c25b, 0x59f111f1, 0x923f82a4, 0xab1c5ed5] ++
  [0xd807aa98, 0x12835b01, 0x243185be, 0x550c7dc3, 0x72be5d74, 0x80deb1fe, 0x9bdc06a7, 0xc19bf174] ++
  [0xe49b69c1, 0xefbe4786, 0x0fc19dc6, 0x240ca1cc, 0x2de92c6f, 0x4a7484aa, 0x5cb0a9dc, 0x76f988da] ++
  [0x983e5152, 0xa831c66d, 0xb00327c8, 0xbf597fc7, 0xc6e00bf3, 0xd5a79147, 0x06ca6351, 0x14292967] ++
  [0x27b70a85, 0x2e1b2138, 0x4d2c6dfc, 0x53380d13, 0x650a7354, 0x766a0abb, 0x81c2c92e, 0x92722c85] ++
  [0xa2bfe8a1, 0xa81a664b, 0xc24b8b70, 0xc76c51a3, 0xd192e819, 0xd6990624, 0xf40e3585, 0x106aa070] ++
  [0x19a4c116, 0x1e376c08, 0x2748774c, 0x34b0bcb5, 0x391c0cb3, 0x4ed8aa4a, 0x5b9cca4f, 0x682e6ff3] ++
  [0x748f82ee, 0x78a5636f, 0x84c87814, 0x8cc70208, 0x90befffa, 0xa4506ceb, 0xbef9a3f7, 0xc67178f2]

/-- The words before any byte is taken. -/
def HashWords.start : HashWords :=
  { a := 0x6a09e667, b := 0xbb67ae85, c := 0x3c6ef372, d := 0xa54ff53a
    e := 0x510e527f, f := 0x9b05688c, g := 0x1f83d9ab, h := 0x5be0cd19 }

/-- One round, with round constant `k` and schedule word `w`. -/
def HashWords.round (k w : Word32) (v : HashWords) : HashWords :=
  let s1 := v.e.rotateRight 6 ^^^ v.e.rotateRight 11 ^^^ v.e.rotateRight 25
  let ch := (v.e &&& v.f) ^^^ (~~~v.e &&& v.g)
  let t1 := v.h + s1 + ch + k + w
  let s0 := v.a.rotateRight 2 ^^^ v.a.rotateRight 13 ^^^ v.a.rotateRight 22
  let maj := (v.a &&& v.b) ^^^ (v.a &&& v.c) ^^^ (v.b &&& v.c)
  { a := t1 + (s0 + maj), b := v.a, c := v.b, d := v.c, e := v.d + t1, f := v.e, g := v.f, h := v.g }

/-- The word that follows the last 16 words of the message schedule. -/
def nextScheduleWord (last16 : List Word32) : Word32 :=
  let w1 := last16.getD 1 0
  let w14 := last16.getD 14 0
  let s0 := w1.rotateRight 7 ^^^ w1.rotateRight 18 ^^^ w1 >>> 3
  let s1 := w14.rotateRight 17 ^^^ w14.rotateRight 19 ^^^ w14 >>> 10
  last16.getD 0 0 + s0 + last16.getD 9 0 + s1

/-- The rounds of one block, for the round constants that are left and the last 16 schedule words. -/
def runRounds : List Word32 → List Word32 → HashWords → HashWords
  | [], _, v => v
  | k :: ks, ws, v => runRounds ks (ws.drop 1 ++ [nextScheduleWord ws]) (v.round k (ws.getD 0 0))

/-- The 16 big-endian words of a 64-byte block. -/
def blockWords : List Byte → List Word32
  | a :: b :: c :: d :: rest => (a ++ b ++ c ++ d) :: blockWords rest
  | _ => []

/-- Take one whole block. -/
def HashWords.compress (v : HashWords) (block : List Byte) : HashWords :=
  let r := runRounds roundConstants (blockWords block) v
  { a := v.a + r.a, b := v.b + r.b, c := v.c + r.c, d := v.d + r.d
    e := v.e + r.e, f := v.f + r.f, g := v.g + r.g, h := v.h + r.h }

/-- A running digest state of no bytes (R100, R106, R110). -/
def Running.start : Running := { words := HashWords.start, block := [], count := 0 }

/-- Take one byte. -/
def Running.take (r : Running) (b : Byte) : Running :=
  let block := r.block ++ [b]
  if block.length = 64 then
    { words := r.words.compress block, block := [], count := r.count + 1 }
  else
    { r with block := block, count := r.count + 1 }

/-- Digest bytes in order (R94). -/
def Running.absorb (r : Running) (bytes : List Byte) : Running := bytes.foldl Running.take r

/-- The padding after `n` bytes: 80h, zeros up to 56 modulo 64, and the bit count in 8 bytes. -/
def padding (n : Nat) : List Byte :=
  (0x80 : Byte) :: (List.replicate ((119 - n % 64) % 64) 0 ++
    ((List.range 8).map fun k => BitVec.ofNat 8 (8 * n / 256 ^ (7 - k))))

/-- The completed state yields the 16-byte digest (R94). -/
def Running.complete (r : Running) : Digest :=
  let v := (r.absorb (padding r.count)).words
  v.a ++ v.b ++ v.c ++ v.d

/-- The chunk digest of a byte string (R94). -/
def chunkDigest (bytes : List Byte) : Digest := (Running.start.absorb bytes).complete

/-- The 16 bytes of a digest in order. -/
def digestBytes (d : Digest) : List Byte :=
  (List.range 16).map fun k => BitVec.ofNat 8 (d.toNat / 256 ^ (15 - k))

/-- The digest that 16 bytes in order form. -/
def digestOf (bytes : List Byte) : Digest := BitVec.ofNat 128 (bytes.foldl (fun n b => 256 * n + b.toNat) 0)

end Sys2Proof.Machine
end

