-- ==== Sys2Proof/Machine/Ops.lean ====
section
/-! DEFINITION. The named operations the steps are built from: byte order, access to the blocks of State, reports, marks,
counters, windows and chunk records. -/

namespace Sys2Proof.Machine

/-! ### Numbers and bytes -/

/-- The lowest `k` bytes of `n`, least significant first ("Byte order" in 00_scope.md). -/
def leBytes : Nat → Nat → List Byte
  | 0, _ => []
  | k + 1, n => BitVec.ofNat 8 n :: leBytes k (n / 256)

/-- The lowest `k` bytes of `n`, most significant first: the order of address bytes (R2). -/
def beBytes (k n : Nat) : List Byte := (leBytes k n).reverse

/-- The number whose bytes stand least significant first. -/
def leNat : List Byte → Nat
  | [] => 0
  | b :: bs => b.toNat + 256 * leNat bs

/-- The number whose bytes stand most significant first (R30). -/
def beNat (bytes : List Byte) : Nat := bytes.foldl (fun n b => 256 * n + b.toNat) 0

/-- The little-endian field of `len` bytes at offset `off` of a record. -/
def field (bytes : List Byte) (off len : Nat) : Nat := leNat ((bytes.drop off).take len)

/-- One more, but 65,535 stays (R5, R8, R149, R169, R176). -/
def countUp (n : Nat) : Nat := if n < Config.countMax then n + 1 else n

/-- The window numbers in ascending order (R72). -/
def allWindows : List (Fin 32) := List.finRange 32

/-- The view numbers in ascending order. -/
def allViews : List (Fin 8) := List.finRange 8

/-- Whether the range [lo, hi) holds one or more bytes of one of the ranges. -/
def rangesMeet (ranges : List (Nat × Nat)) (lo hi : Nat) : Bool :=
  ranges.any fun r => max r.1 lo < min r.2 hi

/-! ### One block of State at a time -/

def State.modBridge (f : Bridge → Bridge) (s : State) : State := { s with bridge := f s.bridge }
def State.modEngine (f : Engine → Engine) (s : State) : State := { s with engine := f s.engine }
def State.modScheduler (f : Scheduler → Scheduler) (s : State) : State := { s with scheduler := f s.scheduler }
def State.modSupply (f : Supply → Supply) (s : State) : State := { s with supply := f s.supply }
def State.modParser (f : Parser → Parser) (s : State) : State := { s with parser := f s.parser }
def State.modReports (f : ReportWriter → ReportWriter) (s : State) : State := { s with reports := f s.reports }
def State.modPorts (f : Ports → Ports) (s : State) : State := { s with ports := f s.ports }

/-- What the host receives and what goes to the flash in one host command. -/
def State.drive (toHost : List Byte) (toFlash : List FlashTxn) (s : State) : State :=
  { s with ports := { toHost := toHost, toFlash := toFlash } }

/-- What the part itself issues on the Flash Port. -/
def State.issue (toFlash : List FlashTxn) (s : State) : State :=
  { s with ports := { s.ports with toFlash := toFlash } }

/-- The entry of a window number. -/
def State.win (s : State) (w : Fin 32) : Window := s.windows.get w

def State.setWin (w : Fin 32) (v : Window) (s : State) : State := { s with windows := s.windows.set w v }

def State.modWin (w : Fin 32) (f : Window → Window) (s : State) : State := s.setWin w (f (s.win w))

/-- The view table entry of a view number (R28). -/
def State.view (s : State) (v : Fin 8) : Option View := s.views.get v

def State.setView (v : Fin 8) (x : Option View) (s : State) : State := { s with views := s.views.set v x }

/-- The stream context `k` (R97). -/
def State.stream (s : State) (k : Fin 3) : Option StreamCtx := s.engine.streams.get k

def State.setStream (k : Fin 3) (x : Option StreamCtx) (s : State) : State :=
  s.modEngine fun e => { e with streams := e.streams.set k x }

def State.setReadback (x : Option ReadbackCtx) (s : State) : State :=
  s.modEngine fun e => { e with readback := x }

/-- The entry of the opcode class table that governs an opcode (R2). -/
def State.classOf (s : State) (opcode : Byte) : ClassEntry := s.bridge.classes.get opcode.toFin

/-- Replace the entry of an opcode (R3). -/
def State.setClass (opcode : Byte) (e : ClassEntry) (s : State) : State :=
  s.modBridge fun b => { b with classes := b.classes.set opcode.toNat e opcode.isLt }

/-- The flash size F (R22). -/
def State.flashBytes (s : State) : Nat := flashSize s.straps.size

/-! ### Reports, counters and marks -/

/-- Raise a report: it joins the pending report queue, or it is lost and sets the dropped flag (R170). -/
def State.raise (r : Report) (s : State) : State :=
  s.modReports fun w =>
    if w.queue.length < Config.reportEntries then { w with queue := w.queue ++ [r] } else { w with dropped := true }

def State.modCounters (f : Counters → Counters) (s : State) : State :=
  s.modReports fun w => { w with counters := f w.counters }

def State.countGoodVerdict : State → State := State.modCounters fun c => { c with goodVerdicts := countUp c.goodVerdicts }
def State.countBadVerdict : State → State := State.modCounters fun c => { c with badVerdicts := countUp c.badVerdicts }
def State.countAbort : State → State := State.modCounters fun c => { c with readbackAborts := countUp c.readbackAborts }
def State.countEviction : State → State := State.modCounters fun c => { c with evictions := countUp c.evictions }
def State.countWithheld : State → State := State.modCounters fun c => { c with withheld := countUp c.withheld }
def State.countFillCommand : State → State := State.modCounters fun c => { c with fillCommands := countUp c.fillCommands }

/-- Whether a mark requested now would be lost: the queue holds 16 marks, or the journal is FAILED (R164). -/
def State.marksClosed (s : State) : Bool :=
  decide (Config.markEntries ≤ s.reports.marks.length) || decide (s.reports.journal = .failed)

/-- Request a mark (R164). -/
def State.requestMark (m : Mark) (s : State) : State :=
  if s.marksClosed then s else s.modReports fun w => { w with marks := w.marks ++ [m] }

/-! ### What a window holds (R45) -/

def WinBody.geom? : WinBody → Option Geometry
  | .vacant => none
  | .defined g => some g
  | .opened g _ => some g
  | .loaded g _ _ => some g
  | .rejected g => some g

def WinBody.cat? : WinBody → Option Catalogue
  | .opened _ c => some c
  | .loaded _ c _ => some c
  | _ => none

def WinBody.isLoaded : WinBody → Bool
  | .loaded _ _ _ => true
  | _ => false

/-- The window state codes (R180). -/
def WinBody.code : WinBody → Nat
  | .vacant => 0
  | .defined _ => 1
  | .opened _ _ => 2
  | .loaded _ _ _ => 3
  | .rejected _ => 4

def WinBody.modCat (f : Catalogue → Catalogue) : WinBody → WinBody
  | .opened g c => .opened g (f c)
  | .loaded g c e => .loaded g (f c) e
  | b => b

/-- The chunk count N of a window with an image (R27); 0 for a window without one. -/
def WinBody.count (b : WinBody) : Nat :=
  match b.cat? with
  | some c => c.chunks.length
  | none => 0

/-- The chunk length ℓ_i (R27). -/
def WinBody.chunkLen (b : WinBody) (i : Nat) : Nat :=
  match b.geom?, b.cat? with
  | some g, some c =>
    if i + 1 < c.chunks.length then g.chunkSize else c.len - (c.chunks.length - 1) * g.chunkSize
  | _, _ => 0

/-- The erased digest of chunk `i` (R60). -/
def erasedDigest (c : Catalogue) (e : ErasedDigests) (i : Nat) : Digest :=
  if i + 1 < c.chunks.length then e.whole else e.last

/-- The form in which a MANIFEST creates every chunk record (R48). -/
def Chunk.fresh : Chunk :=
  { state := .unchecked, expected := none, observed := none, queued := false, link := none }

/-- The record of chunk `i` of window `w` (R67). -/
def State.chunk? (s : State) (w : Fin 32) (i : Nat) : Option Chunk :=
  (s.win w).body.cat?.bind fun c => c.chunks[i]?

def State.modChunk (w : Fin 32) (i : Nat) (f : Chunk → Chunk) (s : State) : State :=
  s.modWin w fun v => { v with body := v.body.modCat fun c => { c with chunks := c.chunks.modify i f } }

end Sys2Proof.Machine
end

