-- ==== Sys2Proof/Machine/Operands.lean ====
section
/-! DEFINITION. The Window Map: what a command of the host addresses. Taking an address (R2, R30), the mapped address of a read and
the window, chunk and offset of a byte (R32 to R37), the landing of a program (R38 to R41), the cover of an erase
(R42 to R44), and the withhold tests (R7). -/

namespace Sys2Proof.Machine

/-! ### The operands of a host command (R2, R30) -/

/-- The address formed from address bytes: 4 bytes are reduced modulo F, 3 bytes are taken as they are (R30). -/
def formAddress (flashBytes addrLen : Nat) (bytes : List Byte) : Nat :=
  if addrLen = 4 then beNat bytes % flashBytes else beNat bytes

end Sys2Proof.Machine

namespace Sys2Proof

open Machine

/-- All address bytes of the entry were clocked (R2). -/
def HostXfer.addressed (x : HostXfer) (e : ClassEntry) : Bool := decide (e.addrLen ≤ x.sent.length)

/-- The address A of the command (R30). -/
def HostXfer.addr (x : HostXfer) (e : ClassEntry) (flashBytes : Nat) : Nat :=
  formAddress flashBytes e.addrLen (x.sent.take e.addrLen)

/-- The data bytes the host clocks in, behind the address and dummy bytes (R2). -/
def HostXfer.data (x : HostXfer) (e : ClassEntry) : List Byte := x.sent.drop (e.addrLen + e.dummies)

/-- The flash-side bytes of a READ; none if select is released within the dummy bytes. -/
def HostXfer.readBytes (x : HostXfer) (e : ClassEntry) : List Byte :=
  if e.addrLen + e.dummies ≤ x.sent.length then x.flash else []

end Sys2Proof

namespace Sys2Proof.Machine

/-! ### Windows and views -/

def Geometry.covers (g : Geometry) (p : Nat) : Bool := decide (g.base ≤ p) && decide (p < g.base + g.size)

def Geometry.meets (g : Geometry) (lo hi : Nat) : Bool := decide (max g.base lo < min (g.base + g.size) hi)

def WinBody.covers (b : WinBody) (p : Nat) : Bool :=
  match b.geom? with
  | some g => g.covers p
  | none => false

def WinBody.meets (b : WinBody) (lo hi : Nat) : Bool :=
  match b.geom? with
  | some g => g.meets lo hi
  | none => false

/-- The window in which an address lies (R35). -/
def State.windowAt (s : State) (p : Nat) : Option (Fin 32) := allWindows.find? fun w => (s.win w).body.covers p

def WinBody.base (b : WinBody) : Nat :=
  match b.geom? with
  | some g => g.base
  | none => 0

def WinBody.size (b : WinBody) : Nat :=
  match b.geom? with
  | some g => g.size
  | none => 0

def WinBody.chunkSize (b : WinBody) : Nat :=
  match b.geom? with
  | some g => g.chunkSize
  | none => 0

/-- The window number of a bank (R28). -/
def View.window (v : View) : Bank → Fin 32
  | .a => v.bankA
  | .b => v.bankB

/-- The current window: the selected bank window (R28, R128). -/
def View.current (v : View) : Fin 32 := v.window v.selected

/-- The size S of a view: the size of its bank A window (R28). -/
def State.viewSize (s : State) (v : View) : Nat := (s.win v.bankA).body.size

/-- The address lies in the range of the view (R28). -/
def State.viewCovers (s : State) (v : View) (x : Nat) : Bool :=
  decide (v.base ≤ x) && decide (x < v.base + s.viewSize v)

/-- The present view in whose range an address lies. -/
def State.viewAt (s : State) (x : Nat) : Option (Fin 8) :=
  allViews.find? fun v =>
    match s.view v with
    | some view => s.viewCovers view x
    | none => false

/-- The mapped address of a host address (R33). -/
def State.mapAddr (s : State) (x : Nat) : Nat :=
  match (s.viewAt x).bind s.view with
  | some v => (s.win v.current).body.base + (x - v.base)
  | none => x

/-- The chunk index and offset of an image byte; none for a byte that belongs to no chunk (R36, R37). -/
def WinBody.site (b : WinBody) (p : Nat) : Option (Nat × Nat) :=
  match b.geom?, b.cat? with
  | some g, some c =>
    if p - g.base < c.len then some ((p - g.base) / g.chunkSize, (p - g.base) % g.chunkSize) else none
  | _, _ => none

/-- Where a byte of a read lies: its view, mapped address, window, and chunk and offset (R34). -/
structure ByteSite where
  view : Option (Fin 8)
  addr : Nat
  window : Option (Fin 32)
  site : Option (Nat × Nat)
  deriving DecidableEq, Repr

/-- The site of the byte at a host address (R33 to R36). -/
def State.siteOf (s : State) (x : Nat) : ByteSite :=
  let p := s.mapAddr x
  let w := s.windowAt p
  { view := s.viewAt x, addr := p, window := w, site := w.bind fun w => (s.win w).body.site p }

/-- Byte `k` and the byte behind it lie in one segment (R34). -/
def ByteSite.sameSegment (a b : ByteSite) : Bool :=
  decide (b.addr = a.addr + 1) && decide (a.view = b.view) && decide (a.window = b.window) &&
    decide (a.site.map Prod.fst = b.site.map Prod.fst)

/-- A window is GUARDED (R24). -/
def WinBody.guarded (b : WinBody) : Bool :=
  match b.geom? with
  | some g => g.guarded
  | none => false

/-- The byte is protected (R4). -/
def State.isProtected (s : State) (b : ByteSite) : Bool :=
  b.view.isSome ||
    match b.window with
    | some w => (s.win w).body.guarded
    | none => false

/-- The byte is an image byte of a GOOD chunk (R4). -/
def State.isProven (s : State) (b : ByteSite) : Bool :=
  match b.window, b.site with
  | some w, some (i, _) =>
    match s.chunk? w i with
    | some c => decide (c.state = .good)
    | none => false
  | _, _ => false

/-- The fill byte of a byte's window (R4). A view byte always lies in a window (R34); FFh stands for the case that law excludes. -/
def State.fillOf (s : State) (b : ByteSite) : Byte :=
  match b.window.bind fun w => (s.win w).body.geom? with
  | some g => g.fill
  | none => 0xFF

/-- The range lies in no view and no selected bank window, so the tests 3 and 4 of R7 pass it. -/
def State.meetsSelectedBank (s : State) (ranges : List (Nat × Nat)) : Bool :=
  allViews.any fun v =>
    match s.view v with
    | some view =>
      match (s.win view.current).body.geom? with
      | some g => rangesMeet ranges g.base (g.base + g.size)
      | none => false
    | none => false

def State.meetsView (s : State) (ranges : List (Nat × Nat)) : Bool :=
  allViews.any fun v =>
    match s.view v with
    | some view => rangesMeet ranges view.base (view.base + s.viewSize view)
    | none => false

def State.viewPresent (s : State) : Bool := allViews.any fun v => (s.view v).isSome

/-! ### Program landing (R38 to R41) -/

def pageBase (a : Nat) : Nat := a - a % Config.pageBytes

/-- The program wraps in its page (R38). -/
def programWraps (a len : Nat) : Bool := decide (Config.pageBytes < a % Config.pageBytes + len)

/-- The address at which data byte `k` lands (R38). -/
def landingAddr (a k : Nat) : Nat := pageBase a + (a % Config.pageBytes + k) % Config.pageBytes

/-- The landing bytes as ranges, in the order in which they are programmed (R38). -/
def landingRanges (a len : Nat) : List (Nat × Nat) :=
  if len = 0 then []
  else if programWraps a len then
    [(a, pageBase a + Config.pageBytes), (pageBase a, pageBase a + (a % Config.pageBytes + len - Config.pageBytes))]
  else [(a, a + len)]

/-- The landing of a program on a chunk (R40). -/
structure Landing where
  chunk : Nat
  offset : Nat
  count : Nat
  wraps : Bool
  deriving DecidableEq, Repr

/-- The in-image count m of R40, for the offset of the first landing byte and the chunk length. -/
def landingCount (a len offset chunkLen : Nat) : Nat :=
  if programWraps a len then
    min (Config.pageBytes - a % Config.pageBytes) (chunkLen - offset) +
      min (a % Config.pageBytes + len - Config.pageBytes) (chunkLen - (offset - a % Config.pageBytes))
  else min len (chunkLen - offset)

/-- The chunk a program lands on, if it brings that chunk one or more image bytes (R40). -/
def WinBody.landing (b : WinBody) (a len : Nat) : Option Landing :=
  match b.geom?, b.cat? with
  | some g, some c =>
    let i := (pageBase a - g.base) / g.chunkSize
    let o := (a - g.base) % g.chunkSize
    let m := if i < c.chunks.length then landingCount a len o (b.chunkLen i) else 0
    if 1 ≤ m then some { chunk := i, offset := o, count := m, wraps := programWraps a len } else none
  | _, _ => none

/-! ### Erase cover (R42, R43) -/

/-- The erase size of a class; 0 for the classes that are no sized erase. -/
def CmdClass.eraseSize : CmdClass → Nat
  | .erase4K => 4096
  | .erase32K => 32768
  | .erase64K => 65536
  | .read | .program | .eraseAll | .status | .writeEnable | .pass | .block => 0

/-- The cover of an erase (R42). -/
def eraseCover (cls : CmdClass) (addr flashBytes : Nat) : Nat × Nat :=
  match cls with
  | .eraseAll => (0, flashBytes)
  | .erase4K | .erase32K | .erase64K | .read | .program | .status | .writeEnable | .pass | .block =>
    (addr - addr % cls.eraseSize, addr - addr % cls.eraseSize + cls.eraseSize)

/-- The first address of chunk `i` (R27). -/
def WinBody.chunkStart (b : WinBody) (i : Nat) : Nat := b.base + i * b.chunkSize

/-- The range holds one or more image bytes of chunk `i` (R43, R88). -/
def WinBody.chunkMet (b : WinBody) (i : Nat) (ranges : List (Nat × Nat)) : Bool :=
  rangesMeet ranges (b.chunkStart i) (b.chunkStart i + b.chunkLen i)

/-- The cover holds the whole span of chunk `i` (R43). -/
def WinBody.chunkCovered (b : WinBody) (i : Nat) (cover : Nat × Nat) : Bool :=
  decide (cover.1 ≤ b.chunkStart i) && decide (b.chunkStart i + b.chunkLen i ≤ cover.2)

/-! ### The withhold tests (R7) -/

/-- The touched bytes of a collected command (R7, R12). -/
def Collected.touched (c : Collected) (flashBytes : Nat) : List (Nat × Nat) :=
  if c.cls = .program then landingRanges c.addr c.len else [eraseCover c.cls c.addr flashBytes]

/-- The first withhold test that applies to a collected command (R7). -/
def State.withholdReason (s : State) (c : Collected) : Option Reason :=
  if c.cls = .eraseAll ∧ s.viewPresent = true then some .eraseAll
  else if c.cls = .program ∧ Config.maxProgram < c.len then some .oversize
  else if s.meetsSelectedBank (c.touched s.flashBytes) then some .activeBank
  else if s.meetsView (c.touched s.flashBytes) then some .viewRange
  else if c.cls = .program ∧ rangesMeet (c.touched s.flashBytes) (reportBase s.straps) (reportEnd s.straps) = true
    then some .reportArea
  else none

end Sys2Proof.Machine
end

