-- ==== Sys2Proof/Machine/Flags.lean ====
section
/-! DEFINITION. The lines and flags of the bridge: the ready line (R11), the flash-busy record (R12, R13), the readiness of the
internal operations (R15), the arbiter and its claim count (R16), the pairing flag (R17) and the part's own command
forms (R18). -/

namespace Sys2Proof.Machine

/-! ### The flash-busy record -/

/-- Append the touched bytes of a forwarded command to the touched list (R12). -/
def TouchedList.add (t : TouchedList) (ranges : List (Nat × Nat)) : TouchedList :=
  match t with
  | .whole => .whole
  | .each es => if Config.maxTouched ≤ es.length then .whole else .each (es ++ [ranges])

/-- The touched list as ranges of a flash of `flashBytes` bytes. -/
def TouchedList.ranges (t : TouchedList) (flashBytes : Nat) : List (Nat × Nat) :=
  match t with
  | .whole => [(0, flashBytes)]
  | .each es => es.flatten

/-- A host PROGRAM or erase is forwarded (R12). -/
def State.busyWithHost (ranges : List (Nat × Nat)) (s : State) : State :=
  s.modBridge fun b => { b with busy := true, owner := .host, touched := b.touched.add ranges }

/-- The bridge sees a status byte: bit 0 clear while busy is yes clears the record (R13). -/
def State.watchStatus (byte : Byte) (s : State) : State :=
  if s.bridge.busy && !byte.getLsbD 0 then
    s.modBridge fun b => { b with busy := false, owner := .nobody, touched := .each [] }
  else s

/-! ### Who has the Flash Port -/

def Engine.burstInFlight (e : Engine) : Bool :=
  match e.readback with
  | some r => r.inFlight.isSome
  | none => false

/-- An internal operation is in flight (R11). -/
def State.internalInFlight (s : State) : Bool := s.bridge.portOp.isSome || s.engine.burstInFlight

/-- No command and no internal operation is on the Flash Port: the port stands at a command boundary (R2, R16). -/
def State.portFree (s : State) : Bool := !s.internalInFlight && s.bridge.collected.isNone

/-! ### Readiness of the internal operations (R15) -/

/-- The conditions of R15 that every internal operation but a poll needs. -/
def State.quietPort (s : State) : Bool := !s.bridge.busy && !s.bridge.pairing && decide (s.part ≠ .held)

/-- The conditions of R15 for the internal programs. -/
def State.programsAllowed (s : State) : Bool :=
  s.quietPort && decide (s.supply.state = .normal) && decide (s.reports.journal ≠ .failed)

def State.markReady (s : State) : Bool := !s.reports.marks.isEmpty && s.programsAllowed

def State.reportReady (s : State) : Bool :=
  !s.reports.queue.isEmpty && s.programsAllowed && decide (s.reports.journal = .ready)

/-- The start-up read that is requested: a scan of the report area, or replay while the part is STARTING
(R167, R168, R171). -/
def State.readRequested (s : State) : Option ReadPurpose :=
  if s.reports.journal = .scanning ∨ s.reports.journal = .rescan then some .scan
  else if s.part = .starting then some .replay
  else none

def State.startupReady (s : State) : Bool := s.readRequested.isSome && s.quietPort

/-- The length of the next burst of a read-back (R111). -/
def State.burstLen (s : State) (r : ReadbackCtx) : Nat :=
  min Config.burstBytes ((s.win r.window).body.chunkLen r.chunk - r.next)

/-- The next burst is urgent: by the read-back's urgency or by carried urgency (R126). -/
def State.burstUrgent (s : State) (r : ReadbackCtx) : Bool := r.urgent || s.scheduler.queue.any fun e => e.urgent

def State.burstReady (s : State) : Bool :=
  match s.engine.readback with
  | some r =>
    r.inFlight.isNone && s.quietPort && decide (s.part = .running) &&
      (s.burstUrgent r || decide (s.burstLen r ≤ s.scheduler.credit))
  | none => false

/-- The kinds of internal operation the arbiter chooses among, in its order (R18). -/
inductive OpKind where
  | mark | report | startupRead | burst
  deriving DecidableEq, Repr

/-- The first ready kind in the order of R18. -/
def State.firstReady (s : State) : Option OpKind :=
  if s.markReady then some .mark
  else if s.reportReady then some .report
  else if s.startupReady then some .startupRead
  else if s.burstReady then some .burst
  else none

def State.anyReady (s : State) : Bool := s.firstReady.isSome

/-- The arbiter grants this boundary to internal operations, by the table of R16. -/
def State.internalTurn (s : State) (waiting : Bool) : Bool :=
  decide (s.part = .starting) || !waiting || decide (s.bridge.claim = Config.claimLimit)

/-- The arbiter starts an operation of this kind at this boundary (R16, R18). -/
def State.grants (s : State) (k : OpKind) (waiting : Bool) : Bool :=
  s.portFree && decide (s.firstReady = some k) && s.internalTurn waiting

/-- The bridge polls (R14): busy is yes, an operation is pending that busy alone holds back, and the host is not granted. -/
def State.polls (s : State) (waiting : Bool) : Bool :=
  s.portFree && s.bridge.busy && (s.modBridge fun b => { b with busy := false }).anyReady &&
    (decide (s.part = .starting) || !waiting)

/-- The ready line is high (R11): the part runs, the port is free, and the arbiter has not given the next boundary to an
internal operation, which it does when the claim count is 2 and an operation is ready (R16). -/
def State.readyHigh (s : State) : Bool :=
  decide (s.part = .running) && s.portFree && !(decide (s.bridge.claim = Config.claimLimit) && s.anyReady)

/-- The Flash Port select is asserted, between steps, for a collected command or an internal operation. -/
def State.flashSelect (s : State) : Bool := !s.portFree

/-! ### Claim count and pairing flag -/

/-- The claim count returns to 0 when no internal operation is ready (R16). -/
def State.settleClaim (s : State) : State :=
  if s.anyReady then s else s.modBridge fun b => { b with claim := 0 }

/-- The claim count at a tick (R16). -/
def State.tickClaim (s : State) : State :=
  if s.anyReady && !s.internalInFlight then
    s.modBridge fun b => { b with claim := min Config.claimLimit (b.claim + 1) }
  else s

/-- The bridge takes the opcode of a host command: the pairing flag is cleared (R17). -/
def State.takeOpcode (s : State) : State := s.modBridge fun b => { b with pairing := false }

/-! ### The part's own command forms (R18) -/

/-- The flash is 16 MiB, so that 3-byte forms are used. -/
def smallFlash (flashBytes : Nat) : Bool := decide (flashBytes = 0x01000000)

def readTxn (flashBytes addr len : Nat) : FlashTxn :=
  if smallFlash flashBytes then { opcode := 0x03, sent := beBytes 3 addr, reads := len }
  else { opcode := 0x13, sent := beBytes 4 addr, reads := len }

def programTxn (flashBytes addr : Nat) (data : List Byte) : FlashTxn :=
  if smallFlash flashBytes then { opcode := 0x02, sent := beBytes 3 addr ++ data, reads := 0 }
  else { opcode := 0x12, sent := beBytes 4 addr ++ data, reads := 0 }

def writeEnableTxn : FlashTxn := { opcode := 0x06, sent := [], reads := 0 }

def statusTxn : FlashTxn := { opcode := 0x05, sent := [], reads := 1 }

end Sys2Proof.Machine
end

