-- ==== Sys2Proof/Machine/Tracker.lean ====
section
/-! DEFINITION. The Chunk Tracker and the Digest Engine: digest contexts and the recency list (R97 to R104), what every
transition of a chunk carries with it (R70, R71), verdicts (R82 to R85, R91), the reports of an event (R72, R90, R123),
program events (R73 to R79) and erase events (R80, R81). -/

namespace Sys2Proof.Machine

/-! ### Contexts -/

/-- The stream context of the lowest number that is FREE (R100, R106). -/
def State.freeContext (s : State) : Option (Fin 3) := [0, 1, 2].find? fun k => (s.stream k).isNone

/-- A stream context becomes FREE and leaves the recency list (R97, R99). -/
def State.freeStream (k : Fin 3) (s : State) : State :=
  s.modEngine fun e => { e with streams := e.streams.set k none, recency := e.recency.filter (· ≠ k) }

/-- A stream context holds `x` and stands at the front of the recency list (R99). -/
def State.moveStreamToFront (k : Fin 3) (x : StreamCtx) (s : State) : State :=
  s.modEngine fun e => { e with streams := e.streams.set k (some x), recency := k :: e.recency.filter (· ≠ k) }

/-- The chunk's link is cleared (R68). -/
def State.unlink (w : Fin 32) (i : Nat) (s : State) : State := s.modChunk w i fun c => { c with link := none }

/-- End whatever digests the chunk: its stream is dropped, or its read-back is aborted and counted
(R70, R71, R80, R104, R114). -/
def State.endDigesting (w : Fin 32) (i : Nat) (s : State) : State :=
  match (s.chunk? w i).bind fun c => c.link with
  | some (.stream k) => (s.freeStream k).unlink w i
  | some .readback => ((s.setReadback none).countAbort).unlink w i
  | none => s

/-! ### Transitions -/

/-- The chunk's entry leaves the check queue, and the entries behind it close up (R71, R119). -/
def State.removeEntry (w : Fin 32) (i : Nat) (s : State) : State :=
  s.modScheduler fun c => { c with queue := c.queue.filter fun e => !(decide (e.window = w) && decide (e.chunk = i)) }

/-- The chunk goes to state `st` with an observed digest or none: a chunk that leaves UNCHECKED loses its entry
(R71), and the good count follows the chunk into and out of GOOD (R89). -/
def State.moveChunk (w : Fin 32) (i : Nat) (st : ChunkState) (observed : Option Digest) (s : State) : State :=
  match s.chunk? w i with
  | none => s
  | some c =>
    let moved := s.modChunk w i fun c =>
      { c with state := st, observed := observed, queued := c.queued && decide (st = .unchecked) }
    let counted := moved.modWin w fun v =>
      { v with goodCount := v.goodCount + (if st = .good then 1 else 0) - (if c.state = .good then 1 else 0) }
    if c.state = .unchecked ∧ st ≠ .unchecked then counted.removeEntry w i else counted

/-- The chunk becomes UNCHECKED, or stays so, and nothing digests it any more (R70, R76 to R79, R81, R88). -/
def State.disturb (w : Fin 32) (i : Nat) (s : State) : State := (s.endDigesting w i).moveChunk w i .unchecked none

def State.setDipTouched (w : Fin 32) (s : State) : State := s.modWin w fun v => { v with dipTouched := true }

/-! ### Reports of an event -/

/-- Raise IMAGE if completeness changed from the good count `before` (R72, R90). -/
def State.reportImage (w : Fin 32) (before : Nat) (s : State) : State :=
  match (s.win w).body with
  | .loaded _ c _ =>
    let now := (s.win w).goodCount
    if before < c.chunks.length ∧ now = c.chunks.length then
      s.raise (.image w false c.target c.version c.chunks.length now)
    else if before = c.chunks.length ∧ now < c.chunks.length then
      s.raise (.image w true c.target c.version c.chunks.length now)
    else s
  | .vacant | .defined _ | .opened _ _ | .rejected _ => s

def countState (chunks : List Chunk) (st : ChunkState) : Nat := chunks.countP fun c => decide (c.state = st)

/-- No chunk is UNCHECKED, CHECKING or FILLING (R123). -/
def settledChunks (chunks : List Chunk) : Bool :=
  chunks.all fun c => decide (c.state ≠ .unchecked ∧ c.state ≠ .checking ∧ c.state ≠ .filling)

/-- The completion test of a window whose check-report-wanted flag is set (R93, R123). -/
def State.completionTest (w : Fin 32) (s : State) : State :=
  match (s.win w).body with
  | .loaded _ c _ =>
    if (s.win w).checkReportWanted && settledChunks c.chunks then
      (s.raise (.checkDone w c.chunks.length (countState c.chunks .good) (countState c.chunks .bad)
        (countState c.chunks .erased))).modWin w fun v => { v with checkReportWanted := false }
    else s
  | .vacant | .defined _ | .opened _ _ | .rejected _ => s

/-- What ends an event on the chunks of one window: IMAGE and then CHECK_DONE (R72). -/
def State.closeEvent (w : Fin 32) (before : Nat) (s : State) : State := (s.reportImage w before).completionTest w

/-! ### Verdicts -/

/-- The chunk's observed digest is complete (R82, R83, R85): COMPUTED in an OPEN window; GOOD or BAD in a LOADED one,
counted, with CHUNK_BAD for BAD (R91). -/
def State.verdict (w : Fin 32) (i : Nat) (digest : Digest) (source : Source) (s : State) : State :=
  if (s.win w).body.isLoaded then
    if ((s.chunk? w i).bind fun c => c.expected) = some digest then
      (s.moveChunk w i .good (some digest)).countGoodVerdict
    else
      ((s.moveChunk w i .bad (some digest)).countBadVerdict).raise
        (.chunkBad w source i ((s.win w).body.chunkLen i))
  else s.moveChunk w i .computed (some digest)

/-! ### Program streams -/

/-- The stream to evict: the READ_STREAM member nearest the end of the recency list, or else its last member (R101). -/
def State.victim (s : State) : Option (Fin 3) :=
  let isRead := fun k => match s.stream k with
    | some x => decide (x.kind = .read)
    | none => false
  (s.engine.recency.reverse.find? isRead).or s.engine.recency.getLast?

/-- Evict a stream (R86, R101). -/
def State.evict (s : State) : State :=
  match s.victim with
  | none => s
  | some k =>
    match s.stream k with
    | none => s
    | some x =>
      let freed := (s.freeStream k).countEviction
      match x.kind with
      | .read => freed.unlink x.window x.chunk
      | .program => (freed.unlink x.window x.chunk).moveChunk x.window x.chunk .unchecked none

/-- A program stream reaches the chunk's end (R82, R103). -/
def State.finalizeStream (k : Fin 3) (w : Fin 32) (i : Nat) (run : Running) (source : Source) (s : State) : State :=
  ((s.freeStream k).unlink w i).verdict w i run.complete source

/-- A stream has digested up to `frontier`: it goes on, or it is complete (R75, R103, R107, R109). -/
def State.advanceStream (k : Fin 3) (x : StreamCtx) (source : Source) (s : State) : State :=
  if x.frontier = (s.win x.window).body.chunkLen x.chunk then s.finalizeStream k x.window x.chunk x.run source
  else s.moveStreamToFront k x

/-- A program event starts a stream on an ERASED chunk (R74, R100). -/
def State.startProgramStream (w : Fin 32) (i : Nat) (bytes : List Byte) (s : State) : State :=
  let roomy := if s.freeContext.isSome then s else s.evict
  match roomy.freeContext with
  | none => roomy
  | some k =>
    let x : StreamCtx :=
      { kind := .program, window := w, chunk := i, frontier := bytes.length, run := Running.start.absorb bytes }
    ((roomy.modChunk w i fun c => { c with state := .filling, link := some (.stream k) }).moveStreamToFront k x).advanceStream
      k x .stream

/-- The program stream that holds a chunk, with its context number. -/
def State.chunkStream (s : State) (w : Fin 32) (i : Nat) : Option (Fin 3 × StreamCtx) :=
  match (s.chunk? w i).bind fun c => c.link with
  | some (.stream k) => (s.stream k).map fun x => (k, x)
  | some .readback => none
  | none => none

/-- A stream digests bytes (R102, R107). -/
def StreamCtx.feed (x : StreamCtx) (bytes : List Byte) : StreamCtx :=
  { x with frontier := x.frontier + bytes.length, run := x.run.absorb bytes }

/-- A program event on a chunk with the supply NORMAL (R73 to R78). -/
def State.programChunk (w : Fin 32) (l : Landing) (data : List Byte) (s : State) : State :=
  match s.chunk? w l.chunk with
  | none => s
  | some c =>
    match c.state with
    | .erased =>
      if l.offset = 0 ∧ l.wraps = false then s.startProgramStream w l.chunk (data.take l.count)
      else s.disturb w l.chunk
    | .filling =>
      match s.chunkStream w l.chunk with
      | some (k, x) =>
        if l.offset = x.frontier ∧ l.wraps = false then s.advanceStream k (x.feed (data.take l.count)) .stream
        else s.disturb w l.chunk
      | none => s.disturb w l.chunk
    | .unchecked | .checking | .computed | .good | .bad => s.disturb w l.chunk

/-- A program event that names a chunk, with the supply of the moment (R73, R79, R150). -/
def State.programEvent (w : Fin 32) (l : Landing) (data : List Byte) (s : State) : State :=
  let before := (s.win w).goodCount
  if s.supply.state = .normal then (s.programChunk w l data).closeEvent w before
  else ((s.disturb w l.chunk).setDipTouched w).closeEvent w before

/-! ### Erase events -/

/-- A full-cover erase event with the supply NORMAL (R80). -/
def State.eraseFully (w : Fin 32) (i : Nat) (s : State) : State :=
  let ended := s.endDigesting w i
  match (s.win w).body with
  | .loaded _ c e =>
    if ((s.chunk? w i).bind fun c => c.expected) = some (erasedDigest c e i) then
      ended.moveChunk w i .good (some (erasedDigest c e i))
    else ended.moveChunk w i .erased none
  | .vacant | .defined _ | .opened _ _ | .rejected _ => ended.moveChunk w i .erased none

/-- An erase event on one chunk that the cover meets (R80, R81). -/
def State.eraseChunk (w : Fin 32) (cover : Nat × Nat) (s : State) (i : Nat) : State :=
  if (s.win w).body.chunkMet i [cover] then
    if s.supply.state = .normal then
      if (s.win w).body.chunkCovered i cover then s.eraseFully w i else s.disturb w i
    else (s.disturb w i).setDipTouched w
  else s

/-- The ranges hold an image byte of one or more chunks of the window. -/
def WinBody.anyChunkMet (b : WinBody) (ranges : List (Nat × Nat)) : Bool :=
  (List.range b.count).any fun i => b.chunkMet i ranges

/-- The erase events of one window, in ascending chunk index, with the window's reports (R10, R72). -/
def State.eraseWindow (cover : Nat × Nat) (s : State) (w : Fin 32) : State :=
  if (s.win w).body.anyChunkMet [cover] then
    ((List.range (s.win w).body.count).foldl (State.eraseChunk w cover) s).closeEvent w (s.win w).goodCount
  else s

/-! ### Dip marks -/

/-- What a dip mark has done so far: the state, the number of chunks it made UNCHECKED from another state, and the
windows it marked (R88, R156). -/
structure DipMark where
  st : State
  marked : Nat
  windows : Word32

/-- The dip mark on one chunk (R88). -/
def dipChunk (w : Fin 32) (ranges : List (Nat × Nat)) (m : DipMark) (i : Nat) : DipMark :=
  if (m.st.win w).body.chunkMet i ranges then
    { st := (m.st.disturb w i).setDipTouched w
      marked := m.marked +
        (match m.st.chunk? w i with
        | some c => if c.state = .unchecked then 0 else 1
        | none => 0)
      windows := m.windows ||| (1#32 <<< w.val) }
  else m

/-- The dip mark on the chunks of one window, with its IMAGE report (R72, R88). -/
def dipWindow (ranges : List (Nat × Nat)) (m : DipMark) (w : Fin 32) : DipMark :=
  if (m.st.win w).body.anyChunkMet ranges then
    let marked := (List.range (m.st.win w).body.count).foldl (dipChunk w ranges) m
    { marked with st := marked.st.closeEvent w (m.st.win w).goodCount }
  else m

/-- The dip mark of a touched list (R88). -/
def State.dipMark (ranges : List (Nat × Nat)) (s : State) : DipMark :=
  allWindows.foldl (dipWindow ranges) { st := s, marked := 0, windows := 0 }

end Sys2Proof.Machine
end

