-- ==== Sys2Proof/Machine/Queue.lean ====
section
/-! DEFINITION. The Check Scheduler: the check queue (R116 to R119), the quiet timers (R120), refill (R121), the CHECK record's
adds (R122) and BUDGET (R127). -/

namespace Sys2Proof.Machine

/-- The queue holds 64 entries (R116). -/
def State.queueFull (s : State) : Bool := decide (Config.queueEntries ≤ s.scheduler.queue.length)

def State.setQueued (w : Fin 32) (i : Nat) (q : Bool) (s : State) : State :=
  s.modChunk w i fun c => { c with queued := q }

def State.setQueue (q : List Entry) (s : State) : State := s.modScheduler fun c => { c with queue := q }

def State.setCheckWanted (w : Fin 32) (s : State) : State := s.modWin w fun v => { v with checkWanted := true }

/-- The chunk may be added: it is UNCHECKED and its queued field is no (R121, R122). -/
def State.addable (s : State) (w : Fin 32) (i : Nat) : Bool :=
  match s.chunk? w i with
  | some c => decide (c.state = .unchecked) && !c.queued
  | none => false

/-- A normal add with room in the queue (R117). -/
def State.addNormal (w : Fin 32) (i : Nat) (s : State) : State :=
  (s.setQueue (s.scheduler.queue ++ [{ window := w, chunk := i, urgent := false }])).setQueued w i true

/-- Place an urgent entry directly behind the last urgent entry (R118). -/
def placeUrgent (e : Entry) (queue : List Entry) : List Entry :=
  queue.takeWhile (fun x => x.urgent) ++ e :: queue.dropWhile (fun x => x.urgent)

def State.addUrgent (w : Fin 32) (i : Nat) (s : State) : State :=
  (s.setQueue (placeUrgent { window := w, chunk := i, urgent := true } s.scheduler.queue)).setQueued w i true

/-- Remove the youngest normal entry for an urgent add; the displaced chunk's window gets check-wanted (R118, R122). -/
def State.displace (youngest : Entry) (s : State) : State :=
  ((s.setQueue s.scheduler.queue.dropLast).setQueued youngest.window youngest.chunk false).setCheckWanted youngest.window

/-! ### Refill (R121) -/

/-- One pass over window `w`: at most `fuel` indices are left, `added` tells whether an entry was added. A pass that
ends with the queue full leaves check-wanted set; so does one that added an entry; one that examined all
indices and added nothing clears it. -/
def State.passWindow (w : Fin 32) : Nat → Bool → State → State
  | 0, added, s => if added then s else s.modWin w fun v => { v with checkWanted := false }
  | fuel + 1, added, s =>
    if s.queueFull then s
    else
      let i := (s.win w).cursor
      let next := if i + 1 < (s.win w).body.count then i + 1 else 0
      if s.addable w i then
        State.passWindow w fuel true ((s.addNormal w i).modWin w fun v => { v with cursor := next })
      else State.passWindow w fuel added (s.modWin w fun v => { v with cursor := next })

/-- The refill's turn of one window: a pass if the window is LOADED, wants a check, and the queue has room. -/
def State.refillWindow (s : State) (w : Fin 32) : State :=
  if (s.win w).body.isLoaded && (s.win w).checkWanted && !s.queueFull then
    s.passWindow w (s.win w).body.count false
  else s

/-- One pass over every window that wants it, in ascending window number. -/
def State.sweep (s : State) : State := allWindows.foldl State.refillWindow s

/-- Refill (R121). It is applied again as long as its conditions hold; a second sweep over windows whose first passes
were completed adds nothing and clears their flags, and a sweep that fills the queue ends the refill, so two sweeps
are all that can act. -/
def State.refill (s : State) : State := s.sweep.sweep

/-! ### Quiet timers (R120) -/

/-- The quiet interval of a window's geometry as a started timer: stopped when the interval is 0 (R120). -/
def WinBody.quietStart (b : WinBody) : Option Nat :=
  match b.geom? with
  | some g => if g.quiet = 0 then none else some g.quiet
  | none => none

/-- A forwarded program or erase touches the window: the timer of a LOADED window restarts (R120). -/
def State.restartQuiet (w : Fin 32) (s : State) : State :=
  if (s.win w).body.isLoaded then s.modWin w fun v => { v with quiet := v.body.quietStart } else s

/-- The quiet timer's expiry: it stops, and check-wanted is set (R120, R121). -/
def State.expireQuiet (w : Fin 32) (s : State) : State :=
  s.modWin w fun v => { v with quiet := none, checkWanted := true }

/-- A tick on the quiet timer of one window (R120). -/
def State.tickQuiet (s : State) (w : Fin 32) : State :=
  match (s.win w).quiet with
  | none => s
  | some n => if n ≤ 1 then s.expireQuiet w else s.modWin w fun v => { v with quiet := some (n - 1) }

/-! ### The CHECK record -/

/-- CHECK's add for one chunk: urgent or normal, with the flags of R122 for a chunk that is not placed and for a
displaced one (R117, R118, R122). -/
def State.checkChunk (w : Fin 32) (urgent : Bool) (s : State) (i : Nat) : State :=
  if s.addable w i then
    if urgent then
      if s.queueFull then
        match s.scheduler.queue.getLast? with
        | some youngest =>
          if youngest.urgent then s.setCheckWanted w else (s.displace youngest).addUrgent w i
        | none => s
      else s.addUrgent w i
    else if s.queueFull then s.setCheckWanted w
    else s.addNormal w i
  else s

/-- CHECK on a LOADED window (R122): the adds, check-report-wanted, and the completion test. -/
def State.check (w : Fin 32) (urgent : Bool) (s : State) : State :=
  (((List.range (s.win w).body.count).foldl (State.checkChunk w urgent) s).modWin w fun v =>
    { v with checkReportWanted := true }).completionTest w

/-- BUDGET: the values are clamped as they are taken, and the credit is clamped to the new cap (R127). -/
def Scheduler.budget (rate cap : Nat) (c : Scheduler) : Scheduler :=
  { c with rate := min rate Config.rateMax, cap := max cap Config.capMin, credit := min c.credit (max cap Config.capMin) }

/-- A tick on the credit (R125). -/
def Scheduler.tickCredit (c : Scheduler) : Scheduler := { c with credit := min c.cap (c.credit + c.rate) }

end Sys2Proof.Machine
end

