-- ==== Sys2Proof/Machine/Views.lean ====
section
/-! DEFINITION. Install View Control: the records VIEW, UNVIEW, HOLD, RELEASE and COMMIT (R129 to R144) and the COMMIT report
(R145). Every record here passed its length test already (R178). -/

namespace Sys2Proof.Machine

/-- How a record reaches its owner: live, or at replay as kept or as fresh (R168). -/
inductive Mode where
  | live | replayKept | replayFresh
  deriving DecidableEq, Repr

/-- What an owner makes of a record: taken; a COMMIT taken as pending; refused with a reason; or a COMMIT refused by a
commit check, whose COMMIT report stands for RECORD_REFUSED (R138, R161). -/
inductive Ruling where
  | taken (s : State)
  | pended (s : State)
  | refused (s : State) (reason : Reason)
  | commitRefused (s : State)

/-- The window number a field names, if it is 0..31. -/
def windowNumber (n : Nat) : Option (Fin 32) := if h : n < 32 then some ⟨n, h⟩ else none

/-- The view number a field names, if it is 0..7. -/
def viewNumber (n : Nat) : Option (Fin 8) := if h : n < 8 then some ⟨n, h⟩ else none

/-- The bank a code names (R180). -/
def Bank.ofCode : Nat → Option Bank
  | 0 => some .a
  | 1 => some .b
  | _ => none

/-- A window is not VACANT. -/
def WinBody.present (b : WinBody) : Bool := b.geom?.isSome

/-- The window is bank A or bank B of a present view. -/
def State.isBank (s : State) (w : Fin 32) : Bool :=
  allViews.any fun v =>
    match s.view v with
    | some view => decide (view.bankA = w) || decide (view.bankB = w)
    | none => false

/-- The window is the selected bank window of a present view (R52). -/
def State.isCurrent (s : State) (w : Fin 32) : Bool :=
  allViews.any fun v =>
    match s.view v with
    | some view => decide (view.current = w)
    | none => false

/-- Two ranges hold a common byte. -/
def overlaps (lo hi lo' hi' : Nat) : Bool := decide (max lo lo' < min hi hi')

/-- The range meets a view range other than that of `except` (R25, R129). -/
def State.meetsOtherView (s : State) (except : Option (Fin 8)) (lo hi : Nat) : Bool :=
  allViews.any fun v =>
    match s.view v with
    | some view => decide (some v ≠ except) && overlaps lo hi view.base (view.base + s.viewSize view)
    | none => false

/-- The range meets the range of a window other than `except` that is not VACANT (R25, R129). -/
def State.meetsOtherWindow (s : State) (except : Option (Fin 32)) (lo hi : Nat) : Bool :=
  allWindows.any fun w => decide (some w ≠ except) && (s.win w).body.meets lo hi

/-- The range holds a byte of the control region (R23). -/
def State.meetsControl (s : State) (lo hi : Nat) : Bool := overlaps lo hi (commandBase s.straps) (reportEnd s.straps)

/-! ### VIEW, UNVIEW, HOLD -/

/-- The first check of R129 that fails. -/
def State.viewRefusal (s : State) (v : Fin 8) (a b : Fin 32) (base : Nat) : Option Reason :=
  if base % Config.blockBytes ≠ 0 then some .range
  else if (s.view v).isSome then some .state
  else if (s.win a).body.present = false ∨ (s.win b).body.present = false then some .state
  else if s.isBank a ∨ s.isBank b then some .state
  else if a = b ∨ (s.win a).body.size ≠ (s.win b).body.size ∨ (s.win a).body.chunkSize ≠ (s.win b).body.chunkSize
    then some .range
  else if s.flashBytes < base + (s.win a).body.size then some .overlap
  else if s.meetsOtherWindow none base (base + (s.win a).body.size) ∨
      s.meetsOtherView none base (base + (s.win a).body.size) ∨ s.meetsControl base (base + (s.win a).body.size)
    then some .overlap
  else none

/-- A VIEW record (R129, R130). -/
def State.takeView (bytes : List Byte) (s : State) : Ruling :=
  match viewNumber (field bytes 8 1), windowNumber (field bytes 9 1), windowNumber (field bytes 10 1) with
  | some v, some a, some b =>
    match s.viewRefusal v a b (field bytes 12 4) with
    | some r => .refused s r
    | none =>
      .taken (s.setView v (some
        { base := field bytes 12 4, bankA := a, bankB := b, selected := .a, held := false, pendingCommit := none }))
  | _, _, _ => .refused s .range

/-- An UNVIEW record (R131). -/
def State.takeUnview (bytes : List Byte) (s : State) : Ruling :=
  match viewNumber (field bytes 8 1) with
  | none => .refused s .range
  | some v =>
    match s.view v with
    | none => .refused s .state
    | some view => if view.held then .refused s .state else .taken (s.setView v none)

/-- A HOLD record (R134). -/
def State.takeHold (bytes : List Byte) (s : State) : Ruling :=
  match viewNumber (field bytes 8 1) with
  | none => .refused s .range
  | some v =>
    match s.view v with
    | none => .refused s .state
    | some view => if view.held then .refused s .state else .taken (s.setView v (some { view with held := true }))

/-! ### COMMIT and RELEASE -/

/-- The target code and version of a LOADED window; 0 otherwise (R145). -/
def WinBody.identity (b : WinBody) : Nat × Nat :=
  match b with
  | .loaded _ c _ => (c.target, c.version)
  | .vacant | .defined _ | .opened _ _ | .rejected _ => (0, 0)

/-- Raise a COMMIT report for view `v` as it stands (R145). -/
def State.raiseCommit (v : Fin 8) (view : View) (outcome : CommitOutcome) (reason : Option Reason) (bank : Bank)
    (recordAddr : Nat) (s : State) : State :=
  s.raise (.commit v outcome reason bank (view.window bank) view.current
    (s.win (view.window bank)).body.identity.1 (s.win (view.window bank)).body.identity.2 recordAddr)

/-- Request the mark of a pending commit's record, unless an erase took the record away (R162). -/
def State.markCommit (pc : PendingCommit) (kind : MarkKind) (s : State) : State :=
  if pc.recordStands then s.requestMark { addr := pc.recordAddr + 1, kind := kind, restart := false } else s

/-- A pending commit of view `v` is dropped: it becomes absent, its record's void mark is requested, and COMMIT (DROPPED)
is raised (R137, R141, R142, R143). -/
def State.dropPending (v : Fin 8) (view : View) (pc : PendingCommit) (reason : Reason) (s : State) : State :=
  ((s.setView v (some { view with pendingCommit := none })).markCommit pc .void).raiseCommit v view .dropped
    (some reason) pc.bank pc.recordAddr

/-- The first commit check that fails (R138). -/
def State.commitRefusal (s : State) (staging current : Fin 32) : Option Reason :=
  match (s.win staging).body with
  | .loaded _ c _ =>
    if (s.win staging).goodCount ≠ c.chunks.length then some .incomplete
    else
      match (s.win current).body with
      | .loaded _ cur _ =>
        if c.target ≠ cur.target then some .target
        else if s.straps.rollback = false ∧ c.version ≤ cur.version then some .version
        else none
      | .vacant | .defined _ | .opened _ _ | .rejected _ => none
  | .vacant | .defined _ | .opened _ _ | .rejected _ => some .state

/-- A COMMIT that passed its structural checks (R137 to R141, R144). -/
def State.commit (mode : Mode) (addr : Nat) (v : Fin 8) (view : View) (bank : Bank) (s : State) : Ruling :=
  if bank = view.selected then
    match view.pendingCommit with
    | some pc => .taken (s.dropPending v view pc .replaced)
    | none => .taken s
  else if mode = .replayKept then .taken (s.setView v (some { view with selected := bank }))
  else
    match s.commitRefusal (view.window bank) view.current with
    | some r => .commitRefused (s.raiseCommit v view .refused (some r) bank addr)
    | none =>
      if view.held then
        let cleared := match view.pendingCommit with
          | some pc => s.dropPending v view pc .replaced
          | none => s
        .pended ((cleared.setView v (some
          { view with pendingCommit := some { bank := bank, recordAddr := addr, recordStands := true } })).raiseCommit
            v view .pending none bank addr)
      else .taken ((s.setView v (some { view with selected := bank })).raiseCommit v view .taken none bank addr)

/-- A COMMIT record that begins at `addr` (R137). -/
def State.takeCommit (mode : Mode) (addr : Nat) (bytes : List Byte) (s : State) : Ruling :=
  match viewNumber (field bytes 8 1), Bank.ofCode (field bytes 9 1) with
  | some v, some bank =>
    match s.view v with
    | none => .refused s .state
    | some view => s.commit mode addr v view bank
  | _, _ => .refused s .range

/-- RELEASE on a HELD view: it becomes IDLE, and a pending commit is applied or dropped (R135, R142). -/
def State.release (v : Fin 8) (view : View) (s : State) : State :=
  let idle := { view with held := false, pendingCommit := none }
  match view.pendingCommit with
  | none => s.setView v (some idle)
  | some pc =>
    match s.commitRefusal (view.window pc.bank) view.current with
    | some r => s.dropPending v { view with held := false } pc r
    | none =>
      ((s.setView v (some { idle with selected := pc.bank })).markCommit pc .kept).raiseCommit v view .taken none pc.bank
        pc.recordAddr

/-- A RELEASE record (R135). -/
def State.takeRelease (bytes : List Byte) (s : State) : Ruling :=
  match viewNumber (field bytes 8 1) with
  | none => .refused s .range
  | some v =>
    match s.view v with
    | none => .refused s .state
    | some view => if view.held then .taken (s.release v view) else .refused s .state

end Sys2Proof.Machine
end

