-- ==== Sys2Proof/Machine/Catalogue.lean ====
section
/-! DEFINITION. The Catalogue Store and the WINDOW record: the pool's first fit (R47 to R49), teardown (R50, R51), MANIFEST (R52 to
R54), DIGESTS (R55 to R59), the entry to LOADED (R60 to R62), DROP (R63) and WINDOW (R25, R26). Every record here passed
its length test already (R178). -/

namespace Sys2Proof.Machine

/-! ### The chunk pool -/

/-- The pool indices of a window's run: from run start, one for each chunk (R46, R47). -/
def WinBody.run (b : WinBody) : Nat × Nat :=
  match b.cat? with
  | some c => (c.runStart, c.runStart + c.chunks.length)
  | none => (0, 0)

/-- The allocation map: the window to which a pool index is allocated, or none if it is free (R47). It is a view of
the runs of the catalogues. -/
def State.poolOwner (s : State) (p : Nat) : Option (Fin 32) :=
  allWindows.find? fun w => decide ((s.win w).body.run.1 ≤ p) && decide (p < (s.win w).body.run.2)

/-- The records p..p+n−1 are available to window `w`: free, or of its own present run (R48). -/
def State.runAvailable (s : State) (w : Fin 32) (n p : Nat) : Bool :=
  allWindows.all fun u => decide (u = w) || !overlaps p (p + n) (s.win u).body.run.1 (s.win u).body.run.2

/-- Lowest-index first fit (R48). -/
def State.firstFit (s : State) (w : Fin 32) (n : Nat) : Option Nat :=
  (List.range (Config.poolRecords + 1 - n)).find? fun p => s.runAvailable w n p

/-! ### Teardown (R50, R51) -/

/-- Every context that holds a chunk of the window becomes free; an open read-back of it is aborted and counted. -/
def State.freeWindowContexts (w : Fin 32) (s : State) : State :=
  let freed := ([0, 1, 2] : List (Fin 3)).foldl (fun s k =>
    match s.stream k with
    | some x => if x.window = w then s.freeStream k else s
    | none => s) s
  match freed.engine.readback with
  | some r => if r.window = w then (freed.setReadback none).countAbort else freed
  | none => freed

/-- Drop the pending commits whose staging window is this window (R50, R143). -/
def State.dropStagedCommit (w : Fin 32) (s : State) (v : Fin 8) : State :=
  match s.view v with
  | some view =>
    match view.pendingCommit with
    | some pc => if view.window pc.bank = w then s.dropPending v view pc .state else s
    | none => s
  | none => s

/-- Teardown of the catalogue of an OPEN or LOADED window; the caller gives the window its next state. IMAGE (lost)
is raised first and COMMIT (DROPPED) second, before the catalogue is discarded (R51, R145). -/
def State.teardown (w : Fin 32) (next : WinBody) (s : State) : State :=
  let lost := match (s.win w).body with
    | .loaded _ c _ =>
      if (s.win w).goodCount = c.chunks.length then
        s.raise (.image w true c.target c.version c.chunks.length 0)
      else s
    | .vacant | .defined _ | .opened _ _ | .rejected _ => s
  let dropped := allViews.foldl (State.dropStagedCommit w) lost
  ((dropped.freeWindowContexts w).modScheduler fun c =>
      { c with queue := c.queue.filter fun e => decide (e.window ≠ w) }).modWin w fun v =>
    { v with body := next, goodCount := 0, checkWanted := false, checkReportWanted := false, dipTouched := false
             quiet := none, cursor := 0 }

/-! ### WINDOW (R25, R26) -/

/-- The chunk sizes of the codes 0..4 (R24). -/
def chunkSizeOf : Nat → Option Nat
  | 0 => some 4096
  | 1 => some 8192
  | 2 => some 16384
  | 3 => some 32768
  | 4 => some 65536
  | _ => none

/-- The guard mode a code names (R25). -/
def guardModeOf : Nat → Option Bool
  | 0 => some false
  | 1 => some true
  | _ => none

/-- The first of the checks 5 to 7 of R25 that fails. -/
def State.windowRefusal (s : State) (w : Fin 32) (base size : Nat) : Option Reason :=
  if (s.win w).body.cat?.isSome then some .state
  else if s.isBank w then some .state
  else if s.meetsOtherWindow (some w) base (base + size) ∨ s.meetsOtherView none base (base + size) ∨
      s.meetsControl base (base + size)
    then some .overlap
  else none

/-- The window's state with a new geometry (R26). -/
def WinBody.redefine (g : Geometry) : WinBody → WinBody
  | .vacant => .defined g
  | .defined _ => .defined g
  | .opened _ c => .opened g c
  | .loaded _ c e => .loaded g c e
  | .rejected _ => .rejected g

/-- A WINDOW record (R25, R26). -/
def State.takeWindow (bytes : List Byte) (s : State) : Ruling :=
  match windowNumber (field bytes 8 1), chunkSizeOf (field bytes 9 1), guardModeOf (field bytes 10 1) with
  | some w, some chunkSize, some guarded =>
    let base := field bytes 12 4
    let size := field bytes 16 4
    if base % Config.blockBytes ≠ 0 ∨ size % Config.blockBytes ≠ 0 ∨ size < Config.blockBytes ∨ Config.maxWindowBytes < size
    then .refused s .range
    else if s.flashBytes < base + size then .refused s .range
    else
      match s.windowRefusal w base size with
      | some r => .refused s r
      | none =>
        let g : Geometry :=
          { base := base, size := size, chunkSize := chunkSize, guarded := guarded
            fill := BitVec.ofNat 8 (field bytes 11 1), quiet := field bytes 20 2 }
        .taken (s.modWin w fun v => { v with body := v.body.redefine g })
  | _, _, _ => .refused s .range

/-! ### MANIFEST (R52 to R54) -/

/-- The chunk count of an image (R27). -/
def chunkCount (len chunkSize : Nat) : Nat := (len + chunkSize - 1) / chunkSize

/-- The first of the checks 2 to 4 of R52 that fails. -/
def State.manifestRefusal (s : State) (w : Fin 32) (len : Nat) : Option Reason :=
  match (s.win w).body.geom? with
  | none => some .state
  | some g =>
    if len < 1 ∨ min g.size (Config.maxChunks * g.chunkSize) < len then some .range
    else if s.isCurrent w then some .activeBank
    else none

/-- Open a new catalogue on a window's geometry (R53), after the teardown of a present one (R54). -/
def State.openCatalogue (w : Fin 32) (g : Geometry) (c : Catalogue) (s : State) : State :=
  if (s.win w).body.cat?.isSome then s.teardown w (.opened g c)
  else s.modWin w fun v =>
    { v with body := .opened g c, goodCount := 0, checkWanted := false, checkReportWanted := false
             dipTouched := false, quiet := none, cursor := 0 }

/-- A MANIFEST record (R52 to R54). -/
def State.takeManifest (bytes : List Byte) (s : State) : Ruling :=
  match windowNumber (field bytes 8 1) with
  | none => .refused s .range
  | some w =>
    match s.manifestRefusal w (field bytes 16 4), (s.win w).body.geom? with
    | some r, _ => .refused s r
    | none, none => .refused s .state
    | none, some g =>
      let n := chunkCount (field bytes 16 4) g.chunkSize
      match s.firstFit w n with
      | none => .refused s .poolFull
      | some p =>
        .taken (s.openCatalogue w g
          { target := field bytes 10 2, version := field bytes 12 4, len := field bytes 16 4
            list := digestOf ((bytes.drop 20).take 16), runStart := p, received := 0
            chunks := List.replicate n Chunk.fresh })

/-! ### DIGESTS (R55 to R59) and the entry to LOADED (R60 to R62) -/

/-- The digests of a DIGESTS record: digest j stands at 12 + 16j (section 11.1). -/
def recordDigests (k : Nat) (bytes : List Byte) : List Digest :=
  (List.range k).map fun j => digestOf ((bytes.drop (12 + 16 * j)).take 16)

/-- The offered digest conflicts with the chunk's expected digest (R55). -/
def Chunk.conflicts (c : Chunk) (d : Digest) : Bool :=
  match c.expected with
  | some e => decide (e ≠ d)
  | none => false

/-- Store the digests offered from chunk index `i` on: a new one becomes the expected digest, an equal one changes
nothing (R56). -/
def offerDigests (i : Nat) : List Digest → List Chunk → List Chunk
  | [], chunks => chunks
  | d :: ds, chunks => offerDigests (i + 1) ds (chunks.modify i fun c => { c with expected := some (c.expected.getD d) })

/-- Some offered digest conflicts (R56, R57). -/
def anyConflict (i : Nat) (ds : List Digest) (chunks : List Chunk) : Bool :=
  (List.range ds.length).any fun j =>
    match chunks[i + j]?, ds[j]? with
    | some c, some d => c.conflicts d
    | _, _ => false

/-- The number of chunks whose expected digest is present (R46). -/
def presentDigests (chunks : List Chunk) : Nat := chunks.countP fun c => c.expected.isSome

/-- The byte string of the list digest (R58). -/
def listString (chunks : List Chunk) : List Byte := chunks.flatMap fun c => digestBytes (c.expected.getD 0)

/-- The two erased digests of a catalogue (R60). -/
def erasedDigests (g : Geometry) (c : Catalogue) : ErasedDigests :=
  { whole := chunkDigest (List.replicate g.chunkSize 0xFF)
    last := chunkDigest (List.replicate (c.len - (c.chunks.length - 1) * g.chunkSize) 0xFF) }

/-- The load comparison of one chunk, without its reports (R61). -/
def State.loadCompare (w : Fin 32) (c : Catalogue) (e : ErasedDigests) (s : State) (i : Nat) : State :=
  match s.chunk? w i with
  | none => s
  | some chunk =>
    match chunk.state with
    | .computed =>
      if chunk.observed = chunk.expected then (s.moveChunk w i .good chunk.observed).countGoodVerdict
      else (s.moveChunk w i .bad chunk.observed).countBadVerdict
    | .erased =>
      if chunk.expected = some (erasedDigest c e i) then s.moveChunk w i .good chunk.expected else s
    | .unchecked | .filling | .checking | .good | .bad => s

/-- Raise CHUNK_BAD for a chunk that the load comparison made BAD (R61, R91). -/
def State.raiseLoadBad (w : Fin 32) (s : State) (i : Nat) : State :=
  match s.chunk? w i with
  | some c => if c.state = .bad then s.raise (.chunkBad w .load i ((s.win w).body.chunkLen i)) else s
  | none => s

/-- The window enters LOADED (R60 to R62): erased digests, quiet timer, load comparisons, and then the reports
CATALOGUE (loaded), CHUNK_BAD in index order and IMAGE (verified). -/
def State.enterLoaded (w : Fin 32) (g : Geometry) (c : Catalogue) (s : State) : State :=
  let e := erasedDigests g c
  let entered := s.modWin w fun v => { v with body := .loaded g c e, quiet := (WinBody.defined g).quietStart }
  let compared := (List.range c.chunks.length).foldl (State.loadCompare w c e) entered
  let told := compared.raise
    (.catalogue w none c.target c.chunks.length c.version (compared.win w).goodCount)
  ((List.range c.chunks.length).foldl (State.raiseLoadBad w) told).reportImage w 0

/-- An OPEN window is rejected (R59). -/
def State.reject (w : Fin 32) (g : Geometry) (c : Catalogue) (reason : Reason) (s : State) : State :=
  (s.teardown w (.rejected g)).raise (.catalogue w (some reason) c.target c.chunks.length c.version 0)

/-- A DIGESTS record that passed its checks, in an OPEN window (R56, R58). -/
def State.offerOpen (w : Fin 32) (g : Geometry) (c : Catalogue) (i : Nat) (ds : List Digest) (s : State) : State :=
  if anyConflict i ds c.chunks then s.reject w g c .conflict
  else
    let chunks := offerDigests i ds c.chunks
    let c' := { c with chunks := chunks, received := c.received + (presentDigests chunks - presentDigests c.chunks) }
    let stored := s.modWin w fun v => { v with body := .opened g c' }
    if c'.received = c.chunks.length then
      if chunkDigest (listString chunks) = c.list then stored.enterLoaded w g c' else stored.reject w g c' .list
    else stored

/-- A DIGESTS record (R55 to R57). -/
def State.takeDigests (bytes : List Byte) (s : State) : Ruling :=
  let k := field bytes 9 1
  let i := field bytes 10 2
  match windowNumber (field bytes 8 1) with
  | none => .refused s .range
  | some w =>
    if k < 1 ∨ Config.digestsPerRecord < k then .refused s .range
    else
      match (s.win w).body with
      | .opened g c =>
        if c.chunks.length < i + k then .refused s .range
        else .taken (s.offerOpen w g c i (recordDigests k bytes))
      | .loaded _ c _ =>
        if c.chunks.length < i + k then .refused s .range
        else if anyConflict i (recordDigests k bytes) c.chunks then .refused s .conflict
        else .taken s
      | .vacant | .defined _ | .rejected _ => .refused s .state

/-! ### DROP (R63) -/

/-- A DROP record (R63). -/
def State.takeDrop (bytes : List Byte) (s : State) : Ruling :=
  match windowNumber (field bytes 8 1) with
  | none => .refused s .range
  | some w =>
    if (s.win w).body.present = false then .refused s .state
    else if s.isBank w then .refused s .state
    else
      let torn := if (s.win w).body.cat?.isSome then s.teardown w .vacant else s.modWin w fun v => { v with body := .vacant }
      .taken (torn.modWin w fun v => { v with fillReported := false })

end Sys2Proof.Machine
end

