-- ==== Sys2Proof/Machine/Power.lean ====
section
/-! DEFINITION. The Supply Monitor's entries to DIP and NORMAL (R149, R154, R156), what a band change and a tick do to the supply
state (R147), and the reset with its reading of the band (R148, R166). -/

namespace Sys2Proof.Machine

/-- A dip that begins over bytes of the record being collected taints it (R152). -/
def Parser.dipTaint (ranges : List (Nat × Nat)) (p : Parser) : Parser :=
  match p.phase with
  | .inRecord bytes taint =>
    { p with phase := .inRecord bytes (taint || rangesMeet ranges p.cursor (p.cursor + bytes.length)) }
  | .ready | .broken => p

/-- Step 1 of R149: the dip mark and the record taint, if the flash is busy with owner host. -/
def State.dipStrike (s : State) : DipMark :=
  if s.bridge.busy ∧ s.bridge.owner = .host then
    let ranges := s.bridge.touched.ranges s.flashBytes
    let m := s.dipMark ranges
    { m with st := m.st.modParser (Parser.dipTaint ranges) }
  else { st := s, marked := 0, windows := 0 }

/-- Steps 2 and 3 of R149 on the Supply Monitor. `fresh` is true for an entry from NORMAL or at reset. -/
def Supply.enterDip (fresh : Bool) (ms : Word32) (p : Supply) : Supply :=
  { p with
    state := .dip, settle := none, latch := false
    away :=
      if fresh then some { leftAt := ms, entries := 1 }
      else p.away.map fun a => { a with entries := countUp a.entries } }

/-- The part enters DIP (R149): dip mark, latch, away record, and SUPPLY (dip) on an entry from NORMAL or at reset. -/
def State.enterDip (fresh : Bool) (s : State) : State :=
  let m := s.dipStrike
  let dipped := m.st.modSupply (Supply.enterDip fresh s.scheduler.ms)
  if fresh then
    dipped.raise (.supply false s.bridge.owner 1 s.scheduler.ms 0 m.marked m.windows)
  else dipped

/-- The windows whose dip-touched flag is set, as a set of window numbers (R156). -/
def State.dipTouchedSet (s : State) : Word32 :=
  allWindows.foldl (fun set w => if (s.win w).dipTouched then set ||| (1#32 <<< w.val) else set) 0

/-- Step 1 of R154 for one window. -/
def State.convertDip (s : State) (w : Fin 32) : State :=
  if (s.win w).dipTouched then s.modWin w fun v => { v with checkWanted := true, dipTouched := false } else s

/-- The part enters NORMAL from SETTLING (R154), with the millisecond count `now` at the entry (R156). -/
def State.enterNormal (now : Word32) (s : State) : State :=
  let steady := s.modSupply fun p => { p with state := .normal, settle := none }
  let refilled := (allWindows.foldl State.convertDip steady).refill
  let away := s.supply.away.getD { leftAt := 0, entries := 0 }
  (refilled.raise (.supply true .nobody away.entries away.leftAt (now - away.leftAt) 0 s.dipTouchedSet)).modSupply
    fun p => { p with away := none }

/-- A band change (R147); the band already held is no event. -/
def State.bandEvent (band : Band) (s : State) : State :=
  if band = s.supply.band then s
  else
    let held := s.modSupply fun p => { p with band := band }
    match s.supply.state, band with
    | .normal, .low => held.enterDip true
    | .normal, .mid => held
    | .normal, .high => held
    | .dip, .high => held.modSupply fun p => { p with state := .settling, settle := some Config.settleTicks }
    | .dip, .mid => held
    | .dip, .low => held
    | .settling, .low => held.enterDip false
    | .settling, .mid => held.modSupply fun p => { p with settle := none }
    | .settling, .high => held.modSupply fun p => { p with settle := some Config.settleTicks }

/-- A tick on the settle timer (R147), behind the tick's share of the millisecond count. -/
def State.tickSettle (s : State) : State :=
  match s.supply.state, s.supply.settle with
  | .settling, some n => if n ≤ 1 then s.enterNormal s.scheduler.ms else s.modSupply fun p => { p with settle := some (n - 1) }
  | .settling, none => s
  | .normal, _ => s
  | .dip, _ => s

/-- A reset (R166): every block at its values after reset, and the band read together with the straps (R148). -/
def State.resetWith (cause : ResetCause) (pins : Straps) (band : Band) (pending : List Instr) : State :=
  let s := State.cleared cause pins band pending
  if band = .high then s else s.enterDip true

/-- The reset of a RESTART record (R165): the straps are sampled as their pins stand (R166), and the band is the one held. -/
def State.restart (s : State) : State := State.resetWith .restart s.strapPins s.supply.band s.pending

/-- The restart takes place if a RESTART's mark is lost, written or removed (R165). -/
def State.restartIf (now : Bool) (s : State) : State := if now then s.restart else s

end Sys2Proof.Machine
end

