-- ==== Sys2Proof/Machine/Electrical.lean ====
section
/-! DEFINITION. The electrical events: a band change (R146, R147) and the resets (R148, R166). -/

namespace Sys2Proof.Machine

/-- The sense enters a band; the band already held is no event (R147). -/
def State.changeBand (band : Band) (s : State) : State :=
  if band = s.supply.band then s else (s.bandEvent band).refill.settleClaim

/-- BAND_CHANGE (R147). A part held in reset reads the band when the reset ends (R148). -/
def execBandChange (band : Band) (s : State) : Host.Outcome State Fault Refusal :=
  if s.part = .held then .next s else .next (s.changeBand band)

/-- POWER_ON_RESET (R166), with the straps and the band as they stand. -/
def execPowerOnReset (straps : Straps) (band : Band) (s : State) : Host.Outcome State Fault Refusal :=
  .next (State.resetWith .supply straps band s.pending)

/-- RESET_PIN_ASSERT (R166): the part is in reset, with ready low and the Flash Port select released. -/
def execResetPinAssert (s : State) : Host.Outcome State Fault Refusal :=
  .next { State.cleared .pin s.strapPins s.supply.band s.pending with part := .held }

/-- RESET_PIN_RELEASE (R166): the reset ends with cause PIN. A pin that was not held low for 10 µs has no effect on the part; the
step still says how the strap pins stand, and a RESTART that follows samples them so. -/
def execResetPinRelease (straps : Straps) (band : Band) (s : State) : Host.Outcome State Fault Refusal :=
  if s.part = .held then .next (State.resetWith .pin straps band s.pending)
  else .next { s with strapPins := straps }

end Sys2Proof.Machine
end

