-- ==== Sys2Proof/Machine/Slot.lean ====
section
/-! DEFINITION. Report slots (R179), the codes in them (R180), and the ones'-complement check of records and slots
(R158, R179). -/

namespace Sys2Proof.Machine

/-! ### The check -/

/-- End-around-carry addition of a 16-bit unit (R158). -/
def onesAdd (sum unit : Nat) : Nat :=
  if 0xFFFF < sum + unit then sum + unit - 0x10000 + 1 else sum + unit

/-- The 16-bit little-endian units of a byte string (R158). -/
def units : List Byte → List Nat
  | a :: b :: rest => (a.toNat + 256 * b.toNat) :: units rest
  | _ => []

/-- The complement of the ones'-complement sum of the units (R158). -/
def onesCheck (us : List Nat) : Nat := 0xFFFF - us.foldl onesAdd 0

/-- The check of a record: the disposition byte taken as FFh and the check unit as 0000h (R158). -/
def recordCheck (bytes : List Byte) : Nat := onesCheck (units (((bytes.set 1 0xFF).set 4 0).set 5 0))

/-- The record is intact (R158). -/
def recordIntact (bytes : List Byte) : Bool := decide (recordCheck bytes = field bytes 4 2)

/-! ### Codes (R180) -/

def Reason.code : Reason → Nat
  | .badCheck => 0x01
  | .supply => 0x02
  | .unknownKind => 0x03
  | .range => 0x04
  | .state => 0x05
  | .overlap => 0x06
  | .poolFull => 0x07
  | .activeBank => 0x08
  | .conflict => 0x09
  | .list => 0x0A
  | .incomplete => 0x0B
  | .target => 0x0C
  | .version => 0x0D
  | .replaced => 0x0E
  | .eraseAll => 0x10
  | .oversize => 0x11
  | .viewRange => 0x12
  | .reportArea => 0x13
  | .classBlock => 0x14

/-- A reason field; 00h without a reason. -/
def reasonCode : Option Reason → Nat
  | some r => r.code
  | none => 0

def Origin.code : Origin → Nat
  | .live => 0
  | .replay => 1

def ResetCause.code : ResetCause → Nat
  | .supply => 0
  | .pin => 1
  | .restart => 2

def ReplayEnd.code : ReplayEnd → Nat
  | .endMark => 0
  | .areaEnd => 1
  | .broken => 2

def ParseCause.code : ParseCause → Nat
  | .wrap => 0
  | .skew => 1
  | .length => 2
  | .overrun => 3

def Source.code : Source → Nat
  | .stream => 0
  | .harvest => 1
  | .readback => 2
  | .load => 3

def Bank.code : Bank → Nat
  | .a => 0
  | .b => 1

def CommitOutcome.code : CommitOutcome → Nat
  | .taken => 0
  | .pending => 1
  | .refused => 2
  | .dropped => 3

def Owner.code : Owner → Nat
  | .nobody => 0
  | .host => 1
  | .internal => 2

def SupplyState.code : SupplyState → Nat
  | .normal => 0
  | .dip => 1
  | .settling => 2

/-- A bit as 0 or 1. -/
def bit (b : Bool) : Nat := if b then 1 else 0

/-- The straps byte of the START report (R179). -/
def strapsByte (p : Straps) : Nat := p.size.toNat + 8 * bit p.regionBottom + 16 * bit p.rollback

/-- The report kind codes (R180). -/
def Report.code : Report → Nat
  | .start .. => 0x01
  | .catalogue .. => 0x02
  | .image .. => 0x03
  | .chunkBad .. => 0x04
  | .checkDone .. => 0x05
  | .commit .. => 0x06
  | .recordRefused .. => 0x07
  | .withheld .. => 0x08
  | .guardFill .. => 0x09
  | .supply .. => 0x0A
  | .snapshot .. => 0x0B
  | .parse .. => 0x0C

/-- The detail fields from offset 8 (R179). -/
def Report.detail : Report → List Byte
  | .start cause straps ended taken refused skipped cursor =>
    leBytes 1 cause.code ++ leBytes 1 (strapsByte straps) ++ leBytes 2 Config.partCode ++ leBytes 1 Config.partRevision ++
      leBytes 1 ended.code ++ leBytes 2 taken ++ leBytes 2 refused ++ leBytes 2 skipped ++ leBytes 4 cursor
  | .catalogue w rejected target n version good =>
    leBytes 1 w.val ++ leBytes 1 (bit rejected.isSome) ++ leBytes 1 (reasonCode rejected) ++ leBytes 1 0 ++
      leBytes 2 target ++ leBytes 2 n ++ leBytes 4 version ++ leBytes 2 good
  | .image w lost target version n good =>
    leBytes 1 w.val ++ leBytes 1 (bit lost) ++ leBytes 2 target ++ leBytes 4 version ++ leBytes 2 n ++ leBytes 2 good
  | .chunkBad w source i len => leBytes 1 w.val ++ leBytes 1 source.code ++ leBytes 2 i ++ leBytes 4 len
  | .checkDone w n good bad erased =>
    leBytes 1 w.val ++ leBytes 1 0 ++ leBytes 2 n ++ leBytes 2 good ++ leBytes 2 bad ++ leBytes 2 erased
  | .commit v outcome reason bank staging current target version addr =>
    leBytes 1 v.val ++ leBytes 1 outcome.code ++ leBytes 1 (reasonCode reason) ++ leBytes 1 bank.code ++
      leBytes 1 staging.val ++ leBytes 1 current.val ++ leBytes 2 target ++ leBytes 4 version ++ leBytes 4 addr
  | .recordRefused kind reason origin addr =>
    [kind] ++ leBytes 1 reason.code ++ leBytes 1 origin.code ++ leBytes 1 0 ++ leBytes 4 addr
  | .withheld cls reason opcode addr =>
    leBytes 1 cls.code ++ leBytes 1 reason.code ++ [opcode] ++ leBytes 1 0 ++ leBytes 4 addr
  | .guardFill w view st fill =>
    leBytes 1 w.val ++ leBytes 1 (match view with | some v => v.val | none => 0xFF) ++ leBytes 1 st ++ [fill]
  | .supply recovered owner entries leftAt away marked windows =>
    leBytes 1 (bit recovered) ++ leBytes 1 owner.code ++ leBytes 2 entries ++ leBytes 4 leftAt.toNat ++
      leBytes 4 away.toNat ++ leBytes 2 marked ++ leBytes 4 windows.toNat
  | .snapshot c latch st index =>
    leBytes 2 c.goodVerdicts ++ leBytes 2 c.badVerdicts ++ leBytes 2 c.readbackAborts ++ leBytes 2 c.evictions ++
      leBytes 2 c.withheld ++ leBytes 2 c.fillCommands ++ leBytes 1 (bit latch) ++ leBytes 1 st.code ++ leBytes 2 index
  | .parse cause origin first cursor =>
    leBytes 1 cause.code ++ leBytes 1 origin.code ++ leBytes 2 0 ++ leBytes 4 first ++ leBytes 4 cursor

/-- The slot with a given check field (R179). -/
def Report.slotWith (r : Report) (dropped : Bool) (timestamp : Word32) (check : Nat) : List Byte :=
  leBytes 1 r.code ++ leBytes 1 (bit dropped) ++ leBytes 2 check ++ leBytes 4 timestamp.toNat ++ r.detail ++
    List.replicate (24 - r.detail.length) 0

/-- The 32 bytes of a report's slot (R179): the check is computed over the units with the check unit taken as 0000h. -/
def Report.slot (r : Report) (dropped : Bool) (timestamp : Word32) : List Byte :=
  r.slotWith dropped timestamp (onesCheck (units (r.slotWith dropped timestamp 0)))

end Sys2Proof.Machine
end

