-- ==== Sys2Proof/Machine/Records.lean ====
section
/-! DEFINITION. The Command Area Parser: record kinds (section 11.1), dispatch to the owners (R161), dispositions (R163), the parser
fed byte by byte (R160), and replay (R168, R169). -/

namespace Sys2Proof.Machine

/-! ### Kinds -/

/-- The record kinds (section 11.1). -/
inductive RecKind where
  | opclass | window | manifest | digests | drop | check | budget | view | unview | commit | hold | release
  | snapshot | ack | restart
  deriving DecidableEq, Repr

/-- The kind a code names (section 11.1, R178). -/
def RecKind.ofCode : Nat → Option RecKind
  | 0x01 => some .opclass
  | 0x02 => some .window
  | 0x03 => some .manifest
  | 0x04 => some .digests
  | 0x05 => some .drop
  | 0x06 => some .check
  | 0x07 => some .budget
  | 0x08 => some .view
  | 0x09 => some .unview
  | 0x0A => some .commit
  | 0x0B => some .hold
  | 0x0C => some .release
  | 0x0D => some .snapshot
  | 0x0E => some .ack
  | 0x0F => some .restart
  | _ => none

/-- Standing kinds; the others are one-shot (R161). -/
def RecKind.standing : RecKind → Bool
  | .opclass | .window | .manifest | .digests | .drop | .budget | .view | .unview | .commit => true
  | .check | .hold | .release | .snapshot | .ack | .restart => false

/-- The length in words that the format of the kind gives (section 11.1). -/
def RecKind.words (k : RecKind) (bytes : List Byte) : Nat :=
  match k with
  | .opclass | .drop | .check | .budget | .unview | .commit | .hold | .release => 3
  | .window => 6
  | .manifest => 9
  | .digests => 3 + 4 * field bytes 9 1
  | .view => 4
  | .snapshot | .ack | .restart => 2

/-- The length field of a header (R157). -/
def recordWords (bytes : List Byte) : Nat := field bytes 2 2

/-! ### Owners outside Catalogue.lean and Views.lean -/

/-- A check of R3 fails, for the class an OPCLASS record names. ERASE_ALL is one of the four erase classes of R1, so R3's fourth
bullet refuses it with address length 0 and its fifth with any other (log entry 33). -/
def opclassRefused (cls : CmdClass) (addrLen dummies : Nat) : Bool :=
  decide (addrLen ≠ 0 ∧ addrLen ≠ 3 ∧ addrLen ≠ 4) || decide (15 < dummies) ||
    (match cls with
    | .read | .program | .erase4K | .erase32K | .erase64K => decide (addrLen = 0)
    | .eraseAll => true
    | .status | .writeEnable | .pass | .block => decide (addrLen ≠ 0)) ||
    decide (cls ≠ .read ∧ dummies ≠ 0)

/-- An OPCLASS record (R3). -/
def State.takeOpclass (bytes : List Byte) (s : State) : Ruling :=
  match CmdClass.ofCode (field bytes 9 1) with
  | none => .refused s .range
  | some cls =>
    if opclassRefused cls (field bytes 10 1) (field bytes 11 1) then .refused s .range
    else
      .taken (s.setClass (bytes.getD 8 0) { cls := cls, addrLen := field bytes 10 1, dummies := field bytes 11 1 })

/-- A CHECK record (R122). -/
def State.takeCheck (bytes : List Byte) (s : State) : Ruling :=
  match windowNumber (field bytes 8 1) with
  | none => .refused s .range
  | some w =>
    if 1 < field bytes 9 1 then .refused s .range
    else if (s.win w).body.isLoaded then .taken (s.check w (decide (field bytes 9 1 = 1)))
    else .refused s .state

/-- A BUDGET record (R127). -/
def State.takeBudget (bytes : List Byte) (s : State) : Ruling :=
  .taken (s.modScheduler (Scheduler.budget (field bytes 8 2) (field bytes 10 2)))

/-- A SNAPSHOT record (R176): the report is raised, and if it joins the queue the counters become 0 and the latch true. -/
def State.takeSnapshot (s : State) : Ruling :=
  let raised := s.raise (.snapshot s.reports.counters s.supply.latch s.supply.state s.reports.index)
  if s.reports.queue.length < Config.reportEntries then
    .taken ((raised.modCounters fun _ =>
      { goodVerdicts := 0, badVerdicts := 0, readbackAborts := 0, evictions := 0, withheld := 0, fillCommands := 0 }).modSupply
        fun p => { p with latch := true })
  else .taken raised

/-- The alert line stays asserted through an ACK (R174). -/
def State.alertStays (s : State) : Bool :=
  (decide (s.reports.journal = .full) && !s.reports.queue.isEmpty) || decide (s.reports.journal = .failed)

def State.clearFillReported (s : State) (w : Fin 32) : State := s.modWin w fun v => { v with fillReported := false }

/-- An ACK record (R174, R175). -/
def State.takeAck (s : State) : Ruling :=
  let released := if s.alertStays then s else s.modReports fun r => { r with alert := false }
  .taken (allWindows.foldl State.clearFillReported released)

/-- Hand a record to its owner (R161). RESTART's taking only requests its void mark (R165). -/
def State.dispatch (k : RecKind) (mode : Mode) (addr : Nat) (bytes : List Byte) (s : State) : Ruling :=
  match k with
  | .opclass => s.takeOpclass bytes
  | .window => s.takeWindow bytes
  | .manifest => s.takeManifest bytes
  | .digests => s.takeDigests bytes
  | .drop => s.takeDrop bytes
  | .check => s.takeCheck bytes
  | .budget => s.takeBudget bytes
  | .view => s.takeView bytes
  | .unview => s.takeUnview bytes
  | .commit => s.takeCommit mode addr bytes
  | .hold => s.takeHold bytes
  | .release => s.takeRelease bytes
  | .snapshot => s.takeSnapshot
  | .ack => s.takeAck
  | .restart => .taken s

/-- Dispatch after the length test, which is the first check of every owner (R178). -/
def State.ruleRecord (k : RecKind) (mode : Mode) (addr : Nat) (bytes : List Byte) (s : State) : Ruling :=
  if recordWords bytes = k.words bytes then s.dispatch k mode addr bytes else .refused s .range

/-! ### Dispositions (R163) -/

/-- The byte a mark programs. -/
def MarkKind.byte : MarkKind → Byte
  | .kept => 0x0F
  | .void => 0xF0

/-- The readings of a disposition byte. -/
inductive Disposition where
  | kept | fresh | void
  deriving DecidableEq, Repr

/-- How a disposition byte is read (R163). -/
def dispositionOf (d : Byte) : Disposition :=
  if d &&& 0x0F = 0x0F then
    if d &&& 0xF0 = 0 then .kept else .fresh
  else .void

/-! ### What follows a record (R161) -/

/-- What has become of the state, and whether a restart takes place at once (R165). -/
structure Fed where
  st : State
  restart : Bool

/-- The kind byte of a record. -/
def recordKind (bytes : List Byte) : Byte := bytes.getD 0 0

/-- The cursor advances by the record's length and the parser is READY (R161); a removal or a flag set by the record
is followed by a refill (R121, R122). -/
def State.nextRecord (bytes : List Byte) (s : State) : State :=
  (s.modParser fun p => { p with phase := .ready, cursor := p.cursor + 4 * recordWords bytes }).refill

/-- Request the record's own mark (step 1 of R161). -/
def State.markRecord (addr : Nat) (kind : MarkKind) (s : State) : State :=
  s.requestMark { addr := addr + 1, kind := kind, restart := false }

/-- A refused record: its void mark and its RECORD_REFUSED report (R161, R177). -/
def State.refuseRecord (addr : Nat) (bytes : List Byte) (reason : Reason) (origin : Origin) (s : State) : State :=
  (s.markRecord addr .void).raise (.recordRefused (recordKind bytes) reason origin addr)

/-- The void mark of a RESTART taken live; if it is lost, the restart takes place at once (R165). -/
def State.markRestart (addr : Nat) (s : State) : Fed :=
  { st := s.requestMark { addr := addr + 1, kind := .void, restart := true }, restart := s.marksClosed }

/-- The ruling on a record of a known kind, or its refusal before dispatch, in the order of R152. -/
def State.rule (addr : Nat) (bytes : List Byte) (taint : Bool) (s : State) : Ruling :=
  if recordIntact bytes = false then .refused s .badCheck
  else if taint then .refused s .supply
  else
    match RecKind.ofCode (recordKind bytes).toNat with
    | none => .refused s .unknownKind
    | some k => s.ruleRecord k .live addr bytes

/-- A whole record while the part runs (R161). -/
def State.liveRecord (bytes : List Byte) (taint : Bool) (s : State) : Fed :=
  let addr := s.parser.cursor
  match s.rule addr bytes taint with
  | .refused t r => { st := (t.refuseRecord addr bytes r .live).nextRecord bytes, restart := false }
  | .commitRefused t => { st := (t.markRecord addr .void).nextRecord bytes, restart := false }
  | .pended t => { st := t.nextRecord bytes, restart := false }
  | .taken t =>
    match RecKind.ofCode (recordKind bytes).toNat with
    | some .restart => { st := (t.markRestart addr).st.nextRecord bytes, restart := (t.markRestart addr).restart }
    | some k => { st := (t.markRecord addr (if k.standing then .kept else .void)).nextRecord bytes, restart := false }
    | none => { st := t.nextRecord bytes, restart := false }

def Parser.countTaken (p : Parser) : Parser := { p with taken := countUp p.taken }
def Parser.countRefused (p : Parser) : Parser := { p with refused := countUp p.refused }
def Parser.countSkipped (p : Parser) : Parser := { p with skipped := countUp p.skipped }

/-- A refused record at replay (R168, R169). -/
def State.refuseAtReplay (addr : Nat) (bytes : List Byte) (reason : Reason) (s : State) : State :=
  (s.refuseRecord addr bytes reason .replay).modParser Parser.countRefused

/-- What an owner made of a standing record at replay (R168, R169). -/
def State.replayRuling (addr : Nat) (bytes : List Byte) (r : Ruling) : State :=
  match r with
  | .refused t reason => t.refuseAtReplay addr bytes reason
  | .commitRefused t => (t.markRecord addr .void).modParser Parser.countRefused
  | .pended t => t.modParser Parser.countTaken
  | .taken t => (t.markRecord addr .kept).modParser Parser.countTaken

/-- A standing record at replay; the kept mark is requested for a fresh record that is taken, and a kept record already
has it (R168). -/
def State.replayStanding (k : RecKind) (kept : Bool) (addr : Nat) (bytes : List Byte) (s : State) : State :=
  if kept then
    match s.ruleRecord k .replayKept addr bytes with
    | .taken t => t.modParser Parser.countTaken
    | r => State.replayRuling addr bytes r
  else State.replayRuling addr bytes (s.ruleRecord k .replayFresh addr bytes)

/-- A whole record at replay, by its disposition and kind (R168). The length test is made of kept and fresh records alike, one-shot
ones among them (R178; log entry 18). -/
def State.replayRecord (bytes : List Byte) (s : State) : State :=
  let addr := s.parser.cursor
  let handled :=
    match dispositionOf (bytes.getD 1 0) with
    | .void => s.modParser Parser.countSkipped
    | d =>
      if recordIntact bytes = false then s.refuseAtReplay addr bytes .badCheck
      else
        match RecKind.ofCode (recordKind bytes).toNat with
        | none => s.refuseAtReplay addr bytes .unknownKind
        | some k =>
          if recordWords bytes ≠ k.words bytes then s.refuseAtReplay addr bytes .range
          else if k.standing then s.replayStanding k (decide (d = Disposition.kept)) addr bytes
          else (s.markRecord addr .void).modParser Parser.countSkipped
  handled.nextRecord bytes

/-! ### Framing (R157, R160) -/

/-- The parser becomes BROKEN and PARSE is raised (R160). -/
def State.breakParser (cause : ParseCause) (origin : Origin) (first : Nat) (s : State) : State :=
  (s.modParser fun p => { p with phase := .broken }).raise (.parse cause origin first s.parser.cursor)

/-- What one more byte of the command area does. -/
inductive FeedResult where
  | more (s : State)
  | endMark (s : State)
  | broke (s : State)
  | restart (s : State)

/-- The bytes of the record being collected, with the new one, have been taken (R160): the header test behind
the fourth byte, and the record when its last byte is there. -/
def State.collected (origin : Origin) (first : Nat) (bytes : List Byte) (taint : Bool) (s : State) : FeedResult :=
  let held := s.modParser fun p => { p with phase := .inRecord bytes taint }
  if bytes.length = 4 then
    if bytes.all fun b => decide (b = 0xFF) then .endMark (s.modParser fun p => { p with phase := .ready })
    else if recordWords bytes < Config.recordMinWords ∨ Config.recordMaxWords < recordWords bytes then
      .broke (s.breakParser .length origin first)
    else if commandEnd s.straps < s.parser.cursor + 4 * recordWords bytes then
      .broke (s.breakParser .overrun origin first)
    else .more held
  else if 4 < bytes.length ∧ bytes.length = 4 * recordWords bytes then
    match origin with
    | .live =>
      let fed := s.liveRecord bytes taint
      if fed.restart then .restart fed.st else .more fed.st
    | .replay => .more (s.replayRecord bytes)
  else .more held

/-- One byte taken in place (R160), with the supply taint of R152. -/
def State.feed (origin : Origin) (first : Nat) (b : Byte) (s : State) : FeedResult :=
  let unsteady := decide (origin = .live) && decide (s.supply.state ≠ .normal)
  match s.parser.phase with
  | .broken => .broke s
  | .ready => s.collected origin first [b] unsteady
  | .inRecord bytes taint => s.collected origin first (bytes ++ [b]) (taint || unsteady)

/-- The landing bytes of a program, taken one by one (R160). -/
def State.feedLive (first : Nat) : List Byte → State → Fed
  | [], s => { st := s, restart := false }
  | b :: bs, s =>
    match s.feed .live first b with
    | .more t => State.feedLive first bs t
    | .endMark t => { st := t, restart := false }
    | .broke t => { st := t, restart := false }
    | .restart t => { st := t, restart := true }

/-- The collection point: the cursor plus the count of bytes collected (R159). -/
def Parser.collectionPoint (p : Parser) : Nat :=
  match p.phase with
  | .inRecord bytes _ => p.cursor + bytes.length
  | .ready => p.cursor
  | .broken => p.cursor

/-- A program whose page lies in the command area is forwarded (R160). -/
def State.commandProgram (addr : Nat) (data : List Byte) (s : State) : Fed :=
  if s.parser.phase = .broken then { st := s, restart := false }
  else if programWraps addr data.length then { st := s.breakParser .wrap .live addr, restart := false }
  else if addr ≠ s.parser.collectionPoint then { st := s.breakParser .skew .live addr, restart := false }
  else s.feedLive addr data

/-! ### Replay (R168, R169) -/

/-- The bytes of a start-up read, taken one by one; the result is how replay ended, if it did. -/
def State.feedReplay : List Byte → State → State × Option ReplayEnd
  | [], s => (s, none)
  | b :: bs, s =>
    match s.feed .replay 0 b with
    | .more t =>
      if t.parser.phase = .ready ∧ commandEnd t.straps ≤ t.parser.cursor then (t, some .areaEnd)
      else State.feedReplay bs t
    | .endMark t => (t, some .endMark)
    | .broke t => (t, some .broken)
    | .restart t => (t, none)

/-- The end of replay: START is raised and the part enters RUNNING (R167, R169). -/
def State.endReplay (ended : ReplayEnd) (s : State) : State :=
  { s.raise (.start s.cause s.straps ended s.parser.taken s.parser.refused s.parser.skipped s.parser.cursor) with
    part := .running }

end Sys2Proof.Machine
end

