-- ==== Sys2Proof/Machine/Forwarding.lean ====
section
/-! DEFINITION. PROGRAM_FORWARD and ERASE_FORWARD: the end of the transaction of a collected command (R6, R9, R10, R151), with the
erases of the command area (R162) and of the report area (R173). -/

namespace Sys2Proof.Machine

/-- The landing is in window `w`: a program event if it brings a chunk image bytes, and the quiet timer (R9, R40). -/
def State.programWindow (w : Fin 32) (c : Collected) (s : State) : State :=
  (match (s.win w).body.landing c.addr c.len with
  | some l => s.programEvent w l c.data
  | none => s).restartQuiet w

/-- The landing's page lies in the command area (R39). -/
def State.pageInCommandArea (s : State) (a : Nat) : Bool :=
  decide (commandBase s.straps ≤ pageBase a) && decide (pageBase a < commandEnd s.straps)

/-- The owners of the landing bytes receive the landing (R9). -/
def State.landProgram (c : Collected) (s : State) : Fed :=
  match s.windowAt (pageBase c.addr) with
  | some w => { st := s.programWindow w c, restart := false }
  | none => if s.pageInCommandArea c.addr then s.commandProgram c.addr c.data else { st := s, restart := false }

/-- The command buffer is empty again. -/
def State.emptyBuffer (s : State) : State := s.modBridge fun b => { b with collected := none }

/-- A collected PROGRAM is forwarded (R9); with L = 0 it changes nothing else (R6). -/
def State.forwardProgram (c : Collected) (s : State) : State :=
  if c.len = 0 then s.emptyBuffer.settleClaim
  else
    let fed := (s.emptyBuffer.busyWithHost (c.touched s.flashBytes)).landProgram c
    (fed.st.refill.settleClaim).restartIf fed.restart

/-- A mark's disposition byte lies in the cover. -/
def Mark.inCover (m : Mark) (cover : Nat × Nat) : Bool := decide (cover.1 ≤ m.addr) && decide (m.addr < cover.2)

/-- A pending commit whose record's disposition byte lies in the cover loses its record (R162). -/
def View.loseRecord (cover : Nat × Nat) (v : View) : View :=
  match v.pendingCommit with
  | some pc =>
    if cover.1 ≤ pc.recordAddr + 1 ∧ pc.recordAddr + 1 < cover.2 then
      { v with pendingCommit := some { pc with recordStands := false } }
    else v
  | none => v

def State.loseRecord (cover : Nat × Nat) (s : State) (v : Fin 8) : State := s.setView v ((s.view v).map (View.loseRecord cover))

/-- An erase of the command area (R162); a RESTART whose mark is removed takes effect at once (R165). -/
def State.eraseCommandArea (cover : Nat × Nat) (s : State) : Fed :=
  let parser := s.modParser fun p => { p with phase := .ready, cursor := commandBase s.straps }
  let marks := parser.modReports fun r => { r with marks := r.marks.filter fun m => !m.inCover cover }
  { st := allViews.foldl (State.loseRecord cover) marks
    restart := s.reports.marks.any fun m => m.restart && m.inCover cover }

/-- An erase of the report area (R173). -/
def State.eraseReportArea (s : State) : State :=
  if s.reports.journal = .failed then s
  else s.modReports fun r => { r with journal := .rescan, index := 0, scanSlot := 0 }

/-- The quiet timer of a LOADED window that the cover meets restarts (R10). -/
def State.eraseTouches (cover : Nat × Nat) (s : State) (w : Fin 32) : State :=
  if (s.win w).body.meets cover.1 cover.2 then s.restartQuiet w else s

/-- The windows' share of a forwarded erase (R10, R43). -/
def State.eraseWindows (cover : Nat × Nat) (s : State) : State :=
  allWindows.foldl (State.eraseTouches cover) (allWindows.foldl (State.eraseWindow cover) s)

/-- The command area's share of a forwarded erase (R10, R162). -/
def State.eraseMeetsCommand (cover : Nat × Nat) (s : State) : Fed :=
  if overlaps cover.1 cover.2 (commandBase s.straps) (commandEnd s.straps) then s.eraseCommandArea cover
  else { st := s, restart := false }

/-- The report area's share of a forwarded erase (R10, R173). -/
def State.eraseMeetsReport (cover : Nat × Nat) (s : State) : State :=
  if overlaps cover.1 cover.2 (reportBase s.straps) (reportEnd s.straps) then s.eraseReportArea else s

/-- A collected erase is forwarded (R10). -/
def State.forwardErase (c : Collected) (s : State) : State :=
  let cover := eraseCover c.cls c.addr s.flashBytes
  let fed := ((s.emptyBuffer.busyWithHost (c.touched s.flashBytes)).eraseWindows cover).eraseMeetsCommand cover
  ((fed.st.eraseMeetsReport cover).refill.settleClaim).restartIf fed.restart

/-- PROGRAM_FORWARD (R9). With no PROGRAM in the command buffer no such transaction can end, and nothing happens. -/
def execProgramForward (s : State) : Host.Outcome State Fault Refusal :=
  match s.bridge.collected with
  | some c => if c.cls = .program then .next (s.forwardProgram c) else .next s
  | none => .next s

/-- ERASE_FORWARD (R10). With no erase in the command buffer no such transaction can end, and nothing happens. -/
def execEraseForward (s : State) : Host.Outcome State Fault Refusal :=
  match s.bridge.collected with
  | some c => if c.cls = .program then .next s else .next (s.forwardErase c)
  | none => .next s

end Sys2Proof.Machine
end

