-- ==== Sys2Proof/Machine/InternalPrograms.lean ====
section
/-! DEFINITION. The bridge's own polls (R14) and the internal programs of marks and reports (R19, R20, R164, R172). An operation
the arbiter does not grant does not start, and nothing changes. -/

namespace Sys2Proof.Machine

/-- An internal operation starts: the claim count returns to 0 (R16). -/
def State.startOp (op : PortOp) (txns : List FlashTxn) (s : State) : State :=
  (s.modBridge fun b => { b with portOp := some op, claim := 0 }).issue txns

/-- STATUS_POLL (R14). -/
def execStatusPoll (waiting : Bool) (byte : Byte) (s : State) : Host.Outcome State Fault Refusal :=
  if s.polls waiting then .next (((s.issue [statusTxn]).watchStatus byte).settleClaim) else .next s

/-- The transactions of an internal program (R19). -/
def State.programTxns (s : State) (addr : Nat) (data : List Byte) : List FlashTxn :=
  [writeEnableTxn, programTxn s.flashBytes addr data]

/-- The mark at the head of the queue is started (R19, R164). -/
def State.startMark (m : Mark) (s : State) : State :=
  s.startOp (.program .mark .programming 0) (s.programTxns m.addr [m.kind.byte])

/-- MARK_PROGRAM (R19). -/
def execMarkProgram (waiting : Bool) (s : State) : Host.Outcome State Fault Refusal :=
  match s.reports.marks with
  | m :: _ => if s.grants .mark waiting then .next (s.startMark m) else .next s
  | [] => .next s

/-- The report at the head of the queue is formed into its slot and started; the dropped flag is copied and cleared
(R170, R172). -/
def State.startReport (r : Report) (s : State) : State :=
  (s.startOp (.program .report .programming 0)
    (s.programTxns (slotAddr s.straps s.reports.index) (r.slot s.reports.dropped s.scheduler.ms))).modReports
    fun w => { w with dropped := false }

/-- REPORT_PROGRAM (R172). -/
def execReportProgram (waiting : Bool) (s : State) : Host.Outcome State Fault Refusal :=
  match s.reports.queue with
  | r :: _ => if s.grants .report waiting then .next (s.startReport r) else .next s
  | [] => .next s

/-- The program transaction has ended: busy with owner internal (R12, R19). -/
def State.endProgramTransaction (kind : ProgramKind) (timer : Nat) (s : State) : State :=
  (s.modBridge fun b => { b with busy := true, owner := .internal, portOp := some (.program kind .polling timer) }).settleClaim

/-- INTERNAL_PROGRAM_TRANSACTION_END (R19). -/
def execInternalProgramTransactionEnd (s : State) : Host.Outcome State Fault Refusal :=
  match s.bridge.portOp with
  | some (.program kind .programming timer) => .next (s.endProgramTransaction kind timer)
  | some (.program _ .polling _) => .next s
  | some (.startupRead _) => .next s
  | none => .next s

/-- The Flash Port is free of the internal operation. -/
def State.endOp (s : State) : State := s.modBridge fun b => { b with portOp := none }

/-- A completed mark program removes its mark (R164); that of a RESTART begins the restart (R165). -/
def State.markWritten (s : State) : Fed :=
  { st := s.modReports fun r => { r with marks := r.marks.drop 1 }
    restart := match s.reports.marks with
      | m :: _ => m.restart
      | [] => false }

/-- A completed report program: the report leaves the queue, the index rises, the alert line is asserted, and the journal is
FULL at 2048 (R172). -/
def State.reportWritten (s : State) : State :=
  s.modReports fun r =>
    { r with
      queue := r.queue.drop 1, index := r.index + 1, alert := true
      journal := if r.index + 1 = Config.reportSlots then .full else r.journal }

/-- An internal program completes (R19). -/
def State.completeProgram (kind : ProgramKind) (s : State) : Fed :=
  match kind with
  | .mark => s.endOp.markWritten
  | .report => { st := s.endOp.reportWritten, restart := false }

/-- A poll of an internal program: a byte with bit 0 clear clears the busy record and ends the program (R13, R19). -/
def State.pollProgram (kind : ProgramKind) (byte : Byte) (s : State) : State :=
  let watched := (s.issue [statusTxn]).watchStatus byte
  if byte.getLsbD 0 then watched.settleClaim
  else ((watched.completeProgram kind).st.settleClaim).restartIf (watched.completeProgram kind).restart

/-- INTERNAL_PROGRAM_POLL (R19). -/
def execInternalProgramPoll (byte : Byte) (s : State) : Host.Outcome State Fault Refusal :=
  match s.bridge.portOp with
  | some (.program kind .polling _) => .next (s.pollProgram kind byte)
  | some (.program _ .programming _) => .next s
  | some (.startupRead _) => .next s
  | none => .next s

/-- A mark of a RESTART waits in the mark queue. -/
def State.restartWaits (s : State) : Bool := s.reports.marks.any fun m => m.restart

/-- An internal program times out (R20): the journal is FAILED, the mark queue empties, the alert line is asserted; a RESTART
whose mark is emptied takes effect at once (R165). The busy record stands: behind the program transaction it says busy with
owner internal, and before that transaction has ended it says not busy, for R12 has not set it yet. R20 does not speak of that
case: DESIGN CHOICE, unsafe (log entry 34). -/
def State.timeOut (s : State) : Fed :=
  { st := s.endOp.modReports fun r => { r with journal := .failed, marks := [], alert := true }
    restart := s.restartWaits }

/-- A tick on the internal program timer: the 20th tick is the timeout (R19, R20). -/
def State.tickProgram (s : State) : Fed :=
  match s.bridge.portOp with
  | some (.program kind phase timer) =>
    if Config.programTicks ≤ timer + 1 then s.timeOut
    else
      { st := s.modBridge fun b => { b with portOp := some (.program kind phase (timer + 1)) }
        restart := false }
  | some (.startupRead _) => { st := s, restart := false }
  | none => { st := s, restart := false }

/-- INTERNAL_PROGRAM_TIMEOUT (R20): the bridge's share of the 20th tick. Before that tick no expiry can happen, and nothing
changes. -/
def execInternalProgramTimeout (s : State) : Host.Outcome State Fault Refusal :=
  match s.bridge.portOp with
  | some (.program _ _ timer) =>
    if Config.programTicks ≤ timer + 1 then .next (s.timeOut.st.settleClaim.restartIf s.timeOut.restart) else .next s
  | some (.startupRead _) => .next s
  | none => .next s

end Sys2Proof.Machine
end

