-- ==== Sys2Proof/Machine/Readback.lean ====
section
/-! DEFINITION. Read-back: its start (R84, R110, R124), its bursts and their credit (R111, R126), and its completion (R85, R112). -/

namespace Sys2Proof.Machine

/-- The conditions on which the head entry's read-back starts (R124). -/
def State.readbackStarts (s : State) (e : Entry) : Bool :=
  decide (s.part = .running) && s.engine.readback.isNone && !s.bridge.busy &&
    (e.urgent || decide (min Config.burstBytes ((s.win e.window).body.chunkLen e.chunk) ≤ s.scheduler.credit))

/-- The chunk of the head entry becomes CHECKING and the read-back context takes it (R84, R110); the entry leaves the queue
and a refill follows (R124). CHECKING is unsettled, so the completion test of R93 cannot find the window settled. -/
def State.startReadback (e : Entry) (s : State) : State :=
  let dequeued := s.setQueue (s.scheduler.queue.drop 1)
  let checking := ((dequeued.endDigesting e.window e.chunk).moveChunk e.window e.chunk .checking none).modChunk e.window
    e.chunk fun c => { c with link := some .readback }
  (checking.setReadback (some
    { window := e.window, chunk := e.chunk, next := 0, inFlight := none, run := Running.start
      urgent := e.urgent })).refill.settleClaim

/-- The head entry's read-back starts if its conditions hold (R124). -/
def State.takeHead (s : State) : State :=
  match s.scheduler.queue with
  | e :: _ => if s.readbackStarts e then s.startReadback e else s
  | [] => s

/-- READBACK_START (R124). -/
def execReadbackStart (s : State) : Host.Outcome State Fault Refusal := .next s.takeHead

/-- The credit a burst of `b` bytes leaves (R126). -/
def creditAfter (urgent : Bool) (credit b : Nat) : Nat := if urgent then credit - min credit b else credit - b

/-- The address of the next burst: the chunk's own address in its window (R111). -/
def State.burstAddr (s : State) (r : ReadbackCtx) : Nat := (s.win r.window).body.chunkStart r.chunk + r.next

/-- The next burst is issued and spends credit by its class (R111, R126). -/
def State.issueBurst (r : ReadbackCtx) (s : State) : State :=
  ((((s.setReadback (some { r with inFlight := some (s.burstLen r) })).modBridge fun b => { b with claim := 0 }).modScheduler
    fun c => { c with credit := creditAfter (s.burstUrgent r) c.credit (s.burstLen r) }).issue
    [readTxn s.flashBytes (s.burstAddr r) (s.burstLen r)])

/-- READBACK_BURST (R111). -/
def execReadbackBurst (waiting : Bool) (s : State) : Host.Outcome State Fault Refusal :=
  match s.engine.readback with
  | some r => if s.grants .burst waiting then .next (s.issueBurst r) else .next s
  | none => .next s

/-- A read-back is complete: its context becomes FREE and its chunk gets a verdict (R85, R112). -/
def State.completeReadback (r : ReadbackCtx) (digest : Digest) (s : State) : State :=
  (((s.setReadback none).unlink r.window r.chunk).verdict r.window r.chunk digest .readback).closeEvent r.window
    (s.win r.window).goodCount

/-- A burst ends (R112). -/
def State.endBurst (r : ReadbackCtx) (bytes : List Byte) (s : State) : State :=
  let run := r.run.absorb bytes
  (if r.next + bytes.length = (s.win r.window).body.chunkLen r.chunk then s.completeReadback r run.complete
  else s.setReadback (some { r with next := r.next + bytes.length, inFlight := none, run := run })).settleClaim

/-- READBACK_BURST_END (R112). The end of a burst brings the burst's bytes; without a burst in flight, or with another
number of bytes, no burst ends, and nothing happens. -/
def execReadbackBurstEnd (bytes : List Byte) (s : State) : Host.Outcome State Fault Refusal :=
  match s.engine.readback with
  | some r => if r.inFlight = some bytes.length then .next (s.endBurst r bytes) else .next s
  | none => .next s

end Sys2Proof.Machine
end

