-- ==== Sys2Proof/Machine/Time.lean ====
section
/-! DEFINITION. The millisecond tick (R115) and the timers that expire at it. TICK applies every block's share, the expiries
among them. QUIET_TIMER_EXPIRY and SETTLE_TIMER_EXPIRY are one timer's share of the tick that ends it, as a step of its own:
each acts on a timer that stands at its last millisecond, just ahead of the rest of that tick, and finds nothing to expire
otherwise. -/

namespace Sys2Proof.Machine

/-- The tick on the Check Scheduler: the millisecond count (R115) and the credit (R125). -/
def Scheduler.tick (c : Scheduler) : Scheduler := { c.tickCredit with ms := c.ms + 1 }

/-- The tick on all but the internal program timer (R115): the claim count by the readiness that stood before it (R16), count and
credit, quiet timers (R120), settle timer (R147), refill (R121). -/
def State.tickTimers (s : State) : State :=
  (allWindows.foldl State.tickQuiet (s.tickClaim.modScheduler Scheduler.tick)).tickSettle.refill

/-- The tick while the part is powered (R115), the internal program timer last (R20). -/
def State.tickAll (s : State) : State :=
  let fed := s.tickTimers.tickProgram
  (fed.st.settleClaim).restartIf fed.restart

/-- TICK (R115). No tick falls into a reset: the first follows it by a millisecond. -/
def execTick (s : State) : Host.Outcome State Fault Refusal :=
  if s.part = .held then .next s else .next s.tickAll

/-- QUIET_TIMER_EXPIRY (R121). -/
def execQuietTimerExpiry (window : Nat) (s : State) : Host.Outcome State Fault Refusal :=
  match windowNumber window with
  | none => .next s
  | some w =>
    match (s.win w).quiet with
    | some n => if n ≤ 1 then .next ((s.expireQuiet w).refill.settleClaim) else .next s
    | none => .next s

/-- SETTLE_TIMER_EXPIRY (R154): the settle timer's share of its 25th tick, whose millisecond the time away counts (R156). -/
def execSettleTimerExpiry (s : State) : Host.Outcome State Fault Refusal :=
  match s.supply.state, s.supply.settle with
  | .settling, some n => if n ≤ 1 then .next (s.enterNormal (s.scheduler.ms + 1)).settleClaim else .next s
  | .settling, none => .next s
  | .normal, _ => .next s
  | .dip, _ => .next s

end Sys2Proof.Machine
end

