-- ==== Sys2Proof/Machine/HostCommands.lean ====
section
/-! DEFINITION. The host's commands on the System Port: READ (R4, R5) with fill (R133, R175) and harvesting (R105 to R109); the
collection of PROGRAM and the erases with the withhold tests (R6 to R8); STATUS, WRITE_ENABLE, PASS, BLOCK; a command
that is discarded (R2) and one clocked while ready is low (R11). -/

namespace Sys2Proof.Machine

/-! ### Harvesting (R105 to R109) -/

/-- A harvest offer: a read segment of image bytes of one chunk (R5). -/
structure Offer where
  window : Fin 32
  chunk : Nat
  offset : Nat
  /-- The flash-busy record showed busy when the segment began. -/
  busy : Bool
  bytes : List Byte
  deriving DecidableEq, Repr

/-- A read stream starts on a chunk in a FREE stream context (R106). -/
def State.startReadStream (o : Offer) (s : State) : State :=
  match s.freeContext with
  | none => s
  | some k =>
    let x : StreamCtx :=
      { kind := .read, window := o.window, chunk := o.chunk, frontier := o.bytes.length
        run := Running.start.absorb o.bytes }
    ((s.modChunk o.window o.chunk fun c => { c with link := some (.stream k) }).moveStreamToFront k x).advanceStream k x
      .harvest

/-- An offer on an UNCHECKED chunk with the flash not believed busy (R106, R107). -/
def State.harvestIdle (o : Offer) (s : State) : State :=
  match s.chunkStream o.window o.chunk with
  | some (k, x) =>
    if o.offset = x.frontier then s.advanceStream k (x.feed o.bytes) .harvest else s.endDigesting o.window o.chunk
  | none => if o.offset = 0 then s.startReadStream o else s

/-- A harvest offer is taken (R105, R108). -/
def State.harvest (o : Offer) (s : State) : State :=
  match s.chunk? o.window o.chunk with
  | none => s
  | some c =>
    if c.state ≠ .unchecked then s
    else if o.busy then s.endDigesting o.window o.chunk
    else ((s.harvestIdle o).closeEvent o.window (s.win o.window).goodCount).refill

/-! ### Reading (R4, R5) -/

/-- A READ in progress: the state, the last byte's site, the segment's offer so far, the bytes delivered, and the
windows whose fill was signalled in this command. -/
structure ReadRun where
  st : State
  last : Option ByteSite
  offer : Option Offer
  out : List Byte
  filled : List (Fin 32)

/-- A segment ends: its bytes are offered to the Digest Engine (R5, R105). -/
def ReadRun.close (r : ReadRun) : ReadRun :=
  match r.offer with
  | some o => { r with st := r.st.harvest o, offer := none }
  | none => r

/-- The segment ends in front of the byte at `b` unless that byte belongs to it (R34). -/
def ReadRun.cut (b : ByteSite) (r : ReadRun) : ReadRun :=
  match r.last with
  | some l => if l.sameSegment b then r else r.close
  | none => r

/-- The offer of the segment with one more flash-side byte (R5). -/
def ReadRun.grow (b : ByteSite) (byte : Byte) (r : ReadRun) : Option Offer :=
  match r.offer with
  | some o => some { o with bytes := o.bytes ++ [byte] }
  | none =>
    match b.window, b.site with
    | some w, some (i, o) => some { window := w, chunk := i, offset := o, busy := r.st.bridge.busy, bytes := [byte] }
    | _, _ => none

/-- The byte is delivered as fill (R4). -/
def State.fills (s : State) (b : ByteSite) : Bool := s.isProtected b && !s.isProven b

/-- The byte the host receives (R4). -/
def State.delivered (s : State) (b : ByteSite) (byte : Byte) : Byte := if s.fills b then s.fillOf b else byte

/-- Fill is signalled for a window: GUARD_FILL unless its fill-reported flag is set (R133, R175). -/
def State.signalFill (w : Fin 32) (view : Option (Fin 8)) (fill : Byte) (s : State) : State :=
  if (s.win w).fillReported then s
  else (s.raise (.guardFill w view (s.win w).body.code fill)).modWin w fun v => { v with fillReported := true }

/-- The fill accounting of one byte: the first fill byte of a window in the command signals fill (R5, R133). -/
def ReadRun.account (b : ByteSite) (r : ReadRun) : ReadRun :=
  match b.window with
  | some w =>
    if r.st.fills b && !r.filled.contains w then
      { r with st := r.st.signalFill w b.view (r.st.fillOf b), filled := w :: r.filled }
    else r
  | none => r

/-- One byte of a READ: host address `x`, flash-side byte `byte`. -/
def ReadRun.byte (x : Nat) (byte : Byte) (r : ReadRun) : ReadRun :=
  let b := r.st.siteOf x
  let cut := r.cut b
  { cut with
    last := some b
    offer := cut.grow b byte
    out := cut.out ++ [cut.st.delivered b byte] }.account b

/-- An event that falls into a READ (R105). No internal program is in flight then, so a tick has none to time. -/
def State.duringRead (s : State) : DuringRead → State
  | .tick => s.tickTimers.settleClaim
  | .bandChange band => s.changeBand band
  | .readbackStart => s.takeHead

/-- The events that fall in front of byte number `k`, in their order. -/
def eventsAt (during : List (Nat × DuringRead)) (k : Nat) : List DuringRead :=
  (during.filter fun e => decide (e.1 = k)).map Prod.snd

/-- What falls in front of the byte at host address `x`: the offer of a segment whose last byte has passed was taken before (R105). -/
def ReadRun.between (x : Nat) (events : List DuringRead) (r : ReadRun) : ReadRun :=
  match events with
  | [] => r
  | e :: es =>
    let cut := r.cut (r.st.siteOf x)
    { cut with st := (e :: es).foldl State.duringRead cut.st }

/-- The bytes of a READ from byte number `k` on; the range wraps from F − 1 to 0 (R32). -/
def ReadRun.bytes (a flashBytes : Nat) (during : List (Nat × DuringRead)) : Nat → List Byte → ReadRun → ReadRun
  | k, [], r => r.between ((a + k) % flashBytes) (eventsAt during k)
  | k, b :: bs, r =>
    ReadRun.bytes a flashBytes during (k + 1) bs
      ((r.between ((a + k) % flashBytes) (eventsAt during k)).byte ((a + k) % flashBytes) b)

/-- The runs of mapped addresses that follow on: each is one flash-side read, as first address and length (R33). -/
def readRuns : List Nat → List (Nat × Nat)
  | [] => []
  | p :: ps =>
    match readRuns ps with
    | (q, m) :: rest => if q = p + 1 then (p, m + 1) :: rest else (p, 1) :: (q, m) :: rest
    | [] => [(p, 1)]

/-- The host's command itself, forwarded unchanged as a flash-side read of `n` bytes (R4). -/
def hostReadTxn (x : HostXfer) (e : ClassEntry) (n : Nat) : FlashTxn :=
  { opcode := x.opcode, sent := x.sent.take (e.addrLen + e.dummies), reads := n }

/-- The flash-side reads of a READ of `n` bytes at `a`: the first is the host's own command if it begins outside every
view; the others are in the bridge's form (R4, R18, R33). -/
def State.flashReads (s : State) (x : HostXfer) (e : ClassEntry) (a n : Nat) : List FlashTxn :=
  let own := fun r : Nat × Nat => readTxn s.flashBytes r.1 r.2
  let first := fun r : Nat × Nat => if (s.viewAt a).isSome then own r else hostReadTxn x e r.2
  match readRuns ((List.range n).map fun k => s.mapAddr ((a + k) % s.flashBytes)) with
  | [] => [first (s.mapAddr a, 0)]
  | r :: rest => first r :: rest.map own

/-- At the end of a READ that delivered fill, FILL_COMMANDS counts it (R5). -/
def ReadRun.finish (r : ReadRun) : State :=
  if r.filled.isEmpty then r.close.st else r.close.st.countFillCommand

/-- A READ command with its address complete (R4, R5), and the events that fall into it (R105). -/
def State.readCommand (x : HostXfer) (s : State) : State :=
  let e := s.classOf x.opcode
  let a := x.addr e s.flashBytes
  let data := x.readBytes e
  let r := ReadRun.bytes a s.flashBytes x.during 0 data { st := s.takeOpcode, last := none, offer := none, out := [], filled := [] }
  (r.finish.drive r.out (s.flashReads x e a data.length)).settleClaim

/-! ### Programs and erases (R6 to R8) -/

/-- A command is withheld: WITHHELD is raised and counted (R8). -/
def State.withhold (cls : CmdClass) (reason : Reason) (opcode : Byte) (addr : Nat) (s : State) : State :=
  (s.raise (.withheld cls reason opcode addr)).countWithheld

/-- What the command buffer keeps of a PROGRAM (R6). -/
def collectProgram (x : HostXfer) (e : ClassEntry) (flashBytes : Nat) : Collected :=
  { cls := .program, opcode := x.opcode, addr := x.addr e flashBytes, data := (x.data e).take Config.maxProgram
    len := (x.data e).length }

/-- What the command buffer keeps of an erase (R6). -/
def collectErase (x : HostXfer) (cls : CmdClass) (e : ClassEntry) (flashBytes : Nat) : Collected :=
  { cls := cls, opcode := x.opcode, addr := if cls = .eraseAll then 0 else x.addr e flashBytes, data := [], len := 0 }

/-- The transaction of a collected command: opcode, address, kept data (R6). -/
def Collected.txn (c : Collected) (addrLen : Nat) : FlashTxn :=
  { opcode := c.opcode, sent := beBytes addrLen c.addr ++ c.data, reads := 0 }

/-- The release of select of a collected command: it is withheld, or issued on the Flash Port (R6, R7, R8). What the host reads on
bytes it clocks out during such a command R6 and R8 do not say, and the model delivers none: DESIGN CHOICE, unsafe (log entry
35). -/
def State.releaseSelect (c : Collected) (addrLen : Nat) (s : State) : State :=
  match s.withholdReason c with
  | some reason => ((s.withhold c.cls reason c.opcode c.addr).drive [] []).settleClaim
  | none => ((s.modBridge fun b => { b with collected := some c }).drive [] [c.txn addrLen]).settleClaim

/-- A PROGRAM command (R6). -/
def State.programCommand (x : HostXfer) (s : State) : State :=
  s.takeOpcode.releaseSelect (collectProgram x (s.classOf x.opcode) s.flashBytes) (s.classOf x.opcode).addrLen

/-- An erase command of the given class (R6, R42). -/
def State.eraseCommand (cls : CmdClass) (x : HostXfer) (s : State) : State :=
  s.takeOpcode.releaseSelect (collectErase x cls (s.classOf x.opcode) s.flashBytes) (s.classOf x.opcode).addrLen

/-! ### The other classes -/

/-- A command passed on byte for byte (R2). -/
def State.forwardRaw (x : HostXfer) (s : State) : State :=
  s.drive x.flash [{ opcode := x.opcode, sent := x.sent, reads := x.flash.length }]

/-- A STATUS command: forwarded at once, its status bytes watched (R13). -/
def State.statusCommand (x : HostXfer) (s : State) : State :=
  (x.flash.foldl (fun s byte => s.watchStatus byte) (s.takeOpcode.forwardRaw x)).settleClaim

/-- A WRITE_ENABLE command: forwarded at once; the pairing flag is set (R17). -/
def State.writeEnableCommand (x : HostXfer) (s : State) : State :=
  ((s.takeOpcode.forwardRaw x).modBridge fun b => { b with pairing := true }).settleClaim

/-- A PASS command (R2). -/
def State.passCommand (x : HostXfer) (s : State) : State := (s.takeOpcode.forwardRaw x).settleClaim

/-- A BLOCK command: withheld at its opcode; the host reads FFh (R8). -/
def State.blockCommand (x : HostXfer) (s : State) : State :=
  ((s.takeOpcode.withhold .block .classBlock x.opcode (x.addr (s.classOf x.opcode) s.flashBytes)).drive
    (List.replicate x.flash.length 0xFF) []).settleClaim

/-- Select released before the last address byte: only the pairing flag changes (R2). No byte is delivered to the host: DESIGN
CHOICE, unsafe (log entry 35). -/
def State.discardCommand (s : State) : State := (s.takeOpcode.drive [] []).settleClaim

/-- An opcode clocked while ready is low: nothing reaches the flash and the host reads FFh (R11). -/
def State.notReadyCommand (x : HostXfer) (s : State) : State := s.drive (List.replicate x.flash.length 0xFF) []

/-! ### Which row a transfer is -/

/-- What the bridge makes of a transfer: clocked while ready is low, discarded for want of address bytes, or a command
of the class in its opcode's entry (R2, R11). -/
inductive HostKind where
  | notReady
  | discard
  | cls (c : CmdClass)
  deriving DecidableEq, Repr

def State.hostKind (s : State) (x : HostXfer) : HostKind :=
  if s.readyHigh = false then .notReady
  else if (s.classOf x.opcode).cls = .block then .cls .block
  else if x.addressed (s.classOf x.opcode) then .cls (s.classOf x.opcode).cls
  else .discard

/-- The treatment of any transfer: the entry of its opcode governs it (R2). The row that names a transfer says what its
sender means; a transfer that is another kind of command is treated as that kind. -/
def State.hostCommand (x : HostXfer) (s : State) : State :=
  match s.hostKind x with
  | .notReady => s.notReadyCommand x
  | .discard => s.discardCommand
  | .cls .read => s.readCommand x
  | .cls .program => s.programCommand x
  | .cls .erase4K => s.eraseCommand .erase4K x
  | .cls .erase32K => s.eraseCommand .erase32K x
  | .cls .erase64K => s.eraseCommand .erase64K x
  | .cls .eraseAll => s.eraseCommand .eraseAll x
  | .cls .status => s.statusCommand x
  | .cls .writeEnable => s.writeEnableCommand x
  | .cls .pass => s.passCommand x
  | .cls .block => s.blockCommand x

/-- READ (R4). -/
def execRead (x : HostXfer) (s : State) : Host.Outcome State Fault Refusal :=
  .next (if s.hostKind x = .cls .read then s.readCommand x else s.hostCommand x)

/-- PROGRAM (R6). -/
def execProgram (x : HostXfer) (s : State) : Host.Outcome State Fault Refusal :=
  .next (if s.hostKind x = .cls .program then s.programCommand x else s.hostCommand x)

/-- ERASE_4K (R42). -/
def execErase4K (x : HostXfer) (s : State) : Host.Outcome State Fault Refusal :=
  .next (if s.hostKind x = .cls .erase4K then s.eraseCommand .erase4K x else s.hostCommand x)

/-- ERASE_32K (R42). -/
def execErase32K (x : HostXfer) (s : State) : Host.Outcome State Fault Refusal :=
  .next (if s.hostKind x = .cls .erase32K then s.eraseCommand .erase32K x else s.hostCommand x)

/-- ERASE_64K (R42). -/
def execErase64K (x : HostXfer) (s : State) : Host.Outcome State Fault Refusal :=
  .next (if s.hostKind x = .cls .erase64K then s.eraseCommand .erase64K x else s.hostCommand x)

/-- ERASE_ALL (R7). -/
def execEraseAll (x : HostXfer) (s : State) : Host.Outcome State Fault Refusal :=
  .next (if s.hostKind x = .cls .eraseAll then s.eraseCommand .eraseAll x else s.hostCommand x)

/-- STATUS (R13). -/
def execStatus (x : HostXfer) (s : State) : Host.Outcome State Fault Refusal :=
  .next (if s.hostKind x = .cls .status then s.statusCommand x else s.hostCommand x)

/-- WRITE_ENABLE (R17). -/
def execWriteEnable (x : HostXfer) (s : State) : Host.Outcome State Fault Refusal :=
  .next (if s.hostKind x = .cls .writeEnable then s.writeEnableCommand x else s.hostCommand x)

/-- PASS (R2). -/
def execPass (x : HostXfer) (s : State) : Host.Outcome State Fault Refusal :=
  .next (if s.hostKind x = .cls .pass then s.passCommand x else s.hostCommand x)

/-- BLOCK (R8). -/
def execBlock (x : HostXfer) (s : State) : Host.Outcome State Fault Refusal :=
  .next (if s.hostKind x = .cls .block then s.blockCommand x else s.hostCommand x)

/-- COMMAND_DISCARD (R2). -/
def execCommandDiscard (x : HostXfer) (s : State) : Host.Outcome State Fault Refusal :=
  .next (if s.hostKind x = .discard then s.discardCommand else s.hostCommand x)

/-- OPCODE_WHILE_NOT_READY (R11). -/
def execOpcodeWhileNotReady (x : HostXfer) (s : State) : Host.Outcome State Fault Refusal :=
  .next (if s.hostKind x = .notReady then s.notReadyCommand x else s.hostCommand x)

end Sys2Proof.Machine
end

