-- ==== Sys2Proof/Machine/Startup.lean ====
section
/-! DEFINITION. Start-up reads: the scan of the report area (R171) and replay of the command area (R167, R168). -/

namespace Sys2Proof.Machine

/-- The flash address of the next start-up read (R168, R171). -/
def State.startupAddr (s : State) : ReadPurpose → Nat
  | .scan => slotAddr s.straps s.reports.scanSlot
  | .replay => s.parser.collectionPoint

/-- STARTUP_READ (R18). -/
def execStartupRead (waiting : Bool) (s : State) : Host.Outcome State Fault Refusal :=
  match s.readRequested with
  | some purpose =>
    if s.grants .startupRead waiting then
      .next (s.startOp (.startupRead purpose) [readTxn s.flashBytes (s.startupAddr purpose) Config.burstBytes])
    else .next s
  | none => .next s

/-- Slot `j` of a scan read is unwritten: its first four bytes read FFh (R171). -/
def slotUnwritten (bytes : List Byte) (j : Nat) : Bool :=
  ((bytes.drop (Config.slotBytes * j)).take 4).all fun b => decide (b = 0xFF)

/-- Slots of one scan read (R171). -/
def slotsPerRead : Nat := 8

/-- The scan examines the slots of one read in order (R171). -/
def ReportWriter.scan (bytes : List Byte) (r : ReportWriter) : ReportWriter :=
  match (List.range slotsPerRead).find? fun j => slotUnwritten bytes j with
  | some j => { r with journal := .ready, index := r.scanSlot + j }
  | none =>
    if Config.reportSlots ≤ r.scanSlot + slotsPerRead then { r with journal := .full, index := Config.reportSlots }
    else { r with scanSlot := r.scanSlot + slotsPerRead }

/-- Replay takes the bytes of a read (R168). -/
def State.replayBytes (bytes : List Byte) (s : State) : State :=
  match s.feedReplay bytes with
  | (t, some ended) => t.endReplay ended
  | (t, none) => t

/-- A start-up read ends, and its bytes go to the block that requested it (R18). -/
def State.startupBytes (purpose : ReadPurpose) (bytes : List Byte) (s : State) : State :=
  match purpose with
  | .scan => s.modReports (ReportWriter.scan bytes)
  | .replay => s.replayBytes bytes

/-- STARTUP_READ_END (R171). The end of a start-up read brings its 256 bytes; without a read in flight, or with another number
of bytes, no such read ends, and nothing happens. -/
def execStartupReadEnd (bytes : List Byte) (s : State) : Host.Outcome State Fault Refusal :=
  match s.bridge.portOp with
  | some (.startupRead purpose) =>
    if bytes.length = Config.burstBytes then .next (s.endOp.startupBytes purpose bytes).settleClaim else .next s
  | some (.program _ _ _) => .next s
  | none => .next s

end Sys2Proof.Machine
end

