-- ==== Sys2Proof/Machine/Dispatch.lean ====
section
/-! DEFINITION. Dispatch: the meaning of every step, one arm per row of the table. -/

namespace Sys2Proof.Machine

/-- The effect of a step on everything but the queue of waiting steps. -/
def exec (i : Instr) (s : State) : Host.Outcome State Fault Refusal :=
  match i with
  | .read x => Sys2Proof.Machine.execRead x s
  | .program x => Sys2Proof.Machine.execProgram x s
  | .erase4K x => Sys2Proof.Machine.execErase4K x s
  | .erase32K x => Sys2Proof.Machine.execErase32K x s
  | .erase64K x => Sys2Proof.Machine.execErase64K x s
  | .eraseAll x => Sys2Proof.Machine.execEraseAll x s
  | .programForward => Sys2Proof.Machine.execProgramForward s
  | .eraseForward => Sys2Proof.Machine.execEraseForward s
  | .status x => Sys2Proof.Machine.execStatus x s
  | .writeEnable x => Sys2Proof.Machine.execWriteEnable x s
  | .pass x => Sys2Proof.Machine.execPass x s
  | .block x => Sys2Proof.Machine.execBlock x s
  | .commandDiscard x => Sys2Proof.Machine.execCommandDiscard x s
  | .opcodeWhileNotReady x => Sys2Proof.Machine.execOpcodeWhileNotReady x s
  | .statusPoll waiting byte => Sys2Proof.Machine.execStatusPoll waiting byte s
  | .markProgram waiting => Sys2Proof.Machine.execMarkProgram waiting s
  | .reportProgram waiting => Sys2Proof.Machine.execReportProgram waiting s
  | .internalProgramTransactionEnd => Sys2Proof.Machine.execInternalProgramTransactionEnd s
  | .internalProgramPoll byte => Sys2Proof.Machine.execInternalProgramPoll byte s
  | .internalProgramTimeout => Sys2Proof.Machine.execInternalProgramTimeout s
  | .startupRead waiting => Sys2Proof.Machine.execStartupRead waiting s
  | .startupReadEnd bytes => Sys2Proof.Machine.execStartupReadEnd bytes s
  | .readbackStart => Sys2Proof.Machine.execReadbackStart s
  | .readbackBurst waiting => Sys2Proof.Machine.execReadbackBurst waiting s
  | .readbackBurstEnd bytes => Sys2Proof.Machine.execReadbackBurstEnd bytes s
  | .tick => Sys2Proof.Machine.execTick s
  | .quietTimerExpiry window => Sys2Proof.Machine.execQuietTimerExpiry window s
  | .bandChange band => Sys2Proof.Machine.execBandChange band s
  | .settleTimerExpiry => Sys2Proof.Machine.execSettleTimerExpiry s
  | .powerOnReset straps band => Sys2Proof.Machine.execPowerOnReset straps band s
  | .resetPinAssert => Sys2Proof.Machine.execResetPinAssert s
  | .resetPinRelease straps band => Sys2Proof.Machine.execResetPinRelease straps band s

end Sys2Proof.Machine
end

