-- ==== Sys2Proof/Safety.lean ====
section
/-! DEFINITION. Safety. The laws of the device: what the manual says every reachable state keeps ("This law of the device is kept
by …"), each as a predicate of one state. A step from any state that has a law gives a state that has it. -/

namespace Sys2Proof.Machine

/-! ### The Flash Port -/

/-- At most one of these stands on the Flash Port: a collected command, a start-up read or an internal program, and a
read-back burst (R6, R11, R113). -/
def PortLaw (s : State) : Prop :=
  (s.bridge.collected.isSome = true → s.internalInFlight = false) ∧
    (s.bridge.portOp.isSome = true → s.engine.burstInFlight = false)

/-- The claim count is 0, 1 or 2 (R16). -/
def ClaimLaw (s : State) : Prop := s.bridge.claim ≤ Config.claimLimit

/-! ### Report Writer -/

/-- What an internal program in flight needs of the Report Writer (R15, R19, R20): a journal that is not FAILED, a READY one for
a report, the mark or report it writes still at the head, and a timer below its 20th tick. -/
def ReportWriter.serves (r : ReportWriter) : ProgramKind → Nat → Prop
  | .mark, timer => r.journal ≠ .failed ∧ r.marks ≠ [] ∧ timer < Config.programTicks
  | .report, timer => r.journal = .ready ∧ r.queue ≠ [] ∧ timer < Config.programTicks

/-- The law of R170, with what carries it from step to step: the pending report queue holds at most 16 reports, the mark queue
at most 16 marks, and the write index is at most 2048, and below 2048 while the journal is READY. -/
def ReportLaw (s : State) : Prop :=
  s.reports.queue.length ≤ Config.reportEntries ∧
    s.reports.marks.length ≤ Config.markEntries ∧
    s.reports.index ≤ Config.reportSlots ∧
    (s.reports.journal = .ready → s.reports.index < Config.reportSlots) ∧
    s.reports.scanSlot < Config.reportSlots ∧
    s.reports.scanSlot % 8 = 0 ∧
    ∀ kind phase timer, s.bridge.portOp = some (.program kind phase timer) → s.reports.serves kind timer

/-! ### Check Scheduler -/

/-- The law of R125: the credit stays within the cap, the cap within 256..65,535, and the rate within 16,384. -/
def CreditLaw (s : State) : Prop :=
  s.scheduler.credit ≤ s.scheduler.cap ∧ Config.capMin ≤ s.scheduler.cap ∧ s.scheduler.cap ≤ Config.capMax ∧
    s.scheduler.rate ≤ Config.rateMax

/-- The chunk an entry names is UNCHECKED, belongs to a LOADED window, and its queued field is yes (R116). -/
def State.entryStands (s : State) (e : Entry) : Prop :=
  (s.win e.window).body.isLoaded = true ∧
    ∃ c, s.chunk? e.window e.chunk = some c ∧ c.state = .unchecked ∧ c.queued = true

/-- The law of R116: at most 64 entries; no chunk twice; every entry names an UNCHECKED, queued chunk of a LOADED window; all urgent
entries ahead of all normal ones. -/
def QueueLaw (s : State) : Prop :=
  s.scheduler.queue.length ≤ Config.queueEntries ∧
    (s.scheduler.queue.map fun e => (e.window, e.chunk)).Nodup ∧
    (∀ e ∈ s.scheduler.queue, s.entryStands e) ∧
    s.scheduler.queue.Pairwise fun a b => b.urgent = true → a.urgent = true

/-! ### Window Map -/

/-- A geometry within the values of R24, for a flash of `flashBytes` bytes. -/
def Geometry.legal (g : Geometry) (flashBytes : Nat) : Prop :=
  g.base % Config.blockBytes = 0 ∧ g.size % Config.blockBytes = 0 ∧ Config.blockBytes ≤ g.size ∧
    g.size ≤ Config.maxWindowBytes ∧ g.base + g.size ≤ flashBytes ∧
    g.chunkSize ∈ [4096, 8192, 16384, 32768, 65536]

/-- Two ranges hold no common byte. -/
def Apart (lo hi lo' hi' : Nat) : Prop := overlaps lo hi lo' hi' = false

/-- The windows' share of the law of R29: legal geometries, pairwise disjoint and clear of the control region. -/
def WindowLaw (s : State) : Prop :=
  (∀ w g, (s.win w).body.geom? = some g →
    g.legal s.flashBytes ∧ s.meetsControl g.base (g.base + g.size) = false) ∧
  ∀ u w g h, u ≠ w → (s.win u).body.geom? = some g → (s.win w).body.geom? = some h →
    Apart g.base (g.base + g.size) h.base (h.base + h.size)

/-- The two banks of a view: different windows, neither VACANT, of one size and one chunk size (R28, R129). -/
def State.banksMatch (s : State) (v : View) : Prop :=
  v.bankA ≠ v.bankB ∧ ∃ g h, (s.win v.bankA).body.geom? = some g ∧ (s.win v.bankB).body.geom? = some h ∧
    g.size = h.size ∧ g.chunkSize = h.chunkSize

/-- The views' share of the law of R29: aligned, inside the flash, disjoint from every window, from each other and from the control
region, and no window a bank of two views. -/
def ViewLaw (s : State) : Prop :=
  (∀ v view, s.view v = some view →
    view.base % Config.blockBytes = 0 ∧ view.base + s.viewSize view ≤ s.flashBytes ∧ s.banksMatch view ∧
      s.meetsControl view.base (view.base + s.viewSize view) = false ∧
      s.meetsOtherWindow none view.base (view.base + s.viewSize view) = false) ∧
  ∀ u v x y, u ≠ v → s.view u = some x → s.view v = some y →
    Apart x.base (x.base + s.viewSize x) y.base (y.base + s.viewSize y) ∧
      x.bankA ≠ y.bankA ∧ x.bankA ≠ y.bankB ∧ x.bankB ≠ y.bankA ∧ x.bankB ≠ y.bankB

/-- A pending commit stands only on a HELD view, and names the bank that is not selected; while the part is not RUNNING no
command is collected and every view is IDLE (R7, R128); a replay read is in flight only while the part is STARTING (R144, R167). -/
def HoldLaw (s : State) : Prop :=
  (∀ v view pc, s.view v = some view → view.pendingCommit = some pc → view.held = true ∧ pc.bank ≠ view.selected) ∧
    (s.part ≠ .running → s.bridge.collected = none ∧ ∀ v view, s.view v = some view → view.held = false) ∧
    (s.bridge.portOp = some (.startupRead .replay) → s.part = .starting)

/-! ### Catalogue Store and Chunk Tracker -/

/-- The law of R47: the runs of OPEN and LOADED windows lie in the pool, are pairwise disjoint, and each is as long as its window's
chunk count. -/
def PoolLaw (s : State) : Prop :=
  (∀ w, (s.win w).body.run.2 ≤ Config.poolRecords) ∧
  (∀ u w, u ≠ w → Apart (s.win u).body.run.1 (s.win u).body.run.2 (s.win w).body.run.1 (s.win w).body.run.2) ∧
  ∀ w g c, (s.win w).body.geom? = some g → (s.win w).body.cat? = some c →
    c.chunks.length = chunkCount c.len g.chunkSize

/-- The law of R89 in one window, with the first condition of R92: the good count of a LOADED window is the number of its GOOD
chunks, and each of these has its expected digest as its observed digest; other windows have no GOOD chunk and good count 0. -/
def Window.goodLaw (v : Window) : Prop :=
  match v.body with
  | .loaded _ c _ =>
    v.goodCount = countState c.chunks .good ∧ ∀ x ∈ c.chunks, x.state = .good → x.observed = x.expected
  | .opened _ c => v.goodCount = 0 ∧ ∀ x ∈ c.chunks, x.state ≠ .good
  | .vacant | .defined _ | .rejected _ => v.goodCount = 0

/-- The law of R89. -/
def GoodLaw (s : State) : Prop := ∀ w, (s.win w).goodLaw

/-! ### Digest Engine -/

/-- A stream context holds exactly its chunk: FILLING for a program stream, UNCHECKED for a read stream (R98). -/
def State.streamHolds (s : State) (k : Fin 3) (x : StreamCtx) : Prop :=
  ∃ c, s.chunk? x.window x.chunk = some c ∧ c.link = some (.stream k) ∧
    match x.kind with
    | .program => c.state = .filling
    | .read => c.state = .unchecked

/-- The read-back context holds exactly its chunk, which is CHECKING (R98). -/
def State.readbackHolds (s : State) (r : ReadbackCtx) : Prop :=
  ∃ c, s.chunk? r.window r.chunk = some c ∧ c.link = some .readback ∧ c.state = .checking

/-- The context a chunk record names holds it; a record that names none is neither FILLING nor CHECKING (R68, R98). -/
def State.linkStands (s : State) (w : Fin 32) (i : Nat) (c : Chunk) : Prop :=
  match c.link with
  | some (.stream k) => ∃ x, s.stream k = some x ∧ x.window = w ∧ x.chunk = i
  | some .readback => ∃ r, s.engine.readback = some r ∧ r.window = w ∧ r.chunk = i
  | none => c.state ≠ .filling ∧ c.state ≠ .checking

/-- The laws of R98 and R99: contexts and chunk records name each other, and the recency list holds exactly the BUSY stream
contexts, each once. -/
def ContextLaw (s : State) : Prop :=
  s.engine.recency.Nodup ∧
    (∀ k, k ∈ s.engine.recency ↔ (s.stream k).isSome = true) ∧
    (∀ k x, s.stream k = some x → s.streamHolds k x) ∧
    (∀ r, s.engine.readback = some r → s.readbackHolds r) ∧
    ∀ w i c, s.chunk? w i = some c → s.linkStands w i c

/-! ### Supply Monitor -/

/-- The settle timer runs only in SETTLING, with 1..25 ms left; the away record is present exactly outside NORMAL (R147, R149,
R154). -/
def SupplyLaw (s : State) : Prop :=
  (∀ n, s.supply.settle = some n → s.supply.state = .settling ∧ 1 ≤ n ∧ n ≤ Config.settleTicks) ∧
    (s.supply.away.isSome = true ↔ s.supply.state ≠ .normal)

/-! ### Command Area Parser -/

/-- The cursor is a multiple of 4 from the area's start, up to and including its end; a record being collected has begun, is not
whole, and fits the area once its length is known (R159, R160). -/
def ParserLaw (s : State) : Prop :=
  commandBase s.straps ≤ s.parser.cursor ∧ s.parser.cursor ≤ commandEnd s.straps ∧
    (s.parser.cursor - commandBase s.straps) % 4 = 0 ∧
    ∀ bytes taint, s.parser.phase = .inRecord bytes taint →
      1 ≤ bytes.length ∧
        (4 ≤ bytes.length →
          Config.recordMinWords ≤ recordWords bytes ∧ recordWords bytes ≤ Config.recordMaxWords ∧
            bytes.length < 4 * recordWords bytes ∧
            s.parser.cursor + 4 * recordWords bytes ≤ commandEnd s.straps)

/-! ### All of them -/

/-- Every law of the device. -/
structure Lawful (s : State) : Prop where
  port : PortLaw s
  claim : ClaimLaw s
  report : ReportLaw s
  credit : CreditLaw s
  queue : QueueLaw s
  window : WindowLaw s
  view : ViewLaw s
  hold : HoldLaw s
  pool : PoolLaw s
  good : GoodLaw s
  context : ContextLaw s
  supply : SupplyLaw s
  parser : ParserLaw s

/-! ### Words the statements use -/

/-- The rows of the table that stand for a command of the host. -/
def hostRows (x : HostXfer) : List Instr :=
  [.read x, .program x, .erase4K x, .erase32K x, .erase64K x, .eraseAll x, .status x, .writeEnable x, .pass x, .block x,
    .commandDiscard x, .opcodeWhileNotReady x]

/-- An address lies in one of the ranges. -/
def inRanges (ranges : List (Nat × Nat)) (p : Nat) : Prop := ∃ r ∈ ranges, r.1 ≤ p ∧ p < r.2

/-- The withhold test of R7 that gives a reason, said of single addresses; the other reasons have no test. -/
def State.withholdTest (s : State) (c : Collected) : Reason → Prop
  | .eraseAll => c.cls = .eraseAll ∧ ∃ v, (s.view v).isSome = true
  | .oversize => c.cls = .program ∧ 256 < c.len
  | .activeBank =>
    ∃ v view g p, s.view v = some view ∧ (s.win view.current).body.geom? = some g ∧ g.covers p = true ∧
      inRanges (c.touched s.flashBytes) p
  | .viewRange =>
    ∃ v view p, s.view v = some view ∧ s.viewCovers view p = true ∧ inRanges (c.touched s.flashBytes) p
  | .reportArea =>
    c.cls = .program ∧ ∃ p, reportBase s.straps ≤ p ∧ p < reportEnd s.straps ∧ inRanges (c.touched s.flashBytes) p
  | .badCheck | .supply | .unknownKind | .range | .state | .overlap | .poolFull | .conflict | .list | .incomplete
  | .target | .version | .replaced | .classBlock => False

/-- No LOADED window wants a check, so that a refill finds nothing to do (R121). -/
def State.noRefill (s : State) : Prop := ∀ w, (s.win w).body.isLoaded = true → (s.win w).checkWanted = false

/-- The boundary is the internal operations' (R16): the part is STARTING, no host command waits, or the claim count is 2. -/
def State.turnIsInternal (s : State) (waiting : Bool) : Prop :=
  s.part = .starting ∨ waiting = false ∨ s.bridge.claim = 2

/-- What a chunk record says apart from its queued field. -/
def Chunk.known (c : Chunk) : ChunkState × Option Digest × Option Digest × Option Link :=
  (c.state, c.expected, c.observed, c.link)

/-- The record of a chunk says the same in both states, its queued field apart. -/
def sameChunk (s t : State) (w : Fin 32) (i : Nat) : Prop := (t.chunk? w i).map Chunk.known = (s.chunk? w i).map Chunk.known

/-- The chunk is UNCHECKED in `t`, nothing digests it, and its expected digest is the one it had. -/
def nowUnchecked (t : State) (w : Fin 32) (i : Nat) (before : Chunk) : Prop :=
  ∃ d, t.chunk? w i = some d ∧ d.known = (.unchecked, before.expected, none, none)

/-- Everything outside the blocks that know about chunks is the same in both states: views, supply, parser, straps, window
geometries, the millisecond count and credit, the journal, the marks and the alert line. -/
def sameOutsideChunks (s t : State) : Prop :=
  t.pending = s.pending ∧ t.part = s.part ∧ t.cause = s.cause ∧ t.strapPins = s.strapPins ∧ t.straps = s.straps ∧
    t.views = s.views ∧ t.supply = s.supply ∧ t.parser = s.parser ∧
    t.scheduler = { s.scheduler with queue := t.scheduler.queue } ∧
    t.reports =
      { s.reports with queue := t.reports.queue, dropped := t.reports.dropped, counters := t.reports.counters } ∧
    ∀ w, (t.win w).body.geom? = (s.win w).body.geom?

/-- The touched list after one more command with these touched bytes (R12): its entry is appended to a list of fewer than 16
entries; a list of 16 gives way to the one entry for the whole flash, and while that stands nothing is added. -/
def listedTouched (before after : TouchedList) (ranges : List (Nat × Nat)) : Prop :=
  (before = .whole → after = .whole) ∧
    ∀ entries, before = .each entries →
      (entries.length < 16 → after = .each (entries ++ [ranges])) ∧ (16 ≤ entries.length → after = .whole)

/-- The bridge after a forwarded PROGRAM or erase: busy with owner host, the touched bytes on the list, the buffer empty (R12);
nothing new is on the ports. -/
def forwarded (s t : State) (ranges : List (Nat × Nat)) : Prop :=
  t.bridge =
      { s.bridge with busy := true, owner := .host, touched := t.bridge.touched, collected := none, claim := 0 } ∧
    listedTouched s.bridge.touched t.bridge.touched ranges ∧ t.ports = s.ports

/-- The quiet timer of each LOADED window that is touched starts again from the window's interval, and every other timer stands
(R120). -/
def quietRestarted (s t : State) (touched : Fin 32 → Prop) : Prop :=
  ∀ w,
    (touched w → (s.win w).body.isLoaded = true → (t.win w).quiet = (s.win w).body.quietStart) ∧
      (¬touched w ∨ (s.win w).body.isLoaded = false → (t.win w).quiet = (s.win w).quiet)

/-- Context `k` holds a read stream. -/
def State.holdsReadStream (s : State) (k : Fin 3) : Prop := ∃ x, s.stream k = some x ∧ x.kind = .read

/-- The stream context a starting program stream takes (R100, R101): the FREE one of the lowest number; with none FREE, the read
stream nearest the end of the recency list, or its last member if the list holds no read stream. -/
def State.takesContext (s : State) (k : Fin 3) : Prop :=
  (s.stream k = none ∧ ∀ j : Fin 3, j < k → (s.stream j).isSome = true) ∨
    ((∀ j, (s.stream j).isSome = true) ∧
      ∃ front back, s.engine.recency = front ++ k :: back ∧
        ((s.holdsReadStream k ∧ ∀ j ∈ back, ¬s.holdsReadStream j) ∨ (back = [] ∧ ∀ j, ¬s.holdsReadStream j)))

/-- The number of chunks under the ranges that are in another state than UNCHECKED (R156). -/
def State.chunksToMark (s : State) (ranges : List (Nat × Nat)) : Nat :=
  (allWindows.map fun w =>
    (List.range (s.win w).body.count).countP fun i =>
      (s.win w).body.chunkMet i ranges && (s.chunk? w i).any fun c => decide (c.state ≠ .unchecked)).sum

/-- No pending commit stages the window (R50, R143). -/
def State.stagesNoCommit (s : State) (w : Fin 32) : Prop :=
  ∀ v view pc, s.view v = some view → view.pendingCommit = some pc → view.window pc.bank ≠ w

/-- A commit check of R138 is the first that fails, and gives this reason; the other reasons are none of a commit check. -/
def State.commitFails (s : State) (staging current : Fin 32) : Reason → Prop
  | .state => ∀ g c e, (s.win staging).body ≠ .loaded g c e
  | .incomplete => ∃ g c e, (s.win staging).body = .loaded g c e ∧ (s.win staging).goodCount ≠ c.chunks.length
  | .target =>
    ∃ g c e g' c' e', (s.win staging).body = .loaded g c e ∧ (s.win current).body = .loaded g' c' e' ∧
      (s.win staging).goodCount = c.chunks.length ∧ c.target ≠ c'.target
  | .version =>
    ∃ g c e g' c' e', (s.win staging).body = .loaded g c e ∧ (s.win current).body = .loaded g' c' e' ∧
      (s.win staging).goodCount = c.chunks.length ∧ c.target = c'.target ∧ s.straps.rollback = false ∧
      c.version ≤ c'.version
  | .badCheck | .supply | .unknownKind | .range | .overlap | .activeBank | .poolFull | .conflict | .list | .replaced
  | .classBlock | .eraseAll | .viewRange | .reportArea | .oversize => False

/-- Every commit check of R138 passes. -/
def State.commitPasses (s : State) (staging current : Fin 32) : Prop :=
  ∃ g c e, (s.win staging).body = .loaded g c e ∧ (s.win staging).goodCount = c.chunks.length ∧
    ∀ g' c' e', (s.win current).body = .loaded g' c' e' →
      c.target = c'.target ∧ (s.straps.rollback = true ∨ c'.version < c.version)

/-- The COMMIT report of view `v` (R145): the staging window's target code and version if it is LOADED, and 0 otherwise. -/
def State.isCommitReport (s : State) (v : Fin 8) (view : View) (outcome : CommitOutcome) (reason : Option Reason)
    (bank : Bank) (recordAddr : Nat) (r : Report) : Prop :=
  ∃ target version,
    r = .commit v outcome reason bank (view.window bank) view.current target version recordAddr ∧
      (∀ g c e, (s.win (view.window bank)).body = .loaded g c e → target = c.target ∧ version = c.version) ∧
      ((∀ g c e, (s.win (view.window bank)).body ≠ .loaded g c e) → target = 0 ∧ version = 0)

/-- The window a report of the kind GUARD_FILL names. -/
def Report.fillWindow : Report → Option (Fin 32)
  | .guardFill w _ _ _ => some w
  | _ => none

/-- Every context that held a chunk of the window is FREE, and the others stand (R50); a read-back of the window is counted as
aborted. -/
def contextsFreed (s t : State) (w : Fin 32) : Prop :=
  (∀ k, t.stream k = (s.stream k).filter fun x => decide (x.window ≠ w)) ∧
    t.engine.readback = (s.engine.readback.filter fun r => decide (r.window ≠ w)) ∧
    t.reports.counters =
      if s.engine.readback.any fun r => decide (r.window = w) then
        { s.reports.counters with readbackAborts := countUp s.reports.counters.readbackAborts }
      else s.reports.counters

/-! ### The reports of an event -/

/-- These reports are raised in this order and no other: each joins the queue while it holds fewer than 16, and the dropped flag is
set if one is lost (R170). -/
def reported (s t : State) (raised : List Report) : Prop :=
  t.reports.queue = s.reports.queue ++ raised.take (16 - s.reports.queue.length) ∧
    t.reports.dropped = (s.reports.dropped || decide (16 - s.reports.queue.length < raised.length))

/-- A CHECK_DONE of window `w` is due in `t`: it was wanted in `s`, and no chunk is UNCHECKED, CHECKING or FILLING any more (R123). -/
def checkDoneDue (s t : State) (w : Fin 32) : Bool :=
  (s.win w).checkReportWanted &&
    match (t.win w).body with
    | .loaded _ c _ => c.chunks.all fun x => decide (x.state ∉ [ChunkState.unchecked, .checking, .filling])
    | .vacant | .defined _ | .opened _ _ | .rejected _ => false

/-- The reports that end an event on the chunks of window `w`, by the state before it and the state after: IMAGE if completeness
changed (R90), and then CHECK_DONE if it is due (R72, R123). -/
def closingReports (s t : State) (w : Fin 32) : List Report :=
  match (t.win w).body with
  | .loaded _ c _ =>
    (if (s.win w).goodCount < c.chunks.length ∧ (t.win w).goodCount = c.chunks.length then
      [.image w false c.target c.version c.chunks.length (t.win w).goodCount]
    else if (s.win w).goodCount = c.chunks.length ∧ (t.win w).goodCount < c.chunks.length then
      [.image w true c.target c.version c.chunks.length (t.win w).goodCount]
    else []) ++
      if checkDoneDue s t w then
        [.checkDone w c.chunks.length (c.chunks.countP fun x => decide (x.state = .good))
          (c.chunks.countP fun x => decide (x.state = .bad)) (c.chunks.countP fun x => decide (x.state = .erased))]
      else []
  | .vacant | .defined _ | .opened _ _ | .rejected _ => []

/-- An event on the chunks of these windows raises the reports that come ahead of them, then each window's closing reports, then the
rest, and no other; a CHECK_DONE that is due clears its window's check-report-wanted flag, and no other flag changes (R72, R123). -/
def tells (s t : State) (windows : List (Fin 32)) (ahead rest : List Report) : Prop :=
  reported s t (ahead ++ windows.flatMap (closingReports s t) ++ rest) ∧
    ∀ w, (t.win w).checkReportWanted =
      ((s.win w).checkReportWanted && !(decide (w ∈ windows) && checkDoneDue s t w))

/-! ### The record being collected -/

/-- The parser has collected these bytes of a record, with this taint: none of them while it is READY (R159). -/
def Parser.holds (p : Parser) (bytes : List Byte) (taint : Bool) : Prop :=
  (p.phase = .ready ∧ bytes = [] ∧ taint = false) ∨ p.phase = .inRecord bytes taint

/-- The length in a header is within 2..272, and the record ends inside the command area (R160). -/
def State.framed (s : State) (header : List Byte) : Prop :=
  2 ≤ recordWords header ∧ recordWords header ≤ 272 ∧
    s.parser.cursor + 4 * recordWords header ≤ commandEnd s.straps

/-- Bytes of a record that end neither its header with a break or an end mark nor the record itself (R160). -/
def State.incomplete (s : State) (bytes : List Byte) : Prop :=
  bytes.length < 4 ∨ (s.framed bytes ∧ bytes.length < 4 * recordWords bytes)

/-- A whole record of 2 to 272 words that ends inside the command area (R157, R160). -/
def State.whole (s : State) (bytes : List Byte) : Prop := s.framed bytes ∧ bytes.length = 4 * recordWords bytes

/-- The break that a header of four bytes causes (R160): its length is tested first, and then where the record ends. -/
def State.breaks (s : State) (header : List Byte) (cause : ParseCause) : Prop :=
  header ≠ [0xFF, 0xFF, 0xFF, 0xFF] ∧
    ((cause = .length ∧ ¬(2 ≤ recordWords header ∧ recordWords header ≤ 272)) ∨
      (cause = .overrun ∧ 2 ≤ recordWords header ∧ recordWords header ≤ 272 ∧
        commandEnd s.straps < s.parser.cursor + 4 * recordWords header))

/-- What a refill may change and nothing else: queued fields, check-wanted flags, refill cursors and the check queue; and it
changes nothing if no LOADED window wants a check (R121). -/
def refilledOnly (s t : State) : Prop :=
  t = { s with windows := t.windows, scheduler := { s.scheduler with queue := t.scheduler.queue } } ∧
    (∀ w, ∃ chunks,
      t.win w =
        { s.win w with
          body := (s.win w).body.modCat fun c => { c with chunks := chunks }
          checkWanted := (t.win w).checkWanted, cursor := (t.win w).cursor }) ∧
    (∀ w i, sameChunk s t w i) ∧ (s.noRefill → t = s)

/-- The state of the chunk a byte of a read belongs to. -/
def State.stateAt (s : State) (b : ByteSite) : Option ChunkState :=
  match b.window, b.site with
  | some w, some (i, _) => (s.chunk? w i).map fun c => c.state
  | _, _ => none

/-- The values of every block after a reset (R1, R21, R24, R28, R45, R69, R97, R99, R115, R116, R120, R121, R125, R148, R159, R164,
R166, R170, R171, R174, R176). -/
def AfterReset (cause : ResetCause) (pins : Straps) (band : Band) (t : State) : Prop :=
  t.part = .starting ∧ t.cause = cause ∧ t.strapPins = pins ∧ t.straps = pins ∧
    t.readyHigh = false ∧ t.flashSelect = false ∧
    (∀ op : Byte, t.classOf op = ClassEntry.atReset op.toNat) ∧
    t.bridge.busy = true ∧ t.bridge.owner = .internal ∧ t.bridge.touched = .each [] ∧ t.bridge.pairing = false ∧
    t.bridge.claim = 0 ∧ t.bridge.collected = none ∧ t.bridge.portOp = none ∧
    (∀ w, t.win w =
      { body := .vacant, goodCount := 0, checkWanted := false, checkReportWanted := false, dipTouched := false
        fillReported := false, quiet := none, cursor := 0 }) ∧
    (∀ v, t.view v = none) ∧
    (∀ k, t.stream k = none) ∧ t.engine.recency = [] ∧ t.engine.readback = none ∧
    t.scheduler = { ms := 0, queue := [], rate := 2048, cap := 8192, credit := 0 } ∧
    t.supply.band = band ∧ t.supply.settle = none ∧
    t.parser = { phase := .ready, cursor := commandBase pins, taken := 0, refused := 0, skipped := 0 } ∧
    t.reports.journal = .scanning ∧ t.reports.index = 0 ∧ t.reports.scanSlot = 0 ∧ t.reports.marks = [] ∧
    t.reports.dropped = false ∧ t.reports.alert = false ∧
    t.reports.counters =
      { goodVerdicts := 0, badVerdicts := 0, readbackAborts := 0, evictions := 0, withheld := 0, fillCommands := 0 } ∧
    (band = .high →
      t.supply.state = .normal ∧ t.supply.latch = true ∧ t.supply.away = none ∧ t.reports.queue = []) ∧
    (band ≠ .high →
      t.supply.state = .dip ∧ t.supply.latch = false ∧ t.supply.away = some { leftAt := 0, entries := 1 } ∧
        t.reports.queue = [.supply false .internal 1 0 0 0 0])

end Sys2Proof.Machine
end

