-- ==== Sys2Proof/Certificates/Slice0/Obligations.lean ====
section
/-! DEFINITION. The statements for the provers, one obligation each. Where a statement has hypotheses, a theorem of
Sys2Proof/Tests/Slice0.lean named after it shows a state and operands that meet them together. -/

section

open Sys2Proof Sys2Proof.Machine

/-! ### The step and the queue of waiting steps -/

/-- A step takes the step at the front of the queue and runs it with the rest of the queue. The queue is the model's own (log
entry 4). -/
def Obligations.StepRunsTheFrontOfTheQueue : Prop :=
  ∀ (c : Instr) (rest : List Instr) (s : State), s.pending = c :: rest → step s = exec c { s with pending := rest }

/-- No step of the part faults or is refused, and none touches the queue of the steps that wait. That an event whose conditions do
not hold goes on with nothing changed is the model's choice (log entry 5). -/
def Obligations.EveryStepGoesOnAndLeavesTheQueue : Prop :=
  ∀ (c : Instr) (s : State), ∃ t, exec c s = .next t ∧ t.pending = s.pending

/-! ### Resets -/

/-- POWER_ON_RESET from any state, also from a part held in reset by its pin (log entry 16), gives every block its values after
reset, with cause SUPPLY (R166). -/
def Obligations.PowerOnResetGivesTheValuesAfterReset : Prop :=
  ∀ (pins : Straps) (band : Band) (s : State),
    ∃ t, exec (.powerOnReset pins band) s = .next t ∧ AfterReset .supply pins band t ∧ t.pending = s.pending

/-- RESET_PIN_ASSERT puts the part in reset, with ready low and the Flash Port select released; RESET_PIN_RELEASE then ends the
reset with cause PIN (R166). A pulse too short to put the part in reset is a RELEASE that finds it out of reset; it tells how the
strap pins now stand, and changes nothing of the part. The model's choices (log entry 16): ASSERT stands for the pin held low for
10 µs, and such a pulse for a RELEASE alone. -/
def Obligations.ResetPinHoldsThePartUntilItsRelease : Prop :=
  ∀ (pins : Straps) (band : Band) (s : State),
    (∃ t, exec .resetPinAssert s = .next t ∧ t.part = .held ∧ t.readyHigh = false ∧ t.flashSelect = false ∧
      ∃ u, exec (.resetPinRelease pins band) t = .next u ∧ AfterReset .pin pins band u ∧ u.pending = s.pending) ∧
    (s.part = .held →
      ∃ u, exec (.resetPinRelease pins band) s = .next u ∧ AfterReset .pin pins band u ∧ u.pending = s.pending) ∧
    (s.part ≠ .held → exec (.resetPinRelease pins band) s = .next { s with strapPins := pins })

/-- The opcode class table after a reset is the table of R1. -/
def Obligations.ClassTableAfterResetIsTheManuals : Prop :=
  ∀ (pins : Straps) (band : Band) (s t : State), exec (.powerOnReset pins band) s = .next t →
    t.classOf 0x03 = ⟨.read, 3, 0⟩ ∧ t.classOf 0x0B = ⟨.read, 3, 1⟩ ∧ t.classOf 0x13 = ⟨.read, 4, 0⟩ ∧
    t.classOf 0x0C = ⟨.read, 4, 1⟩ ∧ t.classOf 0x02 = ⟨.program, 3, 0⟩ ∧ t.classOf 0x12 = ⟨.program, 4, 0⟩ ∧
    t.classOf 0x20 = ⟨.erase4K, 3, 0⟩ ∧ t.classOf 0x21 = ⟨.erase4K, 4, 0⟩ ∧ t.classOf 0x52 = ⟨.erase32K, 3, 0⟩ ∧
    t.classOf 0xD8 = ⟨.erase64K, 3, 0⟩ ∧ t.classOf 0xDC = ⟨.erase64K, 4, 0⟩ ∧ t.classOf 0x60 = ⟨.eraseAll, 0, 0⟩ ∧
    t.classOf 0xC7 = ⟨.eraseAll, 0, 0⟩ ∧ t.classOf 0x05 = ⟨.status, 0, 0⟩ ∧ t.classOf 0x06 = ⟨.writeEnable, 0, 0⟩ ∧
    ∀ op : Byte,
      op ∉ ([0x03, 0x0B, 0x13, 0x0C, 0x02, 0x12, 0x20, 0x21, 0x52, 0xD8, 0xDC, 0x60, 0xC7, 0x05, 0x06] : List Byte) →
        t.classOf op = ⟨.pass, 0, 0⟩

/-! ### Host commands -/

/-- The ready line is low exactly in the four cases of R11. An opcode clocked while it is low is discarded: nothing reaches the
flash, every byte clocked out reads FFh, no report is raised, and no state changes, the pairing flag included, whichever row the
transfer came as. -/
def Obligations.OpcodeWhileReadyIsLowIsDiscarded : Prop :=
  (∀ s : State,
    s.readyHigh = false ↔
      s.part ≠ .running ∨ s.internalInFlight = true ∨ s.bridge.collected.isSome = true ∨
        (s.bridge.claim = 2 ∧ s.anyReady = true)) ∧
  ∀ (x : HostXfer) (s : State) (i : Instr), i ∈ hostRows x → s.readyHigh = false →
    exec i s = .next { s with ports := { toHost := List.replicate x.flash.length 0xFF, toFlash := [] } }

/-- A BLOCK command is withheld at its opcode: the host reads FFh, nothing reaches the flash, WITHHELD (CLASS_BLOCK) is raised
and counted, and the pairing flag is cleared; the address it carries is 0 for an address length of 0 (R8, R17). -/
def Obligations.BlockCommandIsWithheldAtItsOpcode : Prop :=
  ∀ (x : HostXfer) (s : State), s.readyHigh = true → (s.classOf x.opcode).cls = .block →
    ((s.classOf x.opcode).addrLen = 0 → x.addr (s.classOf x.opcode) s.flashBytes = 0) ∧
    exec (.block x) s =
      .next ({ s with
        bridge := { s.bridge with pairing := false }
        ports := { toHost := List.replicate x.flash.length 0xFF, toFlash := [] }
        reports :=
          { s.reports with
            queue :=
              (if s.reports.queue.length < 16 then
                s.reports.queue ++
                  [.withheld .block .classBlock x.opcode (x.addr (s.classOf x.opcode) s.flashBytes)]
              else s.reports.queue)
            dropped := if s.reports.queue.length < 16 then s.reports.dropped else true
            counters := { s.reports.counters with withheld := countUp s.reports.counters.withheld } } } :
        State).settleClaim

/-- PASS, WRITE_ENABLE and STATUS commands pass byte for byte in both directions. WRITE_ENABLE leaves the pairing flag set and the
others leave it clear; of the bytes that pass, only those of a STATUS command are watched, and the first with bit 0 clear clears a
busy record. A command whose select is released before its last address byte changes the pairing flag and nothing else, and
nothing of it reaches the flash (R2, R13, R17). That it delivers no byte to the host is the model's choice (log entry 35). -/
def Obligations.OtherCommandsAreForwardedAtOnceOrDiscarded : Prop :=
  ∀ (x : HostXfer) (s : State), s.readyHigh = true →
    ((s.classOf x.opcode).cls = .pass → (s.classOf x.opcode).addrLen ≤ x.sent.length →
      exec (.pass x) s =
        .next ({ s with
          bridge := { s.bridge with pairing := false }
          ports := { toHost := x.flash, toFlash := [⟨x.opcode, x.sent, x.flash.length⟩] } } : State).settleClaim) ∧
    ((s.classOf x.opcode).cls = .writeEnable → (s.classOf x.opcode).addrLen ≤ x.sent.length →
      exec (.writeEnable x) s =
        .next { s with
          bridge := { s.bridge with pairing := true, claim := 0 }
          ports := { toHost := x.flash, toFlash := [⟨x.opcode, x.sent, x.flash.length⟩] } }) ∧
    ((s.classOf x.opcode).cls = .status → (s.classOf x.opcode).addrLen ≤ x.sent.length →
      exec (.status x) s =
        .next ({ s with
          bridge :=
            (if s.bridge.busy = true ∧ ∃ b ∈ x.flash, b.getLsbD 0 = false then
              { s.bridge with pairing := false, busy := false, owner := .nobody, touched := .each [] }
            else { s.bridge with pairing := false })
          ports := { toHost := x.flash, toFlash := [⟨x.opcode, x.sent, x.flash.length⟩] } } : State).settleClaim) ∧
    ((s.classOf x.opcode).cls ≠ .block → x.sent.length < (s.classOf x.opcode).addrLen →
      exec (.commandDiscard x) s =
        .next ({ s with bridge := { s.bridge with pairing := false }, ports := { toHost := [], toFlash := [] } } :
          State).settleClaim)

/-- The write-enable pairing flag: set when a WRITE_ENABLE is forwarded, cleared when the opcode of any other command of the host is
taken, whatever becomes of the command, and cleared by every reset; while it is set no internal operation is ready, whatever
the claim count; the part's internal programs issue their own WRITE_ENABLE (R17). -/
def Obligations.WriteEnablePairingFlagFollowsTheHost : Prop :=
  (∀ (x : HostXfer) (s : State) (i : Instr), i ∈ hostRows x → s.readyHigh = true →
    ∃ t, exec i s = .next t ∧ (t.bridge.pairing = true ↔ s.hostKind x = .cls .writeEnable)) ∧
  (∀ (cause : ResetCause) (pins : Straps) (band : Band) (q : List Instr),
    (State.resetWith cause pins band q).bridge.pairing = false) ∧
  (∀ s : State, s.bridge.pairing = true → s.anyReady = false ∧ ∀ kind waiting, s.grants kind waiting = false) ∧
  ∀ (s : State) (addr : Nat) (data : List Byte), (s.programTxns addr data).head? = some ⟨0x06, [], 0⟩

/-- A PROGRAM is collected whole: opcode, address, the first 256 data bytes and the length of all of them. It is withheld, which
raises and counts WITHHELD and changes nothing else, or issued as one transaction (R6, R8). That the Flash Port and the report
carry the address reduced modulo the flash size is the model's choice (log entry 22), and so is that no byte is delivered to the
host during the command (log entry 35). -/
def Obligations.ProgramIsWithheldOrIssued : Prop :=
  ∀ (x : HostXfer) (s : State) (c : Collected), s.hostKind x = .cls .program →
    c = { cls := .program, opcode := x.opcode, addr := x.addr (s.classOf x.opcode) s.flashBytes
          data := (x.data (s.classOf x.opcode)).take 256, len := (x.data (s.classOf x.opcode)).length } →
    (s.withholdReason c = none →
      exec (.program x) s =
        .next ({ s with
          bridge := { s.bridge with pairing := false, collected := some c }
          ports :=
            { toHost := []
              toFlash := [⟨x.opcode, beBytes (s.classOf x.opcode).addrLen c.addr ++ c.data, 0⟩] } } :
          State).settleClaim) ∧
    ∀ reason, s.withholdReason c = some reason →
      exec (.program x) s =
        .next ({ (s.raise (.withheld .program reason x.opcode c.addr)).countWithheld with
          bridge := { s.bridge with pairing := false }, ports := { toHost := [], toFlash := [] } } : State).settleClaim

/-- An erase is collected, with its opcode and address (only its opcode for ERASE_ALL), and is withheld or issued like a PROGRAM
(R6, R8, R42). That the Flash Port and the report carry the address reduced modulo the flash size is the model's choice (log entry
22), and so is that no byte is delivered to the host during the command (log entry 35). -/
def Obligations.EraseIsWithheldOrIssued : Prop :=
  ∀ (x : HostXfer) (s : State) (cls : CmdClass) (row : Instr) (c : Collected),
    (cls, row) ∈ [(CmdClass.erase4K, Instr.erase4K x), (.erase32K, .erase32K x), (.erase64K, .erase64K x),
      (.eraseAll, .eraseAll x)] →
    s.hostKind x = .cls cls →
    c = { cls := cls, opcode := x.opcode
          addr := if cls = .eraseAll then 0 else x.addr (s.classOf x.opcode) s.flashBytes, data := [], len := 0 } →
    (s.withholdReason c = none →
      exec row s =
        .next ({ s with
          bridge := { s.bridge with pairing := false, collected := some c }
          ports := { toHost := [], toFlash := [⟨x.opcode, beBytes (s.classOf x.opcode).addrLen c.addr, 0⟩] } } :
          State).settleClaim) ∧
    ∀ reason, s.withholdReason c = some reason →
      exec row s =
        .next ({ (s.raise (.withheld cls reason x.opcode c.addr)).countWithheld with
          bridge := { s.bridge with pairing := false }, ports := { toHost := [], toFlash := [] } } : State).settleClaim

/-- The withhold tests, in the order of the table of R7, each said of single addresses (Safety.lean, State.withholdTest): the first
that applies gives the reason, and a command is issued exactly if none applies. -/
def Obligations.FirstWithholdTestGivesTheReason : Prop :=
  ∀ (s : State) (c : Collected),
    (s.withholdTest c .eraseAll → s.withholdReason c = some .eraseAll) ∧
    (¬s.withholdTest c .eraseAll → s.withholdTest c .oversize → s.withholdReason c = some .oversize) ∧
    (¬s.withholdTest c .eraseAll → ¬s.withholdTest c .oversize → s.withholdTest c .activeBank →
      s.withholdReason c = some .activeBank) ∧
    (¬s.withholdTest c .eraseAll → ¬s.withholdTest c .oversize → ¬s.withholdTest c .activeBank →
      s.withholdTest c .viewRange → s.withholdReason c = some .viewRange) ∧
    (¬s.withholdTest c .eraseAll → ¬s.withholdTest c .oversize → ¬s.withholdTest c .activeBank →
      ¬s.withholdTest c .viewRange → s.withholdTest c .reportArea → s.withholdReason c = some .reportArea) ∧
    ((∀ reason, ¬s.withholdTest c reason) → s.withholdReason c = none)

/-! ### Reads -/

/-- A READ delivers each unprotected byte from flash, and each protected one from flash or as its window's fill byte, whatever ticks,
band changes and read-back starts fall into it; with no such event, fill is what is not, or not yet, proven (R4, R105). Its mapped
bytes are read from the flash in the longest runs that follow on: the first run is the host's own command if it begins outside every
view, every other a read in the part's form (R4, R18, R33). A READ without data bytes opens one such read (log entry 31). A READ with
fill counts once in FILL_COMMANDS (R5). Each window of a fill byte gets its fill-reported flag, and if the flag was clear one
GUARD_FILL that names the view, the window's state and the fill byte of its first fill byte, unless the report is lost (R133, R175).
No event in a READ changes views, straps, geometries or what is on the Flash Port; with none, chunks, queue, reports and the pairing
flag change and nothing else (R5). That a READ is one step that carries its events is the model's choice (log entry 8). -/
def Obligations.ReadDeliversFlashOrFillAndKeepsTheRest : Prop :=
  ∀ (x : HostXfer) (s : State), s.hostKind x = .cls .read →
    let entry := s.classOf x.opcode
    let data := x.readBytes entry
    let first := x.addr entry s.flashBytes
    let site := fun k => s.siteOf ((first + k) % s.flashBytes)
    let own := fun r : Nat × Nat =>
      if s.flashBytes = 0x01000000 then FlashTxn.mk 0x03 (beBytes 3 r.1) r.2 else FlashTxn.mk 0x13 (beBytes 4 r.1) r.2
    let opening := fun r : Nat × Nat =>
      if s.viewAt first = none then FlashTxn.mk x.opcode (x.sent.take (entry.addrLen + entry.dummies)) r.2 else own r
    ∃ (t : State) (filled : Nat → Bool), exec (.read x) s = .next t ∧
      t.ports.toHost.length = data.length ∧
      (∀ (k : Nat) (byte : Byte), data[k]? = some byte →
        t.ports.toHost[k]? = some (if filled k = true then s.fillOf (site k) else byte) ∧
          (s.isProtected (site k) = false → filled k = false) ∧
          (x.during = [] → ContextLaw s → s.isProtected (site k) = true →
            (s.stateAt (site k) = some .good → filled k = false) ∧
            (s.stateAt (site k) ≠ some .good → s.stateAt (site k) ≠ some .unchecked → filled k = true) ∧
            ∀ w i o, s.stateAt (site k) = some .unchecked → (site k).window = some w → (site k).site = some (i, o) →
              (∀ j, j < k →
                ¬((site j).window = some w ∧ (site j).site = some (i, (s.win w).body.chunkLen i - 1))) →
              filled k = true)) ∧
      (∃ runs : List (Nat × Nat),
        runs.flatMap (fun r => (List.range r.2).map fun j => r.1 + j) =
            (List.range data.length).map (fun k => s.mapAddr ((first + k) % s.flashBytes)) ∧
          (∀ r ∈ runs, 0 < r.2) ∧ (∀ i r q, runs[i]? = some r → runs[i + 1]? = some q → q.1 ≠ r.1 + r.2) ∧
          (data ≠ [] → t.ports.toFlash = runs.mapIdx fun i r => if i = 0 then opening r else own r) ∧
          (data = [] → t.ports.toFlash = [opening (s.mapAddr first, 0)])) ∧
      t.reports.counters.fillCommands =
        (if (List.range data.length).any fun k => filled k && (site k).window.isSome then
          countUp s.reports.counters.fillCommands
        else s.reports.counters.fillCommands) ∧
      (∀ w, (t.win w).fillReported =
        ((s.win w).fillReported ||
          (List.range data.length).any fun k => filled k && decide ((site k).window = some w))) ∧
      (∃ raised, t.reports.queue = s.reports.queue ++ raised ∧ ∀ w,
        ((s.win w).fillReported = true ∨ (∀ k, k < data.length → filled k = true → (site k).window ≠ some w) →
          ∀ r ∈ raised, r.fillWindow ≠ some w) ∧
        ∀ k, k < data.length → filled k = true → (site k).window = some w → (s.win w).fillReported = false →
          (∀ j, j < k → filled j = true → (site j).window ≠ some w) →
          (raised.filter fun r => decide (r.fillWindow = some w)) =
              [.guardFill w (site k).view (s.win w).body.code (s.fillOf (site k))] ∨
            ((∀ r ∈ raised, r.fillWindow ≠ some w) ∧ 16 ≤ t.reports.queue.length ∧ t.reports.dropped = true)) ∧
      t.pending = s.pending ∧ t.part = s.part ∧ t.cause = s.cause ∧ t.strapPins = s.strapPins ∧ t.straps = s.straps ∧
      t.views = s.views ∧ (∀ w, (t.win w).body.geom? = (s.win w).body.geom?) ∧
      t.bridge = { s.bridge with pairing := false, claim := t.bridge.claim } ∧
      (x.during = [] → sameOutsideChunks s t) ∧
      (x.during = [] → ContextLaw s → t.engine.readback = s.engine.readback)

/-- Without events in it (log entry 8), a READ delivers from flash each protected image byte of a chunk GOOD when the READ
begins, and as fill each protected byte of no chunk, of a chunk neither GOOD nor UNCHECKED, or of an UNCHECKED chunk whose last
byte the READ has not passed: only harvesting proves a chunk, at its last byte (R4, R105). A dip that falls into the READ makes
the chunks under the touched list unproven from the next byte on (R149). Harvesting takes only UNCHECKED chunks, and drops the
read streams of those it meets while the flash is busy (R105, R108). A READ within one UNCHECKED chunk, with the flash not busy,
starts a read stream in the FREE context of the lowest number if it begins at offset 0 and no stream holds the chunk; with none
FREE, or at another offset, nothing starts (R106). At the frontier of the chunk's read stream it advances it, and elsewhere it
drops it (R107); the context that takes bytes goes to the front of the recency list (R99). At the chunk's end the chunk gets its
verdict, or is COMPUTED in an OPEN window (R109); a chunk whose read-back starts within the READ is CHECKING, and is not
harvested (R105). A verdict is counted; GUARD_FILL, CHUNK_BAD with source HARVEST, IMAGE and CHECK_DONE are raised where they
are due, in this order (R72, R90, R91, R123). -/
def Obligations.ReadDeliversProvenBytesAndFillsUnprovenOnes : Prop :=
  ∀ (x : HostXfer) (s : State), ContextLaw s → s.hostKind x = .cls .read →
    let data := x.readBytes (s.classOf x.opcode)
    let site := fun k => s.siteOf ((x.addr (s.classOf x.opcode) s.flashBytes + k) % s.flashBytes)
    ∃ t, exec (.read x) s = .next t ∧
      (x.during = [] → ∀ (k : Nat) (byte : Byte), data[k]? = some byte → s.isProtected (site k) = true →
        (s.stateAt (site k) = some .good → t.ports.toHost[k]? = some byte) ∧
        (s.stateAt (site k) ≠ some .good → s.stateAt (site k) ≠ some .unchecked →
          t.ports.toHost[k]? = some (s.fillOf (site k))) ∧
        ∀ w i o, s.stateAt (site k) = some .unchecked → (site k).window = some w → (site k).site = some (i, o) →
          (∀ j, j < k →
            ¬((site j).window = some w ∧ (site j).site = some (i, (s.win w).body.chunkLen i - 1))) →
          t.ports.toHost[k]? = some (s.fillOf (site k))) ∧
      (∀ m, x.during = [(m, .bandChange .low)] → s.supply.band ≠ .low → s.supply.state ≠ .dip →
        s.bridge.busy = true → s.bridge.owner = .host →
        ∀ k w i o, m ≤ k → k < data.length → s.isProtected (site k) = true → (site k).window = some w →
          (site k).site = some (i, o) →
          (s.win w).body.chunkMet i (s.bridge.touched.ranges s.flashBytes) = true →
          t.ports.toHost[k]? = some (s.fillOf (site k))) ∧
      (x.during = [] → ∀ w i ch, s.chunk? w i = some ch →
        (ch.state ≠ .unchecked → sameChunk s t w i) ∧
        (s.bridge.busy = true →
          ((∃ k, k < data.length ∧ (site k).window = some w ∧ (site k).site.map Prod.fst = some i) →
            ch.state = .unchecked →
            (∃ d, t.chunk? w i = some d ∧ d.known = (.unchecked, ch.expected, ch.observed, none)) ∧
              ∀ k, ch.link = some (.stream k) → t.stream k = none ∧ k ∉ t.engine.recency) ∧
          ((∀ k, k < data.length → ¬((site k).window = some w ∧ (site k).site.map Prod.fst = some i)) →
            sameChunk s t w i))) ∧
      (x.during = [] → s.bridge.busy = false → data ≠ [] → ∀ w i off ch, s.chunk? w i = some ch → ch.state = .unchecked →
        (∃ v p, ∀ k, k < data.length →
          site k = { view := v, addr := p + k, window := some w, site := some (i, off + k) }) →
        let len := (s.win w).body.chunkLen i
        let fill : List Report :=
          if s.isProtected (site 0) = true ∧ (s.win w).fillReported = false then
            [.guardFill w (site 0).view (s.win w).body.code (s.fillOf (site 0))]
          else []
        let unproven :=
          (∀ u j, (u, j) ≠ (w, i) → sameChunk s t u j) ∧
          t.reports.counters = { s.reports.counters with fillCommands := t.reports.counters.fillCommands } ∧
          tells s t [] fill [] ∧ s.scheduler.queue <+: t.scheduler.queue ∧
          (s.noRefill → t.scheduler.queue = s.scheduler.queue ∧ (t.chunk? w i).map (fun c => c.queued) = some ch.queued)
        let linked := fun link : Option Link =>
          ∃ d, t.chunk? w i = some d ∧ d.known = (.unchecked, ch.expected, ch.observed, link)
        let holds := fun (k : Fin 3) (stream : Option StreamCtx) =>
          (∀ j, t.stream j = if j = k then stream else s.stream j) ∧
            t.engine.recency =
              if stream.isSome = true then k :: s.engine.recency.filter (· ≠ k) else s.engine.recency.filter (· ≠ k)
        let proven := fun digest : Digest =>
          (∀ u j, (u, j) ≠ (w, i) → sameChunk s t u j) ∧
          ∃ d, t.chunk? w i = some d ∧
            d.known =
              (if (s.win w).body.isLoaded = false then ChunkState.computed
                else if ch.expected = some digest then .good
                else .bad,
                ch.expected, some digest, none) ∧
            t.reports.counters =
              { s.reports.counters with
                goodVerdicts :=
                  if d.state = .good then countUp s.reports.counters.goodVerdicts else s.reports.counters.goodVerdicts
                badVerdicts :=
                  if d.state = .bad then countUp s.reports.counters.badVerdicts else s.reports.counters.badVerdicts
                fillCommands := t.reports.counters.fillCommands } ∧
            tells s t [w] (fill ++ if d.state = .bad then [.chunkBad w .harvest i len] else []) []
        (ch.link = none → off ≠ 0 ∨ (∀ k, (s.stream k).isSome = true) →
          unproven ∧ linked none ∧ t.engine = s.engine) ∧
        (∀ k, ch.link = none → off = 0 → s.stream k = none → (∀ j : Fin 3, j < k → (s.stream j).isSome = true) →
          (data.length ≠ len →
            unproven ∧ linked (some (.stream k)) ∧
              holds k (some
                { kind := .read, window := w, chunk := i, frontier := data.length, run := Running.start.absorb data })) ∧
          (data.length = len → proven (chunkDigest data) ∧ holds k none)) ∧
        ∀ k y, ch.link = some (.stream k) → s.stream k = some y →
          (off ≠ y.frontier → unproven ∧ linked none ∧ holds k none) ∧
          (off = y.frontier → off + data.length ≠ len →
            unproven ∧ linked (some (.stream k)) ∧
              holds k (some { y with frontier := y.frontier + data.length, run := y.run.absorb data })) ∧
          (off = y.frontier → off + data.length = len → proven (y.run.absorb data).complete ∧ holds k none)) ∧
      ∀ e rest ch, x.during = [(0, .readbackStart)] → QueueLaw s → s.scheduler.queue = e :: rest →
        s.chunk? e.window e.chunk = some ch → s.engine.readback = none → s.bridge.busy = false →
        (e.urgent = true ∨ min 256 ((s.win e.window).body.chunkLen e.chunk) ≤ s.scheduler.credit) →
        (∃ d, t.chunk? e.window e.chunk = some d ∧ d.known = (.checking, ch.expected, none, some .readback)) ∧
          t.engine.readback =
            some { window := e.window, chunk := e.chunk, next := 0, inFlight := none, run := Running.start
                   urgent := e.urgent }

/-- A mapped address of a view byte lies in the selected bank window, at the byte's offset from the view's base (R33). -/
def Obligations.ViewAddressMapsIntoTheSelectedBank : Prop :=
  ∀ (s : State) (x : Nat), WindowLaw s → ViewLaw s → ∀ v view, s.viewAt x = some v → s.view v = some view →
    (s.win view.current).body.covers (s.mapAddr x) = true ∧
      s.mapAddr x = (s.win view.current).body.base + (x - view.base) ∧
      s.windowAt (s.mapAddr x) = some view.current

/-! ### Programs and erases at their forwarding -/

/-- A forwarded PROGRAM that reaches no chunk and not the command area makes the flash busy and adds its landing bytes to the
touched list; it restarts the quiet timer of the LOADED window it lands in; no chunk, report or context changes (R6, R9, R12, R37,
R120). The touched list has one entry for each command, 16 at most: a further command puts the one entry for the whole flash in
their place, and nothing is added to that; it covers what its entries cover (R12). A PROGRAM of no data bytes only empties the
command buffer; without a collected PROGRAM none is forwarded, and without a collected erase no erase is. These last clauses are the
model's choice (log entry 5). -/
def Obligations.ProgramThatReachesNoChunkOnlyTouches : Prop :=
  (∀ (s : State) (c : Collected), s.bridge.collected = some c → c.cls = .program → c.len ≠ 0 →
    ((s.windowAt (pageBase c.addr) = none ∧ s.pageInCommandArea c.addr = false) ∨
      ∃ w, s.windowAt (pageBase c.addr) = some w ∧ (s.win w).body.landing c.addr c.len = none) →
    ∃ t, exec .programForward s = .next t ∧ forwarded s t (landingRanges c.addr c.len) ∧ sameOutsideChunks s t ∧
      (∀ w i, sameChunk s t w i) ∧ t.engine = s.engine ∧ t.reports = s.reports ∧
      ∀ w, (t.win w).quiet =
        if s.windowAt (pageBase c.addr) = some w ∧ (s.win w).body.isLoaded = true then (s.win w).body.quietStart
        else (s.win w).quiet) ∧
  (∀ (entries : List (List (Nat × Nat))) (ranges : List (Nat × Nat)),
    (entries.length < 16 → (TouchedList.each entries).add ranges = .each (entries ++ [ranges])) ∧
    (16 ≤ entries.length → (TouchedList.each entries).add ranges = .whole) ∧
    TouchedList.whole.add ranges = .whole ∧
    ∀ flashBytes p : Nat,
      (inRanges ((TouchedList.each entries).ranges flashBytes) p ↔ ∃ e ∈ entries, inRanges e p) ∧
        (inRanges (TouchedList.whole.ranges flashBytes) p ↔ p < flashBytes)) ∧
  ∀ s : State,
    (∀ c, s.bridge.collected = some c → c.cls = .program → c.len = 0 →
      exec .programForward s =
        .next ({ s with bridge := { s.bridge with collected := none } } : State).settleClaim) ∧
    ((∀ c, s.bridge.collected = some c → c.cls ≠ .program) → exec .programForward s = .next s) ∧
    ((∀ c, s.bridge.collected = some c → c.cls = .program) → exec .eraseForward s = .next s)

/-- A program that names a chunk and neither starts nor continues a stream makes the chunk UNCHECKED: any program outside NORMAL;
and in NORMAL any program on an UNCHECKED, CHECKING, COMPUTED, GOOD or BAD chunk, one on an ERASED chunk that does not begin at
offset 0 or wraps, and one on a FILLING chunk that does not begin at the frontier or wraps. It ends what digested the chunk, an
aborted read-back is counted, a GOOD chunk lowers the good count, and outside NORMAL the window is dip-touched. The quiet timer of
a LOADED window restarts, and no other chunk changes; IMAGE (lost) is raised if the image was complete, and no report else but a
CHECK_DONE that is due (R9, R70, R72, R74, R75, R76, R77, R78, R79, R90, R120, R123). -/
def Obligations.ProgramOutsideAStreamMakesItsChunkUnchecked : Prop :=
  ∀ (s : State) (c : Collected) (w : Fin 32) (l : Landing) (ch : Chunk),
    s.bridge.collected = some c → c.cls = .program → c.len ≠ 0 → s.windowAt (pageBase c.addr) = some w →
    (s.win w).body.landing c.addr c.len = some l → s.chunk? w l.chunk = some ch →
    (s.supply.state ≠ .normal ∨ ch.state ∈ [ChunkState.unchecked, .checking, .computed, .good, .bad] ∨
      (ch.state = .erased ∧ (l.offset ≠ 0 ∨ l.wraps = true)) ∨
      (ch.state = .filling ∧ ∀ k x, ch.link = some (.stream k) → s.stream k = some x →
        l.offset ≠ x.frontier ∨ l.wraps = true)) →
    ∃ t, exec .programForward s = .next t ∧ forwarded s t (landingRanges c.addr c.len) ∧ sameOutsideChunks s t ∧
      nowUnchecked t w l.chunk ch ∧ (∀ u j, (u, j) ≠ (w, l.chunk) → sameChunk s t u j) ∧
      (t.win w).goodCount = (s.win w).goodCount - (if ch.state = .good then 1 else 0) ∧
      (t.win w).dipTouched = ((s.win w).dipTouched || decide (s.supply.state ≠ .normal)) ∧ tells s t [w] [] [] ∧
      quietRestarted s t (fun u => u = w) ∧
      (∀ k, t.stream k = if ch.link = some (.stream k) then none else s.stream k) ∧
      t.engine.readback = (if ch.link = some .readback then none else s.engine.readback) ∧
      t.reports.counters =
        if ch.link = some .readback then
          { s.reports.counters with readbackAborts := countUp s.reports.counters.readbackAborts }
        else s.reports.counters

/-- A program at offset 0 of an ERASED chunk, with the supply NORMAL, starts a stream. With a context FREE the chunk is FILLING: the
FREE context of the lowest number digests the image bytes of the landing and goes to the front of the recency list (R74, R99,
R100). With none FREE the read stream advanced least recently, or else the program stream, is evicted first: its chunk is
UNCHECKED with no context, and EVICTIONS is counted (R86, R101). A landing that reaches the chunk's end finalizes the stream at
once: COMPUTED in an OPEN window, GOOD or BAD in a LOADED one (R82), and CHUNK_BAD, IMAGE and CHECK_DONE are raised where they are
due, in this order, and no other report (R72, R90, R91, R123). The quiet timer of a LOADED window restarts (R9, R120). -/
def Obligations.ProgramAtOffsetZeroOfAnErasedChunkStartsAStream : Prop :=
  (∀ (s : State) (c : Collected) (w : Fin 32) (l : Landing) (ch : Chunk) (k : Fin 3),
    s.bridge.collected = some c → c.cls = .program → c.len ≠ 0 → c.data.length = c.len →
    s.windowAt (pageBase c.addr) = some w → (s.win w).body.landing c.addr c.len = some l →
    s.chunk? w l.chunk = some ch → s.supply.state = .normal → ch.state = .erased → l.offset = 0 → l.wraps = false →
    s.stream k = none → (∀ j : Fin 3, j < k → (s.stream j).isSome = true) →
    l.count ≠ (s.win w).body.chunkLen l.chunk →
    ∃ t, exec .programForward s = .next t ∧ forwarded s t (landingRanges c.addr c.len) ∧ sameOutsideChunks s t ∧
      quietRestarted s t (fun u => u = w) ∧
      (∃ d, t.chunk? w l.chunk = some d ∧ d.known = (.filling, ch.expected, ch.observed, some (.stream k))) ∧
      (∀ u j, (u, j) ≠ (w, l.chunk) → sameChunk s t u j) ∧
      (∀ j, t.stream j =
        if j = k then
          some { kind := .program, window := w, chunk := l.chunk, frontier := l.count
                 run := Running.start.absorb (c.data.take l.count) }
        else s.stream j) ∧
      t.engine.recency = k :: s.engine.recency.filter (· ≠ k) ∧ t.engine.readback = s.engine.readback ∧
      t.reports.counters = s.reports.counters ∧ tells s t [w] [] []) ∧
  ∀ (s : State) (c : Collected) (w : Fin 32) (l : Landing) (ch : Chunk) (k : Fin 3) (digest : Digest)
      (counters : Counters),
    ContextLaw s → s.takesContext k →
    s.bridge.collected = some c → c.cls = .program → c.len ≠ 0 → c.data.length = c.len →
    s.windowAt (pageBase c.addr) = some w → (s.win w).body.landing c.addr c.len = some l →
    s.chunk? w l.chunk = some ch → s.supply.state = .normal → ch.state = .erased → l.offset = 0 → l.wraps = false →
    digest = chunkDigest (c.data.take l.count) →
    counters =
      (if (s.stream k).isSome then
        { s.reports.counters with evictions := countUp s.reports.counters.evictions }
      else s.reports.counters) →
    ∃ t, exec .programForward s = .next t ∧ forwarded s t (landingRanges c.addr c.len) ∧ sameOutsideChunks s t ∧
      quietRestarted s t (fun u => u = w) ∧ t.engine.readback = s.engine.readback ∧
      (∀ j, j ≠ k → t.stream j = s.stream j) ∧
      (∀ x victim, s.stream k = some x → s.chunk? x.window x.chunk = some victim →
        ∃ d, t.chunk? x.window x.chunk = some d ∧
          d.known =
            (.unchecked, victim.expected, if x.kind = .read then victim.observed else none, none)) ∧
      (∀ u j, (u, j) ≠ (w, l.chunk) → (∀ x, s.stream k = some x → (u, j) ≠ (x.window, x.chunk)) → sameChunk s t u j) ∧
      (l.count ≠ (s.win w).body.chunkLen l.chunk →
        (∃ d, t.chunk? w l.chunk = some d ∧ d.known = (.filling, ch.expected, ch.observed, some (.stream k))) ∧
          t.stream k =
            some { kind := .program, window := w, chunk := l.chunk, frontier := l.count
                   run := Running.start.absorb (c.data.take l.count) } ∧
          t.engine.recency = k :: s.engine.recency.filter (· ≠ k) ∧ t.reports.counters = counters ∧ tells s t [w] [] []) ∧
      (l.count = (s.win w).body.chunkLen l.chunk →
        t.stream k = none ∧ t.engine.recency = s.engine.recency.filter (· ≠ k) ∧
        ((s.win w).body.isLoaded = false →
          (∃ d, t.chunk? w l.chunk = some d ∧ d.known = (.computed, ch.expected, some digest, none)) ∧
            t.reports.counters = counters ∧ tells s t [w] [] []) ∧
        ((s.win w).body.isLoaded = true → ch.expected = some digest →
          (∃ d, t.chunk? w l.chunk = some d ∧ d.known = (.good, ch.expected, some digest, none)) ∧
            (t.win w).goodCount = (s.win w).goodCount + 1 ∧
            t.reports.counters = { counters with goodVerdicts := countUp counters.goodVerdicts } ∧ tells s t [w] [] []) ∧
        ((s.win w).body.isLoaded = true → ch.expected ≠ some digest →
          (∃ d, t.chunk? w l.chunk = some d ∧ d.known = (.bad, ch.expected, some digest, none)) ∧
            (t.win w).goodCount = (s.win w).goodCount ∧
            t.reports.counters = { counters with badVerdicts := countUp counters.badVerdicts } ∧
            tells s t [w] [.chunkBad w .stream l.chunk ((s.win w).body.chunkLen l.chunk)] []))

/-- A program at the frontier of a FILLING chunk advances its stream, or at the chunk's end finalizes it: COMPUTED in an OPEN window,
and in a LOADED one GOOD if the digest of the bytes equals the expected digest and BAD if not, counted as a verdict (R75, R82, R91,
R102, R103). CHUNK_BAD, IMAGE and CHECK_DONE are raised where they are due, in this order, and no other report (R72, R90, R91,
R123). The quiet timer of a LOADED window restarts (R9, R120). -/
def Obligations.ProgramAtTheFrontierAdvancesOrFinalizesTheStream : Prop :=
  ∀ (s : State) (c : Collected) (w : Fin 32) (l : Landing) (ch : Chunk) (k : Fin 3) (x : StreamCtx) (digest : Digest),
    s.bridge.collected = some c → c.cls = .program → c.len ≠ 0 → c.data.length = c.len →
    s.windowAt (pageBase c.addr) = some w → (s.win w).body.landing c.addr c.len = some l →
    s.chunk? w l.chunk = some ch → s.supply.state = .normal → ch.state = .filling → ch.link = some (.stream k) →
    s.stream k = some x → x.window = w → x.chunk = l.chunk → l.offset = x.frontier → l.wraps = false →
    digest = (x.run.absorb (c.data.take l.count)).complete →
    ∃ t, exec .programForward s = .next t ∧ forwarded s t (landingRanges c.addr c.len) ∧ sameOutsideChunks s t ∧
      quietRestarted s t (fun u => u = w) ∧
      (∀ u j, (u, j) ≠ (w, l.chunk) → sameChunk s t u j) ∧ (∀ j, j ≠ k → t.stream j = s.stream j) ∧
      t.engine.readback = s.engine.readback ∧
      (x.frontier + l.count ≠ (s.win w).body.chunkLen l.chunk →
        sameChunk s t w l.chunk ∧
          t.stream k =
            some { x with frontier := x.frontier + l.count, run := x.run.absorb (c.data.take l.count) } ∧
          t.engine.recency = k :: s.engine.recency.filter (· ≠ k) ∧
          t.reports.counters = s.reports.counters ∧ tells s t [w] [] []) ∧
      (x.frontier + l.count = (s.win w).body.chunkLen l.chunk →
        t.stream k = none ∧ t.engine.recency = s.engine.recency.filter (· ≠ k) ∧
        ((s.win w).body.isLoaded = false →
          (∃ d, t.chunk? w l.chunk = some d ∧ d.known = (.computed, ch.expected, some digest, none)) ∧
            t.reports.counters = s.reports.counters ∧ tells s t [w] [] []) ∧
        ((s.win w).body.isLoaded = true → ch.expected = some digest →
          (∃ d, t.chunk? w l.chunk = some d ∧ d.known = (.good, ch.expected, some digest, none)) ∧
            (t.win w).goodCount = (s.win w).goodCount + 1 ∧
            t.reports.counters =
              { s.reports.counters with goodVerdicts := countUp s.reports.counters.goodVerdicts } ∧
            tells s t [w] [] []) ∧
        ((s.win w).body.isLoaded = true → ch.expected ≠ some digest →
          (∃ d, t.chunk? w l.chunk = some d ∧ d.known = (.bad, ch.expected, some digest, none)) ∧
            (t.win w).goodCount = (s.win w).goodCount ∧
            t.reports.counters =
              { s.reports.counters with badVerdicts := countUp s.reports.counters.badVerdicts } ∧
            tells s t [w] [.chunkBad w .stream l.chunk ((s.win w).body.chunkLen l.chunk)] []))

/-- A forwarded erase, ERASE_ALL included: every chunk its cover meets goes where the table of R80 or R81 sends it, and no other
chunk changes; each good count keeps its law (R89); the streams and the read-back of the chunks met are dropped, an aborted
read-back is counted, and other contexts stand (R80); the quiet timer of each LOADED window met restarts, and no other (R10,
R120). For each window of a chunk met, in ascending number, IMAGE and CHECK_DONE are raised where they are due, and no other
report (R72, R90, R123). Outside the control region the blocks that know nothing of chunks do not change, but for the flash-busy
record (R12, R43). An erase that takes the mark of a RESTART off the queue is the one that resets the part (R165), and is left
to the next statement. -/
def Obligations.EraseSendsEachChunkWhereTheTableSays : Prop :=
  ∀ (s : State) (c : Collected) (cover : Nat × Nat), s.bridge.collected = some c → c.cls ≠ .program →
    cover = eraseCover c.cls c.addr s.flashBytes →
    (overlaps cover.1 cover.2 (commandBase s.straps) (commandEnd s.straps) = true →
      s.reports.marks.any (fun m => m.restart && m.inCover cover) = false) →
    ∃ t, exec .eraseForward s = .next t ∧ forwarded s t [cover] ∧
      (overlaps cover.1 cover.2 (commandBase s.straps) (reportEnd s.straps) = false → sameOutsideChunks s t) ∧
      quietRestarted s t (fun w => (s.win w).body.meets cover.1 cover.2 = true) ∧
      tells s t (allWindows.filter fun w => (s.win w).body.anyChunkMet [cover]) [] [] ∧
      (GoodLaw s → GoodLaw t) ∧
      (ContextLaw s →
        (∀ k, t.stream k =
          (s.stream k).filter fun x => !(s.win x.window).body.chunkMet x.chunk [cover]) ∧
        t.engine.readback =
          (s.engine.readback.filter fun r => !(s.win r.window).body.chunkMet r.chunk [cover]) ∧
        t.reports.counters =
          if s.engine.readback.any fun r => (s.win r.window).body.chunkMet r.chunk [cover] then
            { s.reports.counters with readbackAborts := countUp s.reports.counters.readbackAborts }
          else s.reports.counters) ∧
      ∀ w i ch, s.chunk? w i = some ch →
        ((s.win w).body.chunkMet i [cover] = false → sameChunk s t w i) ∧
        ((s.win w).body.chunkMet i [cover] = true → s.supply.state ≠ .normal →
          nowUnchecked t w i ch ∧ (t.win w).dipTouched = true) ∧
        ((s.win w).body.chunkMet i [cover] = true → s.supply.state = .normal →
          (s.win w).body.chunkCovered i cover = false → nowUnchecked t w i ch) ∧
        ((s.win w).body.chunkMet i [cover] = true → s.supply.state = .normal →
          (s.win w).body.chunkCovered i cover = true →
          ∃ d, t.chunk? w i = some d ∧
            (∀ g cat, (s.win w).body = .opened g cat → d.known = (.erased, ch.expected, none, none)) ∧
            ∀ g cat e, (s.win w).body = .loaded g cat e →
              d.known =
                if ch.expected = some (erasedDigest cat e i) then
                  (.good, ch.expected, some (erasedDigest cat e i), none)
                else (.erased, ch.expected, none, none))

/-- An erase of the command area returns the parser to READY at the area's start and takes the marks in its cover off the queue;
if a RESTART's mark is among them, the reset takes place at once (R162, R165). An erase of the report area puts the journal into
RESCAN from slot 0, unless it is FAILED; the pending reports and the alert line stand (R173). The reset reads the straps and the
band as last known: the model's choice (log entry 16). -/
def Obligations.EraseOfTheControlRegionResetsItsReaders : Prop :=
  ∀ (s : State) (c : Collected) (cover : Nat × Nat), s.bridge.collected = some c → c.cls ≠ .program →
    cover = eraseCover c.cls c.addr s.flashBytes →
    (overlaps cover.1 cover.2 (commandBase s.straps) (commandEnd s.straps) = true →
      ∃ t, exec .eraseForward s = .next t ∧ t.pending = s.pending ∧
        (s.reports.marks.any (fun m => m.restart && m.inCover cover) = true →
          AfterReset .restart s.strapPins s.supply.band t) ∧
        (s.reports.marks.any (fun m => m.restart && m.inCover cover) = false →
          forwarded s t [cover] ∧
          t.parser = { s.parser with phase := .ready, cursor := commandBase s.straps } ∧
          t.reports.marks = s.reports.marks.filter (fun m => !m.inCover cover) ∧
          (∀ v, t.view v = (s.view v).map fun view =>
            { view with pendingCommit := view.pendingCommit.map fun pc =>
                if cover.1 ≤ pc.recordAddr + 1 ∧ pc.recordAddr + 1 < cover.2 then { pc with recordStands := false }
                else pc }) ∧
          t.straps = s.straps ∧ t.supply = s.supply ∧
          ∀ w, (t.win w).body.geom? = (s.win w).body.geom?)) ∧
    (overlaps cover.1 cover.2 (reportBase s.straps) (reportEnd s.straps) = true →
      (overlaps cover.1 cover.2 (commandBase s.straps) (commandEnd s.straps) = true →
        s.reports.marks.any (fun m => m.restart && m.inCover cover) = false) →
      ∃ t, exec .eraseForward s = .next t ∧ forwarded s t [cover] ∧
        (s.reports.journal ≠ .failed →
          t.reports.journal = .rescan ∧ t.reports.index = 0 ∧ t.reports.scanSlot = 0) ∧
        (s.reports.journal = .failed →
          t.reports.journal = .failed ∧ t.reports.index = s.reports.index ∧
            t.reports.scanSlot = s.reports.scanSlot) ∧
        t.reports.alert = s.reports.alert ∧ t.supply = s.supply ∧ s.reports.queue <+: t.reports.queue)

/-! ### Landings and covers -/

/-- The landing of a PROGRAM of 1 to 256 bytes: data byte k lands at the page base plus the page offset modulo 256, at an address of
its own; the landing bytes are exactly the touched bytes; a wrapping program lands on the end of its page first and then on its
start. A PROGRAM of no bytes has no landing bytes, and a longer one is withheld with OVERSIZE (R38). -/
def Obligations.LandingStaysInItsPage : Prop :=
  (∀ a len : Nat, 1 ≤ len → len ≤ 256 →
    (programWraps a len = true ↔ 256 < a % 256 + len) ∧
    (∀ k, landingAddr a k = (a - a % 256) + (a % 256 + k) % 256) ∧
    (∀ k j, k < len → j < len → landingAddr a k = landingAddr a j → k = j) ∧
    (∀ p, inRanges (landingRanges a len) p ↔ ∃ k, k < len ∧ landingAddr a k = p) ∧
    (programWraps a len = false → landingRanges a len = [(a, a + len)]) ∧
    (programWraps a len = true →
      landingRanges a len =
        [(a, a - a % 256 + 256), (a - a % 256, a - a % 256 + (a % 256 + len - 256))])) ∧
  (∀ a, landingRanges a 0 = []) ∧
  ∀ (s : State) (c : Collected), c.cls = .program →
    c.touched s.flashBytes = landingRanges c.addr c.len ∧
      (256 < c.len → s.withholdReason c = some .oversize)

/-- The cover of a sized erase is the aligned range of its size that holds its address, whatever the opcode, and lies inside the flash;
the cover of ERASE_ALL is the whole flash; the cover is the erase's touched bytes (R42). -/
def Obligations.EraseCoverIsTheAlignedRange : Prop :=
  ∀ (size : BitVec 3) (a : Nat) (cls : CmdClass) (bytes : Nat),
    (cls, bytes) ∈ [(CmdClass.erase4K, 4096), (.erase32K, 32768), (.erase64K, 65536)] → a < flashSize size →
    eraseCover cls a (flashSize size) = (a - a % bytes, a - a % bytes + bytes) ∧
      a - a % bytes + bytes ≤ flashSize size ∧
      eraseCover .eraseAll a (flashSize size) = (0, flashSize size) ∧
      ∀ c : Collected, c.cls ∈ [CmdClass.erase4K, .erase32K, .erase64K, .eraseAll] →
        c.touched (flashSize size) = [eraseCover c.cls c.addr (flashSize size)]

/-! ### Supply -/

/-- A band change moves the supply state and the settle timer as the table of R147 gives; the band already held is no event, and a
part held in reset reads no band. An entry to DIP clears the latch and starts the away record, or counts in it (R149); from NORMAL
it raises SUPPLY (dip), here of a dip that finds the flash not busy with the host and so marks no chunk, and from SETTLING it raises
none (R149, R156). That a part held in reset reads no band is the model's reading of R148 (log entry 16). -/
def Obligations.BandChangeFollowsTheSupplyTable : Prop :=
  ∀ (s : State) (band : Band),
    (s.part = .held ∨ band = s.supply.band → exec (.bandChange band) s = .next s) ∧
    (s.part ≠ .held → band ≠ s.supply.band → ∃ t, exec (.bandChange band) s = .next t ∧
      t.supply.band = band ∧ t.views = s.views ∧ t.straps = s.straps ∧ t.pending = s.pending ∧ t.part = s.part ∧
      t.ports = s.ports ∧ (∀ w, (t.win w).body.geom? = (s.win w).body.geom?) ∧
      (band ≠ .low → t.engine = s.engine ∧ t.parser = s.parser ∧ t.reports = s.reports ∧ ∀ w i, sameChunk s t w i) ∧
      (band = .low → s.bridge.busy = false ∨ s.bridge.owner ≠ .host →
        t.engine = s.engine ∧ t.parser = s.parser ∧ (∀ w i, sameChunk s t w i) ∧
        t.reports =
          if s.supply.state = .normal then
            (s.raise (.supply false s.bridge.owner 1 s.scheduler.ms 0 0 0)).reports
          else s.reports) ∧
      t.bridge = { s.bridge with claim := t.bridge.claim } ∧
      t.scheduler = { s.scheduler with queue := t.scheduler.queue } ∧
      (s.supply.state = .normal → band ≠ .low → t.supply = { s.supply with band := band }) ∧
      (s.supply.state = .normal → band = .low →
        t.supply =
          { state := .dip, band := .low, settle := none, latch := false
            away := some { leftAt := s.scheduler.ms, entries := 1 } }) ∧
      (s.supply.state = .dip → band = .high →
        t.supply = { s.supply with band := band, state := .settling, settle := some 25 }) ∧
      (s.supply.state = .dip → band ≠ .high → t.supply = { s.supply with band := band }) ∧
      (s.supply.state = .settling → band = .low →
        t.supply =
          { state := .dip, band := .low, settle := none, latch := false
            away := s.supply.away.map fun a => { a with entries := countUp a.entries } }) ∧
      (s.supply.state = .settling → band = .mid → t.supply = { s.supply with band := band, settle := none }) ∧
      (s.supply.state = .settling → band = .high → t.supply = { s.supply with band := band, settle := some 25 }))

/-- A dip that begins while the flash is busy with owner host makes every chunk with image bytes under the touched list
UNCHECKED from every state, and marks its window dip-touched; other chunks stand (R88). With busy no or another owner no chunk
changes. From NORMAL the last report of the event is SUPPLY (dip), with the number of chunks made UNCHECKED from another state
and the set of windows marked; from SETTLING no SUPPLY report is raised (R149, R156). Ahead of it, for each window of a chunk
marked, in ascending number, IMAGE (lost) and CHECK_DONE are raised where they are due, and no other report (R72, R90, R123).
The record being collected is tainted if a byte of it lies under the touched list, and nothing else of the parser changes
(R152). -/
def Obligations.DipMarksTheChunksUnderTheTouchedList : Prop :=
  ∀ (s : State) (ranges : List (Nat × Nat)) (ofHost : Prop), s.part ≠ .held → s.supply.band ≠ .low → s.supply.state ≠ .dip →
    ranges = s.bridge.touched.ranges s.flashBytes → (ofHost ↔ s.bridge.busy = true ∧ s.bridge.owner = .host) →
    ∃ t, exec (.bandChange .low) s = .next t ∧ t.supply.state = .dip ∧
      (∀ w i ch, s.chunk? w i = some ch →
        (ofHost →
          ((s.win w).body.chunkMet i ranges = true → nowUnchecked t w i ch ∧ (t.win w).dipTouched = true) ∧
          ((s.win w).body.chunkMet i ranges = false → sameChunk s t w i)) ∧
        (¬ofHost → sameChunk s t w i)) ∧
      (ofHost → s.supply.state = .normal → ∃ set,
        tells s t (allWindows.filter fun w => (s.win w).body.anyChunkMet ranges) []
          [.supply false .host 1 s.scheduler.ms 0 (s.chunksToMark ranges) set] ∧
        ∀ w : Fin 32, set.getLsbD w.val = true ↔
          ∃ i, i < (s.win w).body.count ∧ (s.win w).body.chunkMet i ranges = true) ∧
      (ofHost → s.supply.state = .settling →
        tells s t (allWindows.filter fun w => (s.win w).body.anyChunkMet ranges) [] []) ∧
      (¬ofHost → s.supply.state = .settling → tells s t [] [] []) ∧
      s.reports.queue <+: t.reports.queue ∧
      ((∀ bytes taint, s.parser.phase ≠ .inRecord bytes taint) → t.parser = s.parser) ∧
      ∀ bytes taint, s.parser.phase = .inRecord bytes taint → ∃ taint' : Bool,
        t.parser = { s.parser with phase := .inRecord bytes taint' } ∧
          (taint' = true ↔ taint = true ∨
            (ofHost ∧ ∃ p, s.parser.cursor ≤ p ∧ p < s.parser.cursor + bytes.length ∧ inRanges ranges p))

/-- The settle timer's expiry brings the supply back to NORMAL: every dip-touched flag is cleared and set as check-wanted before
the refill, which leaves the queue full and check-wanted set, or every UNCHECKED chunk of a converted LOADED window queued; SUPPLY
(recovered) is raised with the away record, the time away counting the millisecond of this tick, and the away record is emptied
(R154, R156). That the row is the settle timer's share of that tick, and that a timer not at its last millisecond does not expire,
is the model's choice (log entries 5 and 11). -/
def Obligations.SettleTimerExpiryReturnsToNormal : Prop :=
  ∀ (s : State) (n : Nat),
    (s.supply.state = .settling → s.supply.settle = some n → n ≤ 1 →
      ∃ t, exec .settleTimerExpiry s = .next t ∧
        t.supply = { s.supply with state := .normal, settle := none, away := none } ∧
        (∀ w, (t.win w).dipTouched = false) ∧
        (∀ w, (s.win w).body.isLoaded = false →
          (t.win w).checkWanted = ((s.win w).checkWanted || (s.win w).dipTouched)) ∧
        (∀ w, (s.win w).body.isLoaded = true → (s.win w).dipTouched = true → (s.win w).cursor < (s.win w).body.count →
          (t.queueFull = true ∧ (t.win w).checkWanted = true) ∨
            ∀ i d, t.chunk? w i = some d → d.state = .unchecked → d.queued = true) ∧
        (∀ w i, sameChunk s t w i) ∧
        (∀ a, s.supply.away = some a → s.reports.queue.length < 16 → ∃ set,
          t.reports.queue =
            s.reports.queue ++ [.supply true .nobody a.entries a.leftAt (s.scheduler.ms + 1 - a.leftAt) 0 set] ∧
          ∀ w : Fin 32, set.getLsbD w.val = (s.win w).dipTouched) ∧
        t.reports.counters = s.reports.counters ∧ sameOutsideChunks { s with supply := t.supply } t ∧
        t.bridge = { s.bridge with claim := t.bridge.claim } ∧ t.ports = s.ports ∧ t.engine = s.engine) ∧
    (s.supply.state = .settling → s.supply.settle = some n → 1 < n → exec .settleTimerExpiry s = .next s) ∧
    (s.supply.state ≠ .settling ∨ s.supply.settle = none → exec .settleTimerExpiry s = .next s)

/-! ### Command area -/

/-- A program into the command area that wraps, or whose first byte does not land at the collection point, breaks the parser and
raises PARSE with cause WRAP or SKEW; a BROKEN parser parses nothing and raises nothing (R160). A program in place that brings
the fourth byte of a record ends there if the four bytes are an end mark, which leaves the parser READY at its cursor, or if
they break it: with cause LENGTH for a length outside 2..272, and else OVERRUN for a record that would end beyond the area. The
rest of the program is then not parsed, and the PARSE report of a break carries the program's first address and the cursor
(R157, R160). -/
def Obligations.ProgramOutOfPlaceBreaksTheParser : Prop :=
  (∀ (s : State) (c : Collected), s.bridge.collected = some c → c.cls = .program → c.len ≠ 0 → c.data.length = c.len →
    s.windowAt (pageBase c.addr) = none → s.pageInCommandArea c.addr = true →
    (s.parser.phase = .broken ∨ programWraps c.addr c.len = true ∨ c.addr ≠ s.parser.collectionPoint) →
    ∃ t, exec .programForward s = .next t ∧ forwarded s t (landingRanges c.addr c.len) ∧
      (∀ w i, sameChunk s t w i) ∧ t.engine = s.engine ∧ t.views = s.views ∧ t.supply = s.supply ∧
      t.straps = s.straps ∧
      (s.parser.phase = .broken → t.parser = s.parser ∧ t.reports = s.reports) ∧
      (s.parser.phase ≠ .broken →
        t.parser = { s.parser with phase := .broken } ∧
        t.reports =
          (s.raise (.parse (if programWraps c.addr c.len then .wrap else .skew) .live c.addr
            s.parser.cursor)).reports)) ∧
  ∀ (s : State) (c : Collected) (got more rest header : List Byte) (taint : Bool), s.bridge.collected = some c →
    c.cls = .program → c.len ≠ 0 → c.data.length = c.len → s.windowAt (pageBase c.addr) = none →
    s.pageInCommandArea c.addr = true → programWraps c.addr c.len = false → c.addr = s.parser.collectionPoint →
    s.parser.holds got taint → c.data = more ++ rest → header = got ++ more → got.length < 4 → header.length = 4 →
    (header = [0xFF, 0xFF, 0xFF, 0xFF] →
      ∃ t, exec .programForward s = .next t ∧ forwarded s t (landingRanges c.addr c.len) ∧
        (∀ w i, sameChunk s t w i) ∧ t.engine = s.engine ∧ t.views = s.views ∧ t.supply = s.supply ∧
        t.straps = s.straps ∧ t.parser = { s.parser with phase := .ready } ∧ t.reports = s.reports) ∧
    ∀ cause, s.breaks header cause →
      ∃ t, exec .programForward s = .next t ∧ forwarded s t (landingRanges c.addr c.len) ∧
        (∀ w i, sameChunk s t w i) ∧ t.engine = s.engine ∧ t.views = s.views ∧ t.supply = s.supply ∧
        t.straps = s.straps ∧ t.parser = { s.parser with phase := .broken } ∧
        t.reports = (s.raise (.parse cause .live c.addr s.parser.cursor)).reports

/-- A whole record that one program brings to a READY parser, byte by byte, is tested and dispatched once, at its last byte,
with the taint of the supply of that moment. Bytes that end neither a header nor a record are only collected, with the taint,
and the record is tested and dispatched at its last byte, whatever programs brought it; the bytes behind it begin the next
record, unless it restarts the part. A forwarded program that lands in place in the command area feeds its bytes to the parser,
with the flash busy with it, and what a refill adds follows; so such a program that brings one whole record is its dispatch. A
RESTART whose void mark is lost resets the part (R9, R12, R152, R160, R161, R165). -/
def Obligations.WholeRecordInOneProgramIsDispatchedOnce : Prop :=
  (∀ (s : State) (bytes : List Byte) (first : Nat), s.parser.phase = .ready → 8 ≤ bytes.length →
    bytes.length = 4 * recordWords bytes → recordWords bytes ≤ 272 →
    s.parser.cursor + bytes.length ≤ commandEnd s.straps →
    s.feedLive first bytes =
      (s.modParser fun p =>
        { p with phase := .inRecord bytes.dropLast (decide (s.supply.state ≠ .normal)) }).liveRecord bytes
          (decide (s.supply.state ≠ .normal))) ∧
  (∀ (s : State) (first : Nat) (got mid rest : List Byte) (last : Byte) (taint : Bool), s.parser.holds got taint →
    s.feedLive first [] = ⟨s, false⟩ ∧
    (s.incomplete (got ++ mid) → mid ≠ [] →
      s.feedLive first mid =
        ⟨s.modParser fun p =>
          { p with phase := .inRecord (got ++ mid) (taint || decide (s.supply.state ≠ .normal)) }, false⟩) ∧
    (s.whole (got ++ mid ++ [last]) →
      let record :=
        (s.feedLive first mid).st.liveRecord (got ++ mid ++ [last]) (taint || decide (s.supply.state ≠ .normal))
      s.feedLive first (mid ++ last :: rest) =
        if record.restart = true then record else record.st.feedLive first rest)) ∧
  ∀ (s u : State) (c : Collected), s.bridge.collected = some c → c.cls = .program → c.len ≠ 0 → c.data.length = c.len →
    s.windowAt (pageBase c.addr) = none → s.pageInCommandArea c.addr = true → s.parser.phase ≠ .broken →
    programWraps c.addr c.len = false → c.addr = s.parser.collectionPoint →
    u = { s with
      bridge :=
        { s.bridge with
          busy := true, owner := .host, touched := s.bridge.touched.add (landingRanges c.addr c.len), collected := none } } →
    exec .programForward s =
      .next (((u.feedLive c.addr c.data).st.refill.settleClaim).restartIf (u.feedLive c.addr c.data).restart) ∧
    (s.parser.phase = .ready → 8 ≤ c.len → c.len = 4 * recordWords c.data → recordWords c.data ≤ 272 →
      s.parser.cursor + c.len ≤ commandEnd s.straps →
      let record :=
        (u.modParser fun p =>
          { p with phase := .inRecord c.data.dropLast (decide (s.supply.state ≠ .normal)) }).liveRecord c.data
            (decide (s.supply.state ≠ .normal))
      exec .programForward s = .next ((record.st.refill.settleClaim).restartIf record.restart))

/-- The tests before dispatch come in the order of R152: BAD_CHECK, SUPPLY, UNKNOWN_KIND; then a length other than the format's is
RANGE, and a record of the right length goes to its owner (R161, R178). A taken record gets its mark, kept for a standing kind and
void for a one-shot one, and RESTART's carries its restart; a COMMIT taken as pending gets none, and one that a commit check refused
its void mark and no RECORD_REFUSED (R161, R165). At replay a void record is skipped; a kept or fresh one takes the same tests but
SUPPLY, the length test also of a one-shot kind (log entry 18), which is then skipped with a void mark; a standing one goes to its
owner, and a fresh one that is taken gets its kept mark, which a kept one has already (R168; log entry 19). -/
def Obligations.RecordTestsComeInOrder : Prop :=
  (∀ (s : State) (addr : Nat) (bytes : List Byte) (taint : Bool),
    (recordIntact bytes = false → s.rule addr bytes taint = .refused s .badCheck) ∧
    (recordIntact bytes = true → taint = true → s.rule addr bytes taint = .refused s .supply) ∧
    (recordIntact bytes = true → taint = false → RecKind.ofCode (recordKind bytes).toNat = none →
      s.rule addr bytes taint = .refused s .unknownKind) ∧
    ∀ k, recordIntact bytes = true → taint = false → RecKind.ofCode (recordKind bytes).toNat = some k →
      (recordWords bytes ≠ k.words bytes → s.rule addr bytes taint = .refused s .range) ∧
      (recordWords bytes = k.words bytes → s.rule addr bytes taint = s.dispatch k .live addr bytes)) ∧
  (∀ (s t : State) (bytes : List Byte) (taint : Bool) (k : RecKind), RecKind.ofCode (recordKind bytes).toNat = some k →
    (s.rule s.parser.cursor bytes taint = .taken t →
      (k ∈ [RecKind.opclass, .window, .manifest, .digests, .drop, .budget, .view, .unview, .commit] →
        s.liveRecord bytes taint =
          ⟨(t.requestMark { addr := s.parser.cursor + 1, kind := .kept, restart := false }).nextRecord bytes, false⟩) ∧
      (k ∈ [RecKind.check, .hold, .release, .snapshot, .ack] →
        s.liveRecord bytes taint =
          ⟨(t.requestMark { addr := s.parser.cursor + 1, kind := .void, restart := false }).nextRecord bytes, false⟩) ∧
      (k = .restart →
        s.liveRecord bytes taint =
          ⟨(t.requestMark { addr := s.parser.cursor + 1, kind := .void, restart := true }).nextRecord bytes,
            decide (16 ≤ t.reports.marks.length ∨ t.reports.journal = .failed)⟩)) ∧
    (s.rule s.parser.cursor bytes taint = .pended t → s.liveRecord bytes taint = ⟨t.nextRecord bytes, false⟩) ∧
    (s.rule s.parser.cursor bytes taint = .commitRefused t →
      s.liveRecord bytes taint =
        ⟨(t.requestMark { addr := s.parser.cursor + 1, kind := .void, restart := false }).nextRecord bytes, false⟩)) ∧
  ∀ (s : State) (bytes : List Byte) (d : Byte), bytes[1]? = some d →
    (dispositionOf d = .void →
      s.replayRecord bytes = (s.modParser fun p => { p with skipped := countUp p.skipped }).nextRecord bytes) ∧
    (dispositionOf d ≠ .void →
      (recordIntact bytes = false →
        s.replayRecord bytes = (s.refuseAtReplay s.parser.cursor bytes .badCheck).nextRecord bytes) ∧
      (recordIntact bytes = true → RecKind.ofCode (recordKind bytes).toNat = none →
        s.replayRecord bytes = (s.refuseAtReplay s.parser.cursor bytes .unknownKind).nextRecord bytes) ∧
      ∀ k, recordIntact bytes = true → RecKind.ofCode (recordKind bytes).toNat = some k →
        (recordWords bytes ≠ k.words bytes →
          s.replayRecord bytes = (s.refuseAtReplay s.parser.cursor bytes .range).nextRecord bytes) ∧
        (recordWords bytes = k.words bytes → k ∈ [RecKind.check, .hold, .release, .snapshot, .ack, .restart] →
          s.replayRecord bytes =
            ((s.requestMark { addr := s.parser.cursor + 1, kind := .void, restart := false }).modParser fun p =>
              { p with skipped := countUp p.skipped }).nextRecord bytes) ∧
        (recordWords bytes = k.words bytes →
          k ∈ [RecKind.opclass, .window, .manifest, .digests, .drop, .budget, .view, .unview, .commit] →
          ∀ mode t, mode = (if dispositionOf d = .kept then Mode.replayKept else .replayFresh) →
            (s.dispatch k mode s.parser.cursor bytes = .taken t →
              s.replayRecord bytes =
                ((if dispositionOf d = .kept then t
                  else t.requestMark { addr := s.parser.cursor + 1, kind := .kept, restart := false }).modParser fun p =>
                    { p with taken := countUp p.taken }).nextRecord bytes) ∧
            (∀ reason, s.dispatch k mode s.parser.cursor bytes = .refused t reason →
              s.replayRecord bytes = (t.refuseAtReplay s.parser.cursor bytes reason).nextRecord bytes) ∧
            (s.dispatch k mode s.parser.cursor bytes = .commitRefused t →
              s.replayRecord bytes =
                ((t.requestMark { addr := s.parser.cursor + 1, kind := .void, restart := false }).modParser fun p =>
                  { p with refused := countUp p.refused }).nextRecord bytes)))

/-- A refused record changes no state of its owner: the state is the one it was tested in (R3, R25, R52, R55, R63, R122, R129, R131,
R134, R135, R137). It gets its void mark and its RECORD_REFUSED report, in this order, and the parser goes on behind it (R161, R164,
R177). Nothing else changes but what a refill adds, which is nothing if no LOADED window wants a check (R121). -/
def Obligations.RefusedRecordIsVoidedReportedAndPassed : Prop :=
  ∀ (s : State) (u : State) (bytes : List Byte) (taint : Bool) (reason : Reason),
    s.rule s.parser.cursor bytes taint = .refused u reason →
    u = s ∧ (s.liveRecord bytes taint).restart = false ∧
    let t := (s.liveRecord bytes taint).st
    t.parser = { s.parser with phase := .ready, cursor := s.parser.cursor + 4 * recordWords bytes } ∧
      t.reports.marks =
        (if s.reports.marks.length < 16 ∧ s.reports.journal ≠ .failed then
          s.reports.marks ++ [{ addr := s.parser.cursor + 1, kind := .void, restart := false }]
        else s.reports.marks) ∧
      t.reports.queue =
        (if s.reports.queue.length < 16 then
          s.reports.queue ++ [.recordRefused (recordKind bytes) reason .live s.parser.cursor]
        else s.reports.queue) ∧
      (16 ≤ s.reports.queue.length → t.reports.dropped = true) ∧
      (s.reports.queue.length < 16 → t.reports.dropped = s.reports.dropped) ∧
      t.reports = { s.reports with marks := t.reports.marks, queue := t.reports.queue, dropped := t.reports.dropped } ∧
      refilledOnly { s with parser := t.parser, reports := t.reports } t

/-- A disposition byte reads as the table of R163 gives: a kept mark cut short never reads void, and a void mark cut short never
reads kept; over a kept byte a void mark reads kept until a low bit is clear, and void from then on. The record check
leaves the disposition byte out, so no mark changes whether a record is intact (R158). -/
def Obligations.DispositionReadsAsTheTableGives : Prop :=
  MarkKind.kept.byte = 0x0F ∧ MarkKind.void.byte = 0xF0 ∧
    (0xFF &&& MarkKind.kept.byte = 0x0F ∧ 0xFF &&& MarkKind.void.byte = 0xF0 ∧
      (0x0F : Byte) &&& MarkKind.void.byte = 0x00) ∧
    (∀ d : Byte,
      (d &&& 0x0F = 0x0F → d &&& 0xF0 = 0 → dispositionOf d = .kept) ∧
      (d &&& 0x0F = 0x0F → d &&& 0xF0 ≠ 0 → dispositionOf d = .fresh) ∧
      (d &&& 0x0F ≠ 0x0F → dispositionOf d = .void) ∧
      (dispositionOf (d ||| MarkKind.kept.byte) ≠ .void) ∧
      (dispositionOf (d ||| MarkKind.void.byte) ≠ .kept) ∧
      (dispositionOf ((d ||| MarkKind.void.byte) &&& 0x0F) =
        if d &&& 0x0F = 0x0F then .kept else .void)) ∧
    ∀ (bytes : List Byte) (d : Byte), recordIntact (bytes.set 1 d) = recordIntact bytes

/-- A start-up read whose first four bytes at the cursor are an end mark ends replay: START is raised and the part enters
RUNNING (R167, R168, R169). Replay collects records from its reads byte by byte: bytes that end neither a header nor a record
are only collected, without a supply taint, and a record is handled at its last byte. It ends with END_MARK at an end mark, with
AREA_END when the cursor reaches the area's end behind a record, and with BROKEN at a header of a length outside 2..272 or of a
record that would end beyond the area, whose PARSE report carries origin replay and address 0; START, behind every report of
replay, then tells which (R157, R159, R160, R168, R169). Else the next read goes on. -/
def Obligations.EndMarkEndsReplayAndThePartRuns : Prop :=
  (∀ (s : State) (rest : List Byte), s.bridge.portOp = some (.startupRead .replay) → s.parser.phase = .ready →
    rest.length = 252 →
    exec (.startupReadEnd ([0xFF, 0xFF, 0xFF, 0xFF] ++ rest)) s =
      .next ({ s with
        part := .running
        bridge := { s.bridge with portOp := none }
        reports :=
          (s.raise (.start s.cause s.straps .endMark s.parser.taken s.parser.refused s.parser.skipped
            s.parser.cursor)).reports } : State).settleClaim) ∧
  (∀ (s u : State) (bytes : List Byte) (e : Option ReplayEnd), s.bridge.portOp = some (.startupRead .replay) →
    bytes.length = 256 → State.feedReplay bytes { s with bridge := { s.bridge with portOp := none } } = (u, e) →
    (e = none → exec (.startupReadEnd bytes) s = .next u.settleClaim) ∧
    ∀ ended, e = some ended →
      exec (.startupReadEnd bytes) s =
        .next ({ u.raise (.start u.cause u.straps ended u.parser.taken u.parser.refused u.parser.skipped
            u.parser.cursor) with
          part := .running } : State).settleClaim) ∧
  ∀ (s : State) (got mid rest : List Byte) (last : Byte) (taint : Bool), s.parser.holds got taint →
    s.feedReplay [] = (s, none) ∧
    (s.incomplete (got ++ mid) → mid ≠ [] →
      s.feedReplay mid = (s.modParser fun p => { p with phase := .inRecord (got ++ mid) taint }, none)) ∧
    (s.whole (got ++ mid ++ [last]) →
      let u := (s.feedReplay mid).1.replayRecord (got ++ mid ++ [last])
      s.feedReplay (mid ++ last :: rest) =
        if commandEnd u.straps ≤ u.parser.cursor then (u, some .areaEnd) else u.feedReplay rest) ∧
    (got.length < 4 → got ++ mid = [0xFF, 0xFF, 0xFF, 0xFF] →
      s.feedReplay (mid ++ rest) = (s.modParser fun p => { p with phase := .ready }, some .endMark)) ∧
    ∀ cause, got.length < 4 → (got ++ mid).length = 4 → s.breaks (got ++ mid) cause →
      s.feedReplay (mid ++ rest) =
        ((s.modParser fun p => { p with phase := .broken }).raise (.parse cause .replay 0 s.parser.cursor), some .broken)

/-! ### Internal operations -/

/-- The bridge polls exactly if busy is yes, an operation is pending that busy alone holds back, the port is free, and no host
command waits or the part is STARTING. A poll is one STATUS of one byte, which clears the record if its bit 0 is clear; a poll
that is not due is not issued (R13, R14, R18). What a step that is not due does, nothing, is the model's choice (log entry 5);
a start-up read or a program counts as pending when it is requested (log entry 15). -/
def Obligations.StatusPollClearsTheBusyRecord : Prop :=
  ∀ (s : State) (waiting : Bool) (byte : Byte),
    (s.portFree = true → s.bridge.busy = true →
      ({ s with bridge := { s.bridge with busy := false } } : State).anyReady = true →
      s.part = .starting ∨ waiting = false →
      exec (.statusPoll waiting byte) s =
        .next ({ s with
          bridge :=
            (if byte.getLsbD 0 = false then { s.bridge with busy := false, owner := .nobody, touched := .each [] }
            else s.bridge)
          ports := { s.ports with toFlash := [⟨0x05, [], 1⟩] } } : State).settleClaim) ∧
    ((s.portFree = false ∨ s.bridge.busy = false ∨
      ({ s with bridge := { s.bridge with busy := false } } : State).anyReady = false ∨
      (s.part ≠ .starting ∧ waiting = true)) → exec (.statusPoll waiting byte) s = .next s)

/-- The mark at the head of the queue is started exactly under the conditions of R15 and R16: WRITE_ENABLE and a 1-byte program
of the disposition byte in the part's own forms; the timer starts at 0 and the claim count returns to 0 (R15, R16, R18, R19).
What a step that is not granted does, nothing, is the model's choice (log entry 5). -/
def Obligations.MarkProgramStartsUnderItsConditions : Prop :=
  ∀ (s : State) (waiting : Bool), (s.reports.marks = [] → exec (.markProgram waiting) s = .next s) ∧
    ∀ (m : Mark) (rest : List Mark), s.reports.marks = m :: rest →
    (s.portFree = true → s.bridge.busy = false → s.bridge.pairing = false → s.part ≠ .held →
      s.supply.state = .normal → s.reports.journal ≠ .failed → s.turnIsInternal waiting →
      exec (.markProgram waiting) s =
        .next { s with
          bridge := { s.bridge with portOp := some (.program .mark .programming 0), claim := 0 }
          ports :=
            { s.ports with
              toFlash :=
                [⟨0x06, [], 0⟩,
                  if s.flashBytes = 0x01000000 then ⟨0x02, beBytes 3 m.addr ++ [m.kind.byte], 0⟩
                  else ⟨0x12, beBytes 4 m.addr ++ [m.kind.byte], 0⟩] } }) ∧
    (s.portFree = false ∨ s.bridge.busy = true ∨ s.bridge.pairing = true ∨ s.part = .held ∨
      s.supply.state ≠ .normal ∨ s.reports.journal = .failed ∨ ¬s.turnIsInternal waiting →
      exec (.markProgram waiting) s = .next s)

/-- The report at the head of the queue is started, behind every mark, with the journal READY: its slot carries the dropped flag
and the millisecond count as they stand, at the address of the write index, and the flag is cleared (R15, R18, R170, R172). What
a step that is not granted does, nothing, is the model's choice (log entry 5), and so is that reports may be written in STARTING
(log entry 20). -/
def Obligations.ReportProgramWritesTheSlotAtTheIndex : Prop :=
  ∀ (s : State) (waiting : Bool), (s.reports.queue = [] → exec (.reportProgram waiting) s = .next s) ∧
    ∀ (r : Report) (rest : List Report), s.reports.queue = r :: rest →
    (s.reports.marks = [] → s.portFree = true → s.bridge.busy = false → s.bridge.pairing = false → s.part ≠ .held →
      s.supply.state = .normal → s.reports.journal = .ready → s.turnIsInternal waiting →
      exec (.reportProgram waiting) s =
        .next { s with
          bridge := { s.bridge with portOp := some (.program .report .programming 0), claim := 0 }
          reports := { s.reports with dropped := false }
          ports :=
            { s.ports with
              toFlash :=
                [⟨0x06, [], 0⟩,
                  programTxn s.flashBytes (reportBase s.straps + 32 * s.reports.index)
                    (r.slot s.reports.dropped s.scheduler.ms)] } }) ∧
    (s.reports.marks ≠ [] ∨ s.portFree = false ∨ s.bridge.busy = true ∨ s.bridge.pairing = true ∨ s.part = .held ∨
      s.supply.state ≠ .normal ∨ s.reports.journal ≠ .ready ∨ ¬s.turnIsInternal waiting →
      exec (.reportProgram waiting) s = .next s)

/-- Every slot has 32 bytes, begins with its kind code, which is never FFh, holds the dropped flag, and is intact: its check is the one
recomputed over it with the check unit taken as 0000h (R179). -/
def Obligations.ReportSlotIsIntactAndNeverUnwritten : Prop :=
  ∀ (r : Report) (dropped : Bool) (ms : Word32),
    let slot := r.slot dropped ms
    slot.length = 32 ∧ slot.head? = some (BitVec.ofNat 8 r.code) ∧ slot.head? ≠ some 0xFF ∧
      slot[1]? = some (if dropped then 1 else 0) ∧ field slot 4 4 = ms.toNat ∧
      field slot 2 2 = onesCheck (units ((slot.set 2 0).set 3 0))

/-- When the program transaction of an internal program ends, the flash is busy with owner internal, and polls follow (R12,
R19). A poll with bit 0 set leaves it in flight; with bit 0 clear it completes the program: the mark leaves its queue, and that
of a RESTART begins the reset; the report leaves its queue, the index rises, the alert line is asserted, and the journal is FULL
at 2048 (R19, R164, R165, R172). That a transaction end without such a transaction, or a poll of no program that polls, changes
nothing is the model's choice (log entry 5), and so is that the reset reads the straps and the band as last known (log entry
16). -/
def Obligations.InternalProgramCompletesAtAClearPoll : Prop :=
  (∀ s : State,
    (∀ kind timer, s.bridge.portOp = some (.program kind .programming timer) →
      exec .internalProgramTransactionEnd s =
        .next { s with
          bridge :=
            { s.bridge with
              busy := true, owner := .internal, portOp := some (.program kind .polling timer), claim := 0 } }) ∧
    ((∀ kind timer, s.bridge.portOp ≠ some (.program kind .programming timer)) →
      exec .internalProgramTransactionEnd s = .next s) ∧
    ((∀ kind timer, s.bridge.portOp ≠ some (.program kind .polling timer)) →
      ∀ byte, exec (.internalProgramPoll byte) s = .next s)) ∧
  ∀ (s : State) (kind : ProgramKind) (timer : Nat) (byte : Byte), s.bridge.busy = true →
    s.bridge.portOp = some (.program kind .polling timer) →
    let done : State :=
      { s with
        bridge := { s.bridge with busy := false, owner := .nobody, touched := .each [], portOp := none }
        ports := { s.ports with toFlash := [⟨0x05, [], 1⟩] } }
    (byte.getLsbD 0 = true →
      exec (.internalProgramPoll byte) s =
        .next { s with
          bridge := { s.bridge with claim := 0 }, ports := { s.ports with toFlash := [⟨0x05, [], 1⟩] } }) ∧
    (byte.getLsbD 0 = false → kind = .report →
      exec (.internalProgramPoll byte) s =
        .next ({ done with
          reports :=
            { s.reports with
              queue := s.reports.queue.drop 1, index := s.reports.index + 1, alert := true
              journal := if s.reports.index + 1 = 2048 then .full else s.reports.journal } } :
          State).settleClaim) ∧
    (byte.getLsbD 0 = false → kind = .mark → ∀ m rest, s.reports.marks = m :: rest →
      (m.restart = false →
        exec (.internalProgramPoll byte) s =
          .next ({ done with reports := { s.reports with marks := rest } } : State).settleClaim) ∧
      (m.restart = true →
        ∃ t, exec (.internalProgramPoll byte) s = .next t ∧ AfterReset .restart s.strapPins s.supply.band t ∧
          t.pending = s.pending))

/-- At its 20th tick an internal program still in flight fails: the port is free, the journal FAILED, the mark queue empty and
the alert line asserted, while the busy record stands; a RESTART whose mark is emptied resets the part. Before that tick nothing
expires (R20, R165). The row is the bridge's share of that tick; that it changes nothing before, or with no program in flight,
is the model's choice (log entries 5 and 11), and so is that the reset reads the straps and the band as last known (log entry
16), and that a program that fails before its transaction has ended leaves busy as it is, which is no (log entry 34). -/
def Obligations.TwentiethTickFailsTheInternalProgram : Prop :=
  (∀ s : State, (∀ kind phase timer, s.bridge.portOp ≠ some (.program kind phase timer)) →
    exec .internalProgramTimeout s = .next s) ∧
  ∀ (s : State) (kind : ProgramKind) (phase : ProgramPhase) (timer : Nat),
    s.bridge.portOp = some (.program kind phase timer) →
    (timer < 19 → exec .internalProgramTimeout s = .next s) ∧
    (19 ≤ timer → (∀ m ∈ s.reports.marks, m.restart = false) →
      exec .internalProgramTimeout s =
        .next ({ s with
          bridge := { s.bridge with portOp := none }
          reports := { s.reports with journal := .failed, marks := [], alert := true } } : State).settleClaim) ∧
    (19 ≤ timer → (∃ m ∈ s.reports.marks, m.restart = true) →
      ∃ t, exec .internalProgramTimeout s = .next t ∧ AfterReset .restart s.strapPins s.supply.band t ∧
        t.pending = s.pending)

/-- A start-up read is issued behind marks and reports: the next eight slots while the report area is scanned, and the next 256
bytes of the command area while the part replays (R16, R18, R167, R168, R171). That each such read asks for 256 bytes is the
model's choice (log entry 21), and so is what a step that is not due does (log entry 5). -/
def Obligations.StartupReadAsksForTheNextBytes : Prop :=
  ∀ (s : State) (waiting : Bool),
    (s.markReady = false → s.reportReady = false → s.portFree = true → s.bridge.busy = false →
      s.bridge.pairing = false → s.part ≠ .held → s.turnIsInternal waiting →
      (s.reports.journal = .scanning ∨ s.reports.journal = .rescan →
        exec (.startupRead waiting) s =
          .next { s with
            bridge := { s.bridge with portOp := some (.startupRead .scan), claim := 0 }
            ports :=
              { s.ports with
                toFlash := [readTxn s.flashBytes (reportBase s.straps + 32 * s.reports.scanSlot) 256] } }) ∧
      (s.reports.journal ≠ .scanning → s.reports.journal ≠ .rescan → s.part = .starting →
        exec (.startupRead waiting) s =
          .next { s with
            bridge := { s.bridge with portOp := some (.startupRead .replay), claim := 0 }
            ports :=
              { s.ports with toFlash := [readTxn s.flashBytes s.parser.collectionPoint 256] } }) ∧
      (s.reports.journal ≠ .scanning → s.reports.journal ≠ .rescan → s.part ≠ .starting →
        exec (.startupRead waiting) s = .next s)) ∧
    (s.markReady = true ∨ s.reportReady = true ∨ s.portFree = false ∨ s.bridge.busy = true ∨ s.bridge.pairing = true ∨
      s.part = .held ∨ ¬s.turnIsInternal waiting →
      exec (.startupRead waiting) s = .next s)

/-- The scan ends at the first slot of the read whose four first bytes all read FFh: the journal is READY with its number as the
write index; a read without one goes on to the next eight slots, and behind slot 2047 the journal is FULL (R171). That the end
of no start-up read in flight, or one with another number of bytes than its 256, changes nothing is the model's choice (log
entry 5). -/
def Obligations.ScanFindsTheFirstUnwrittenSlot : Prop :=
  (∀ (s : State) (bytes : List Byte),
    (∀ purpose, s.bridge.portOp ≠ some (.startupRead purpose)) ∨ bytes.length ≠ 256 →
    exec (.startupReadEnd bytes) s = .next s) ∧
  ∀ (s : State) (bytes : List Byte), s.bridge.portOp = some (.startupRead .scan) → bytes.length = 256 →
    (∀ j, j < 8 → slotUnwritten bytes j = true → (∀ i, i < j → slotUnwritten bytes i = false) →
      exec (.startupReadEnd bytes) s =
        .next ({ s with
          bridge := { s.bridge with portOp := none }
          reports := { s.reports with journal := .ready, index := s.reports.scanSlot + j } } :
          State).settleClaim) ∧
    ((∀ j, j < 8 → slotUnwritten bytes j = false) → s.reports.scanSlot + 8 < 2048 →
      exec (.startupReadEnd bytes) s =
        .next ({ s with
          bridge := { s.bridge with portOp := none }
          reports := { s.reports with scanSlot := s.reports.scanSlot + 8 } } : State).settleClaim) ∧
    ((∀ j, j < 8 → slotUnwritten bytes j = false) → 2048 ≤ s.reports.scanSlot + 8 →
      exec (.startupReadEnd bytes) s =
        .next ({ s with
          bridge := { s.bridge with portOp := none }
          reports := { s.reports with journal := .full, index := 2048 } } : State).settleClaim)

/-! ### Read-back -/

/-- READBACK_START takes the head entry under the conditions of R124: its chunk is CHECKING and linked to the read-back context,
which begins with no bytes and the entry's class; a read stream on the chunk is dropped; the other entries keep their places,
ahead of any that the refill adds; no credit is spent. Without its conditions no read-back starts (R84, R110, R119, R124).
What a start that is not due does, nothing, is the model's choice (log entry 5). -/
def Obligations.ReadbackStartTakesTheHeadEntry : Prop :=
  (∀ (s : State) (e : Entry) (rest : List Entry) (ch : Chunk), QueueLaw s → ContextLaw s → s.scheduler.queue = e :: rest →
    s.chunk? e.window e.chunk = some ch → s.part = .running → s.engine.readback = none → s.bridge.busy = false →
    (e.urgent = true ∨ min 256 ((s.win e.window).body.chunkLen e.chunk) ≤ s.scheduler.credit) →
    ∃ t, exec .readbackStart s = .next t ∧ sameOutsideChunks s t ∧ t.reports = s.reports ∧
      (∃ d, t.chunk? e.window e.chunk = some d ∧ d.known = (.checking, ch.expected, none, some .readback) ∧
        d.queued = false) ∧
      (∀ u j, (u, j) ≠ (e.window, e.chunk) → sameChunk s t u j) ∧
      t.engine.readback =
        some { window := e.window, chunk := e.chunk, next := 0, inFlight := none, run := Running.start
               urgent := e.urgent } ∧
      (∀ k, t.stream k = if ch.link = some (.stream k) then none else s.stream k) ∧
      t.bridge = { s.bridge with claim := t.bridge.claim } ∧ t.ports = s.ports ∧ rest <+: t.scheduler.queue) ∧
  ∀ s : State,
    (s.part ≠ .running ∨ s.engine.readback.isSome = true ∨ s.bridge.busy = true ∨ s.scheduler.queue = [] ∨
      (∃ e rest, s.scheduler.queue = e :: rest ∧ e.urgent = false ∧
        s.scheduler.credit < min 256 ((s.win e.window).body.chunkLen e.chunk))) →
    exec .readbackStart s = .next s

/-- A burst reads the next bytes of the chunk at its own address, at most 256 and never beyond the chunk; a normal one needs its
length of credit and spends it, an urgent one (by itself or by an urgent entry in the queue) spends what there is (R111, R126).
What a burst that is not due does, nothing, is the model's choice (log entry 5). -/
def Obligations.BurstReadsTheChunkAndSpendsItsCredit : Prop :=
  (∀ (s : State) (waiting : Bool) (r : ReadbackCtx) (b : Nat) (urgent : Prop) [Decidable urgent],
    s.engine.readback = some r → r.inFlight = none →
    b = min 256 ((s.win r.window).body.chunkLen r.chunk - r.next) →
    (urgent ↔ r.urgent = true ∨ ∃ e ∈ s.scheduler.queue, e.urgent = true) →
    s.markReady = false → s.reportReady = false → s.startupReady = false → s.bridge.portOp = none →
    s.bridge.collected = none → s.bridge.busy = false → s.bridge.pairing = false → s.part = .running →
    waiting = false ∨ s.bridge.claim = 2 →
    ((urgent ∨ b ≤ s.scheduler.credit) →
      exec (.readbackBurst waiting) s =
        .next { s with
          engine := { s.engine with readback := some { r with inFlight := some b } }
          bridge := { s.bridge with claim := 0 }
          scheduler :=
            { s.scheduler with
              credit := if urgent then s.scheduler.credit - min s.scheduler.credit b
                else s.scheduler.credit - b }
          ports :=
            { s.ports with
              toFlash :=
                [readTxn s.flashBytes
                  ((s.win r.window).body.base + r.chunk * (s.win r.window).body.chunkSize + r.next) b] } }) ∧
    (¬urgent → s.scheduler.credit < b → exec (.readbackBurst waiting) s = .next s)) ∧
  ∀ (s : State) (waiting : Bool),
    s.engine.readback = none ∨ (∃ r, s.engine.readback = some r ∧ r.inFlight.isSome = true) ∨ s.bridge.portOp.isSome = true ∨
      s.bridge.collected.isSome = true ∨ s.bridge.busy = true ∨ s.bridge.pairing = true ∨ s.part ≠ .running ∨
      s.markReady = true ∨ s.reportReady = true ∨ s.startupReady = true ∨ (waiting = true ∧ s.bridge.claim ≠ 2) →
    exec (.readbackBurst waiting) s = .next s

/-- The end of a burst digests its bytes and moves the next burst offset on; at the chunk's length the read-back completes and
its context is FREE: the chunk of a LOADED window is GOOD if the digest is the expected one and BAD if not, a verdict (R85, R91,
R112). CHUNK_BAD, IMAGE and CHECK_DONE are raised where they are due, in this order, and no other report (R72, R90, R91, R123).
That the end of no burst in flight, or one with another number of bytes than the burst's, changes nothing is the model's choice
(log entry 5). -/
def Obligations.BurstEndAdvancesOrGivesTheVerdict : Prop :=
  (∀ (s : State) (bytes : List Byte), (∀ r, s.engine.readback = some r → r.inFlight ≠ some bytes.length) →
    exec (.readbackBurstEnd bytes) s = .next s) ∧
  ∀ (s : State) (r : ReadbackCtx) (bytes : List Byte) (ch : Chunk) (digest : Digest),
    s.engine.readback = some r → r.inFlight = some bytes.length → s.chunk? r.window r.chunk = some ch →
    digest = (r.run.absorb bytes).complete →
    (r.next + bytes.length ≠ (s.win r.window).body.chunkLen r.chunk →
      exec (.readbackBurstEnd bytes) s =
        .next ({ s with
          engine :=
            { s.engine with
              readback :=
                some { r with
                  next := r.next + bytes.length, inFlight := none, run := r.run.absorb bytes } } } :
          State).settleClaim) ∧
    (r.next + bytes.length = (s.win r.window).body.chunkLen r.chunk →
      (s.win r.window).body.isLoaded = true → ch.state = .checking →
      ∃ t, exec (.readbackBurstEnd bytes) s = .next t ∧ sameOutsideChunks s t ∧ t.engine.readback = none ∧
        t.bridge = { s.bridge with claim := t.bridge.claim } ∧ t.ports = s.ports ∧
        t.engine.streams = s.engine.streams ∧ t.engine.recency = s.engine.recency ∧
        (∀ u j, (u, j) ≠ (r.window, r.chunk) → sameChunk s t u j) ∧
        (ch.expected = some digest →
          (∃ d, t.chunk? r.window r.chunk = some d ∧ d.known = (.good, ch.expected, some digest, none)) ∧
            (t.win r.window).goodCount = (s.win r.window).goodCount + 1 ∧
            t.reports.counters =
              { s.reports.counters with goodVerdicts := countUp s.reports.counters.goodVerdicts } ∧
            tells s t [r.window] [] []) ∧
        (ch.expected ≠ some digest →
          (∃ d, t.chunk? r.window r.chunk = some d ∧ d.known = (.bad, ch.expected, some digest, none)) ∧
            (t.win r.window).goodCount = (s.win r.window).goodCount ∧
            t.reports.counters =
              { s.reports.counters with badVerdicts := countUp s.reports.counters.badVerdicts } ∧
            tells s t [r.window] [.chunkBad r.window .readback r.chunk ((s.win r.window).body.chunkLen r.chunk)] []))

/-! ### Time and the check queue -/

/-- A tick counts a millisecond and adds the rate to the credit up to the cap; every quiet timer, the settle timer and the
internal program timer take their share; the claim count rises to at most 2 while an operation is ready and none is in flight,
and is 0 when none is ready at the end (R16); views, parser, straps and chunks stand. (A tick that fails an internal program while
a RESTART's mark waits resets the part, and is left out here.) A part held in reset has no tick (R20, R115, R120, R125, R147).
The last of these is the model's choice (log entry 16). That the claim count goes by the readiness before the tick, and does not
rise while an operation is in flight, is the model's reading of R16 (log entries 12 and 32); that a program that fails before its
transaction has ended leaves the busy record as it is, is the model's choice (log entry 34). -/
def Obligations.TickIsSharedByEveryTimer : Prop :=
  ∀ (s : State),
    (s.part = .held → exec .tick s = .next s) ∧
    (s.part ≠ .held →
      (∀ kind phase timer, s.bridge.portOp = some (.program kind phase timer) → 19 ≤ timer →
        ∀ m ∈ s.reports.marks, m.restart = false) →
      ∃ t, exec .tick s = .next t ∧
        t.scheduler =
          { s.scheduler with
            ms := s.scheduler.ms + 1, credit := min s.scheduler.cap (s.scheduler.credit + s.scheduler.rate)
            queue := t.scheduler.queue } ∧
        (∀ w, (t.win w).quiet = (s.win w).quiet.bind fun n => if n ≤ 1 then none else some (n - 1)) ∧
        (s.supply.state ≠ .settling ∨ s.supply.settle = none → t.supply = s.supply) ∧
        (∀ n, s.supply.state = .settling → s.supply.settle = some n →
          t.supply =
            if n ≤ 1 then { s.supply with state := .normal, settle := none, away := none }
            else { s.supply with settle := some (n - 1) }) ∧
        (∀ kind phase timer, s.bridge.portOp = some (.program kind phase timer) →
          (timer < 19 → t.bridge.portOp = some (.program kind phase (timer + 1)) ∧
            t.reports.journal = s.reports.journal ∧ t.reports.marks = s.reports.marks) ∧
          (19 ≤ timer → t.bridge.portOp = none ∧ t.reports.journal = .failed ∧ t.reports.marks = [] ∧
            t.reports.alert = true)) ∧
        ((∀ kind phase timer, s.bridge.portOp ≠ some (.program kind phase timer)) →
          t.bridge.portOp = s.bridge.portOp ∧ t.reports.journal = s.reports.journal ∧
            t.reports.marks = s.reports.marks ∧ t.reports.alert = s.reports.alert) ∧
        t.reports =
          { t.reports with
            index := s.reports.index, scanSlot := s.reports.scanSlot, counters := s.reports.counters } ∧
        t.bridge = { s.bridge with claim := t.bridge.claim, portOp := t.bridge.portOp } ∧
        t.bridge.claim =
          (if t.anyReady = true then
            if s.anyReady = true ∧ s.internalInFlight = false then min 2 (s.bridge.claim + 1) else s.bridge.claim
          else 0) ∧
        t.pending = s.pending ∧ t.part = s.part ∧ t.cause = s.cause ∧ t.strapPins = s.strapPins ∧
        t.views = s.views ∧ t.parser = s.parser ∧ t.straps = s.straps ∧ t.engine = s.engine ∧ t.ports = s.ports ∧
        (∀ w, (t.win w).body.geom? = (s.win w).body.geom?) ∧
        ∀ w i, sameChunk s t w i)

/-- At the expiry of a window's quiet timer the timer stops and check-wanted is set; the refill of the same event leaves the queue
full and check-wanted set, or every UNCHECKED chunk of the LOADED window queued. A timer that is not at its last millisecond does
not expire, and no window number above 31 has one (R120, R121). These last clauses are the model's choice (log entries 5 and 11). -/
def Obligations.QuietTimerExpiryQueuesTheWindow : Prop :=
  ∀ (s : State) (w : Fin 32) (n : Nat),
    ((s.win w).quiet = some n → n ≤ 1 →
      ∃ t, exec (.quietTimerExpiry w.val) s = .next t ∧ sameOutsideChunks s t ∧ t.reports = s.reports ∧
        t.bridge = { s.bridge with claim := t.bridge.claim } ∧ t.ports = s.ports ∧ t.engine = s.engine ∧
        (∀ u j, sameChunk s t u j) ∧ (t.win w).quiet = none ∧
        (∀ u, u ≠ w → (t.win u).quiet = (s.win u).quiet) ∧
        ((s.win w).body.isLoaded = false → (t.win w).checkWanted = true) ∧
        ((s.win w).body.isLoaded = true → (s.win w).cursor < (s.win w).body.count →
          (t.queueFull = true ∧ (t.win w).checkWanted = true) ∨
            ∀ i d, t.chunk? w i = some d → d.state = .unchecked → d.queued = true)) ∧
    ((s.win w).quiet = some n → 1 < n → exec (.quietTimerExpiry w.val) s = .next s) ∧
    ((s.win w).quiet = none → exec (.quietTimerExpiry w.val) s = .next s) ∧
    ∀ m, 32 ≤ m → exec (.quietTimerExpiry m) s = .next s

/-- A normal add of CHECK goes to the end of the queue, or nowhere if the queue holds 64 entries (R117); an urgent add goes
directly behind the last urgent entry, displaces the youngest normal entry of a full queue, and never an urgent one (R118). A
CHECK record is refused with RANGE for a window number above 31 or a priority above 1, and with STATE if the window is not
LOADED. Otherwise it is taken: its adds are made in ascending chunk index, urgent if its flag is 1 and normal if it is 0, and no
other; every UNCHECKED chunk of the window is queued, or check-wanted is set; CHECK_DONE is raised at once if no chunk is
UNCHECKED, CHECKING or FILLING, and else check-report-wanted is set; no chunk changes, and nothing outside the tracker and the
queue (R122, R123). -/
def Obligations.CheckAddsGoWhereTheirClassSays : Prop :=
  (∀ (s : State) (w : Fin 32) (i : Nat), QueueLaw s → (s.win w).body.isLoaded = true → s.addable w i = true →
    (s.scheduler.queue.length < 64 →
      (s.checkChunk w false i).scheduler.queue = s.scheduler.queue ++ [{ window := w, chunk := i, urgent := false }] ∧
      (s.checkChunk w true i).scheduler.queue =
        s.scheduler.queue.filter (fun e => e.urgent) ++
          [{ window := w, chunk := i, urgent := true }] ++ s.scheduler.queue.filter (fun e => !e.urgent)) ∧
    (s.scheduler.queue.length = 64 →
      (s.checkChunk w false i).scheduler.queue = s.scheduler.queue ∧
      ((s.checkChunk w false i).win w).checkWanted = true ∧
      ((∀ e ∈ s.scheduler.queue, e.urgent = true) →
        (s.checkChunk w true i).scheduler.queue = s.scheduler.queue ∧
          ((s.checkChunk w true i).win w).checkWanted = true) ∧
      ∀ front youngest, s.scheduler.queue = front ++ [youngest] → youngest.urgent = false →
        (s.checkChunk w true i).scheduler.queue =
          front.filter (fun e => e.urgent) ++ [{ window := w, chunk := i, urgent := true }] ++
            front.filter (fun e => !e.urgent) ∧
        ((s.checkChunk w true i).win youngest.window).checkWanted = true ∧
        (s.checkChunk w true i).addable youngest.window youngest.chunk = true)) ∧
  ∀ (s : State) (bytes : List Byte),
    (32 ≤ field bytes 8 1 ∨ 1 < field bytes 9 1 → s.takeCheck bytes = .refused s .range) ∧
    ∀ w : Fin 32, field bytes 8 1 = w.val → field bytes 9 1 ≤ 1 →
      ((s.win w).body.isLoaded = false → s.takeCheck bytes = .refused s .state) ∧
      ∀ g cat e, (s.win w).body = .loaded g cat e →
        ∃ t, s.takeCheck bytes = .taken t ∧ sameOutsideChunks s t ∧ t.engine = s.engine ∧ t.bridge = s.bridge ∧
          t.ports = s.ports ∧ (∀ u j, sameChunk s t u j) ∧
          (let urgent := decide (field bytes 9 1 = 1)
            let added := (List.range cat.chunks.length).foldl (State.checkChunk w urgent) s
            t.scheduler.queue = added.scheduler.queue ∧ (∀ u, (t.win u).checkWanted = (added.win u).checkWanted) ∧
              (∀ u j, t.chunk? u j = added.chunk? u j) ∧
              ∀ entry ∈ t.scheduler.queue, entry ∈ s.scheduler.queue ∨ (entry.window = w ∧ entry.urgent = urgent)) ∧
          (∀ i d, t.chunk? w i = some d → d.state = .unchecked → d.queued = true ∨ (t.win w).checkWanted = true) ∧
          ((∀ x ∈ cat.chunks, x.state ≠ .unchecked ∧ x.state ≠ .checking ∧ x.state ≠ .filling) →
            (t.win w).checkReportWanted = false ∧
              t.reports =
                (s.raise (.checkDone w cat.chunks.length (countState cat.chunks .good) (countState cat.chunks .bad)
                  (countState cat.chunks .erased))).reports) ∧
          ((∃ x ∈ cat.chunks, x.state = .unchecked ∨ x.state = .checking ∨ x.state = .filling) →
            (t.win w).checkReportWanted = true ∧ t.reports = s.reports)

/-! ### Record owners -/

/-- An OPCLASS record that names one of the ten classes with an address length and dummy count of its kind replaces the entry of its
opcode and no other; any other is refused with RANGE, one that names no class among them (R3). ERASE_ALL, an erase class and yet
listed with the classes of length 0, is refused with every length: the model's reading (log entry 33). -/
def Obligations.OpclassReplacesOneEntry : Prop :=
  (∀ (s : State) (mode : Mode) (addr : Nat) (bytes : List Byte) (cls : CmdClass), recordWords bytes = 3 →
    bytes.length = 12 → CmdClass.ofCode (field bytes 9 1) = some cls →
    let lenOk := (cls ∈ [CmdClass.read, .program, .erase4K, .erase32K, .erase64K] ∧ field bytes 10 1 ∈ [3, 4]) ∨
      (cls ∈ [CmdClass.status, .writeEnable, .pass, .block] ∧ field bytes 10 1 = 0)
    let dummiesOk := field bytes 11 1 ≤ 15 ∧ (cls ≠ .read → field bytes 11 1 = 0)
    (lenOk → dummiesOk → ∃ t, s.ruleRecord .opclass mode addr bytes = .taken t ∧
      (∀ op : Byte, t.classOf op =
        if some op = bytes[8]? then ⟨cls, field bytes 10 1, field bytes 11 1⟩ else s.classOf op) ∧
      t = { s with bridge := { s.bridge with classes := t.bridge.classes } }) ∧
    (¬(lenOk ∧ dummiesOk) → s.ruleRecord .opclass mode addr bytes = .refused s .range)) ∧
  ∀ (s : State) (mode : Mode) (addr : Nat) (bytes : List Byte), recordWords bytes = 3 → 10 ≤ field bytes 9 1 →
    s.ruleRecord .opclass mode addr bytes = .refused s .range

/-- A WINDOW record is taken exactly if its values are in range, the window has no catalogue and is no bank, and no byte of the
new range lies in another window, in a view or in the control region; it then gives the window its geometry and nothing else
(R25, R26). It is refused with RANGE for a value out of range, a window number above 31 among them, else with STATE for a window
that is OPEN, LOADED or a bank, and else with OVERLAP (R25). A DROP is refused with RANGE for a window number above 31, and with
STATE for a VACANT window or a bank of a present view; otherwise the window is VACANT, its fill-reported flag is clear, a
catalogue is torn down, with IMAGE (lost) for a complete image, and no other window changes (R50, R51, R63). That IMAGE (lost)
then carries good count 0 is the model's reading (log entry 23). -/
def Obligations.WindowRecordIsTakenExactlyUnderItsChecks : Prop :=
  (∀ (s : State) (bytes : List Byte) (w : Fin 32) (base size : Nat), field bytes 8 1 = w.val →
    base = field bytes 12 4 → size = field bytes 16 4 →
    ((∃ t, s.takeWindow bytes = .taken t) ↔
      base % 65536 = 0 ∧ size % 65536 = 0 ∧ 65536 ≤ size ∧ size ≤ 16777216 ∧ base + size ≤ s.flashBytes ∧
        field bytes 9 1 ≤ 4 ∧ field bytes 10 1 ≤ 1 ∧ (s.win w).body.cat? = none ∧
        (∀ v view, s.view v = some view → view.bankA ≠ w ∧ view.bankB ≠ w) ∧
        ∀ p, base ≤ p → p < base + size →
          (∀ u, u ≠ w → (s.win u).body.covers p = false) ∧
          (∀ v view, s.view v = some view → s.viewCovers view p = false) ∧
          ¬(commandBase s.straps ≤ p ∧ p < reportEnd s.straps)) ∧
    ∀ t, s.takeWindow bytes = .taken t →
      (t.win w).body.geom? =
        some
          { base := base, size := size, chunkSize := 4096 * 2 ^ field bytes 9 1
            guarded := decide (field bytes 10 1 = 1), fill := BitVec.ofNat 8 (field bytes 11 1)
            quiet := field bytes 20 2 } ∧
      t = s.setWin w { s.win w with body := (t.win w).body } ∧
      ((s.win w).body = .vacant → ∃ g, (t.win w).body = .defined g) ∧
      (∀ g, (s.win w).body = .defined g → ∃ h, (t.win w).body = .defined h) ∧
      (∀ g, (s.win w).body = .rejected g → ∃ h, (t.win w).body = .rejected h)) ∧
  (∀ (s : State) (bytes : List Byte) (w : Fin 32) (base size : Nat), field bytes 8 1 = w.val →
    base = field bytes 12 4 → size = field bytes 16 4 →
    let inRange := base % 65536 = 0 ∧ size % 65536 = 0 ∧ 65536 ≤ size ∧ size ≤ 16777216 ∧ base + size ≤ s.flashBytes ∧
      field bytes 9 1 ≤ 4 ∧ field bytes 10 1 ≤ 1
    let mayChange := (s.win w).body.cat? = none ∧ ∀ v view, s.view v = some view → view.bankA ≠ w ∧ view.bankB ≠ w
    (¬inRange → s.takeWindow bytes = .refused s .range) ∧
    (inRange → ¬mayChange → s.takeWindow bytes = .refused s .state) ∧
    (inRange → mayChange → ∀ p, base ≤ p → p < base + size →
      ((∃ u, u ≠ w ∧ (s.win u).body.covers p = true) ∨
        (∃ v view, s.view v = some view ∧ s.viewCovers view p = true) ∨
        (commandBase s.straps ≤ p ∧ p < reportEnd s.straps)) →
      s.takeWindow bytes = .refused s .overlap)) ∧
  (∀ (s : State) (bytes : List Byte), 32 ≤ field bytes 8 1 →
    s.takeWindow bytes = .refused s .range ∧ s.takeDrop bytes = .refused s .range) ∧
  ∀ (s : State) (bytes : List Byte) (w : Fin 32), field bytes 8 1 = w.val →
    ((s.win w).body = .vacant ∨ (∃ v view, s.view v = some view ∧ (view.bankA = w ∨ view.bankB = w)) →
      s.takeDrop bytes = .refused s .state) ∧
    ((s.win w).body ≠ .vacant → (∀ v view, s.view v = some view → view.bankA ≠ w ∧ view.bankB ≠ w) →
      ((s.win w).body.cat? = none →
        s.takeDrop bytes = .taken (s.setWin w { s.win w with body := .vacant, fillReported := false })) ∧
      ((s.win w).body.cat? ≠ none →
        ∃ t, s.takeDrop bytes = .taken t ∧
          t.win w =
            { body := .vacant, goodCount := 0, checkWanted := false, checkReportWanted := false, dipTouched := false
              fillReported := false, quiet := none, cursor := 0 } ∧
          (∀ u, u ≠ w → t.win u = s.win u) ∧ contextsFreed s t w ∧
          t.engine.recency =
            (s.engine.recency.filter fun k => !(s.stream k).any fun x => decide (x.window = w)) ∧
          t =
            { s with
              windows := t.windows, engine := t.engine
              reports := { s.reports with queue := t.reports.queue, dropped := t.reports.dropped, counters := t.reports.counters }
              scheduler := { s.scheduler with queue := s.scheduler.queue.filter fun e => decide (e.window ≠ w) } } ∧
          (∀ g c e, (s.win w).body = .loaded g c e → (s.win w).goodCount = c.chunks.length →
            t.reports.queue =
              (s.raise (.image w true c.target c.version c.chunks.length 0)).reports.queue) ∧
          ((∀ g c e, (s.win w).body = .loaded g c e → (s.win w).goodCount ≠ c.chunks.length) →
            t.reports.queue = s.reports.queue ∧ t.reports.dropped = s.reports.dropped)))

/-- A MANIFEST is refused with RANGE for a window number above 31, with STATE for a VACANT window, with RANGE for an image length
outside 1..min(size, 1024 × C), with ACTIVE_BANK for a view's selected bank, and with POOL_FULL if no run fits, in this order, and
otherwise taken (R52). It opens a catalogue on the window: OPEN with its geometry, N chunk records that know nothing in the lowest
free run, no received digest, good count 0, clear flags, stopped timer and cursor 0; no other window changes (R48, R53). A
catalogue it replaces is torn down: its contexts are FREE, its entries leave the queue, a pending commit that stages it is dropped
with reason STATE, and IMAGE (lost) and then COMMIT (dropped) are raised (R50, R51, R54, R143). The good count 0 in IMAGE (lost) is
the model's reading (log entry 23). -/
def Obligations.ManifestOpensACatalogueThatKnowsNothing : Prop :=
  (∀ (s t : State) (bytes : List Byte) (w : Fin 32), field bytes 8 1 = w.val → s.takeManifest bytes = .taken t →
    ∃ g p, (s.win w).body.geom? = some g ∧ s.firstFit w (chunkCount (field bytes 16 4) g.chunkSize) = some p ∧
      1 ≤ field bytes 16 4 ∧ field bytes 16 4 ≤ g.size ∧ field bytes 16 4 ≤ 1024 * g.chunkSize ∧
      (∀ v view, s.view v = some view → view.current ≠ w) ∧
      (t.win w) =
        { s.win w with
          body := .opened g
            { target := field bytes 10 2, version := field bytes 12 4, len := field bytes 16 4
              list := digestOf ((bytes.drop 20).take 16), runStart := p, received := 0
              chunks := List.replicate (chunkCount (field bytes 16 4) g.chunkSize)
                { state := .unchecked, expected := none, observed := none, queued := false, link := none } }
          goodCount := 0, checkWanted := false, checkReportWanted := false, dipTouched := false
          quiet := none, cursor := 0 } ∧
      (∀ u, u ≠ w → t.win u = s.win u) ∧
      ((s.win w).body.cat? = none → t = s.setWin w (t.win w)) ∧
      ((s.win w).body.cat? ≠ none →
        (∀ e ∈ t.scheduler.queue, e.window ≠ w) ∧ contextsFreed s t w ∧
        t.scheduler = { s.scheduler with queue := s.scheduler.queue.filter fun e => decide (e.window ≠ w) } ∧
        (∀ v, t.view v = (s.view v).map fun view =>
          { view with pendingCommit := view.pendingCommit.filter fun pc => decide (view.window pc.bank ≠ w) }) ∧
        ∀ lost : State,
          (∀ g c e, (s.win w).body = .loaded g c e → (s.win w).goodCount = c.chunks.length →
            lost = s.raise (.image w true c.target c.version c.chunks.length 0)) →
          ((∀ g c e, (s.win w).body = .loaded g c e → (s.win w).goodCount ≠ c.chunks.length) → lost = s) →
          (s.stagesNoCommit w →
            t.reports = { lost.reports with counters := t.reports.counters }) ∧
          ∀ v view pc r, s.view v = some view → view.pendingCommit = some pc → view.window pc.bank = w →
            (∀ u y pc', u ≠ v → s.view u = some y → y.pendingCommit = some pc' → y.window pc'.bank ≠ w) →
            s.isCommitReport v view .dropped (some .state) pc.bank pc.recordAddr r →
            t.reports =
              { ((if pc.recordStands = true then
                    lost.requestMark { addr := pc.recordAddr + 1, kind := .void, restart := false }
                  else lost).raise r).reports with
                counters := t.reports.counters })) ∧
  (∀ (s : State) (bytes : List Byte), 32 ≤ field bytes 8 1 → s.takeManifest bytes = .refused s .range) ∧
  ∀ (s : State) (bytes : List Byte) (w : Fin 32) (len : Nat), field bytes 8 1 = w.val → field bytes 16 4 = len →
    ((s.win w).body = .vacant → s.takeManifest bytes = .refused s .state) ∧
    ∀ g, (s.win w).body.geom? = some g →
      let n := (len + g.chunkSize - 1) / g.chunkSize
      let taken := fun p => ∃ u c i, u ≠ w ∧ (s.win u).body.cat? = some c ∧ c.runStart ≤ i ∧
        i < c.runStart + c.chunks.length ∧ p ≤ i ∧ i < p + n
      (len < 1 ∨ g.size < len ∨ 1024 * g.chunkSize < len → s.takeManifest bytes = .refused s .range) ∧
      (1 ≤ len → len ≤ g.size → len ≤ 1024 * g.chunkSize →
        ((∃ v view, s.view v = some view ∧ view.current = w) → s.takeManifest bytes = .refused s .activeBank) ∧
        ((∀ v view, s.view v = some view → view.current ≠ w) →
          ((∀ p, p + n ≤ 4096 → taken p) → s.takeManifest bytes = .refused s .poolFull) ∧
          ∀ p, p + n ≤ 4096 → ¬taken p → (∀ q, q < p → taken q) →
            ∃ t c, s.takeManifest bytes = .taken t ∧ (t.win w).body = .opened g c ∧ c.runStart = p ∧ c.chunks.length = n))

/-- A DIGESTS record brings a window to LOADED only if the digest of its expected digests is the manifest's list digest (R58,
R60). It is refused with RANGE for a window number above 31, a count outside 1..64 or digests beyond the last chunk, and with
STATE without a catalogue (R55); in a LOADED window it changes nothing, or is refused with CONFLICT (R57). In an OPEN window a
conflict rejects the window with CONFLICT, and a completed list of another digest rejects it with LIST, by teardown and a
CATALOGUE (rejected) report; else each new digest is stored (R50, R56, R59). At the entry to LOADED each COMPUTED chunk is GOOD
or BAD, a verdict; an ERASED one is GOOD if the erased digest is expected; others stand; CATALOGUE (loaded), CHUNK_BAD with
source LOAD for each BAD chunk in ascending index, and IMAGE (verified) for a complete image are raised in this order, and no
other report (R61, R90, R91). -/
def Obligations.OnlyAMatchingListDigestLoadsAWindow : Prop :=
  (∀ (s t : State) (bytes : List Byte) (w : Fin 32), field bytes 8 1 = w.val → s.takeDigests bytes = .taken t →
    ((s.win w).body.isLoaded = true → t = s) ∧
    ((s.win w).body.isLoaded = false → (t.win w).body.isLoaded = true →
      ∃ g c e cat, (s.win w).body = .opened g c ∧ (t.win w).body = .loaded g cat e ∧
        chunkDigest (listString cat.chunks) = cat.list ∧ cat.list = c.list ∧
        e.whole = chunkDigest (List.replicate g.chunkSize 0xFF) ∧
        e.last = chunkDigest (List.replicate (cat.len - (cat.chunks.length - 1) * g.chunkSize) 0xFF) ∧
        (t.win w).quiet = if g.quiet = 0 then none else some g.quiet) ∧
    (GoodLaw s → GoodLaw t)) ∧
  (∀ (s : State) (bytes : List Byte),
    32 ≤ field bytes 8 1 ∨ field bytes 9 1 < 1 ∨ 64 < field bytes 9 1 → s.takeDigests bytes = .refused s .range) ∧
  ∀ (s : State) (bytes : List Byte) (w : Fin 32) (k first : Nat) (ds : List Digest),
    field bytes 8 1 = w.val → field bytes 9 1 = k → 1 ≤ k → k ≤ 64 → field bytes 10 2 = first →
    ds = (List.range k).map (fun j => digestOf ((bytes.drop (12 + 16 * j)).take 16)) →
    ((s.win w).body.cat? = none → s.takeDigests bytes = .refused s .state) ∧
    ∀ c, (s.win w).body.cat? = some c →
      let conflict := ∃ j x e d, c.chunks[first + j]? = some x ∧ x.expected = some e ∧ ds[j]? = some d ∧ e ≠ d
      (c.chunks.length < first + k → s.takeDigests bytes = .refused s .range) ∧
      (first + k ≤ c.chunks.length → (s.win w).body.isLoaded = true →
        (conflict → s.takeDigests bytes = .refused s .conflict) ∧ (¬conflict → s.takeDigests bytes = .taken s)) ∧
      ∀ g, (s.win w).body = .opened g c → first + k ≤ c.chunks.length →
        let rejected := fun (reason : Reason) (t : State) =>
          t.win w =
            { s.win w with
              body := .rejected g, goodCount := 0, checkWanted := false, checkReportWanted := false
              dipTouched := false, quiet := none, cursor := 0 } ∧
          (∀ u, u ≠ w → t.win u = s.win u) ∧ contextsFreed s t w ∧
          t.scheduler = { s.scheduler with queue := s.scheduler.queue.filter fun e => decide (e.window ≠ w) } ∧
          (s.stagesNoCommit w → t.views = s.views ∧
            t.reports =
              { (s.raise (.catalogue w (some reason) c.target c.chunks.length c.version 0)).reports with
                counters := t.reports.counters })
        (conflict → ∃ t, s.takeDigests bytes = .taken t ∧ rejected .conflict t) ∧
        (¬conflict → ∀ (received : Nat) (chunks : List Chunk),
          received =
            c.received + (List.range k).countP (fun j => (c.chunks[first + j]?).any fun x => x.expected.isNone) →
          chunks =
            c.chunks.mapIdx (fun i x =>
              if first ≤ i ∧ i < first + k then { x with expected := ds[i - first]? } else x) →
          (received ≠ c.chunks.length →
            s.takeDigests bytes =
              .taken (s.setWin w { s.win w with body := .opened g { c with received := received, chunks := chunks } })) ∧
          (received = c.chunks.length → chunkDigest (listString chunks) ≠ c.list →
            ∃ t, s.takeDigests bytes = .taken t ∧ rejected .list t) ∧
          (received = c.chunks.length → chunkDigest (listString chunks) = c.list →
            ∃ t e, s.takeDigests bytes = .taken t ∧
              (∀ i x, chunks[i]? = some x → ∃ d, t.chunk? w i = some d ∧
                d.known =
                  (if x.state = .computed then
                    (if x.observed = x.expected then .good else .bad, x.expected, x.observed, x.link)
                  else if x.state = .erased ∧ x.expected = some (erasedDigest c e i) then
                    (.good, x.expected, x.expected, x.link)
                  else x.known)) ∧
              e.whole = chunkDigest (List.replicate g.chunkSize 0xFF) ∧
              e.last = chunkDigest (List.replicate (c.len - (c.chunks.length - 1) * g.chunkSize) 0xFF) ∧
              (∀ u j, u ≠ w → sameChunk s t u j) ∧
              reported s t
                (.catalogue w none c.target c.chunks.length c.version (t.win w).goodCount ::
                  (((List.range c.chunks.length).filter fun i =>
                      (t.chunk? w i).any fun x => decide (x.state = .bad)).map fun i =>
                    .chunkBad w .load i ((s.win w).body.chunkLen i)) ++
                  if 0 < c.chunks.length ∧ (t.win w).goodCount = c.chunks.length then
                    [.image w false c.target c.version c.chunks.length c.chunks.length]
                  else []) ∧
              (s.reports.counters.goodVerdicts ≤ 65535 → s.reports.counters.badVerdicts ≤ 65535 →
                t.reports.counters =
                  { s.reports.counters with
                    goodVerdicts :=
                      min 65535 (s.reports.counters.goodVerdicts +
                        chunks.countP fun x => decide (x.state = .computed ∧ x.observed = x.expected))
                    badVerdicts :=
                      min 65535 (s.reports.counters.badVerdicts +
                        chunks.countP fun x => decide (x.state = .computed ∧ x.observed ≠ x.expected)) })))

/-- When a COMMIT taken live, or the commit pending at a RELEASE, changes a view's selected bank, the newly selected window is
LOADED with a complete image, and if the one before is LOADED, their targets are the same and the new version exceeds the old
unless the ROLLBACK strap is 1 (R138, R139, R142). VIEW is taken exactly if its values are in range, the view is absent, its
banks are two windows with geometries, of one size and chunk size, banks of no view, and no byte of its range lies in a window,
a view or the control region; its view is IDLE with bank A selected and no pending commit (R129, R130). It is refused with RANGE
for a value out of range, else with STATE for a present view, a VACANT window or another view's bank, else with RANGE for one
window twice or two of different sizes or chunk sizes, and else with OVERLAP (R129). UNVIEW takes an IDLE view away, and HOLD
makes it HELD; each is refused with RANGE for a view number above 7 and with STATE for a view absent or HELD (R131, R134).
COMMIT is refused with RANGE for a view above 7 or a bank code above 1, and with STATE for an absent view; one that names the
selected bank is taken and withdraws a pending commit (R137). For the other bank the first commit check that fails refuses it
(R138); one that passes changes the selection of an IDLE view, and is the pending commit of a HELD one, where it drops an older
one as REPLACED (R139 to R141). A kept COMMIT at replay selects its bank with no check and no report (R144). RELEASE, refused
with RANGE or STATE as HOLD but for an IDLE view, makes the view IDLE; a pending commit that passes its checks then is applied,
with its kept mark, and one that fails is dropped, with its void mark; each outcome has its COMMIT report (R135, R142, R145). -/
def Obligations.SelectionChangesOnlyToACompleteImage : Prop :=
  (∀ (s t : State) (addr : Nat) (bytes : List Byte) (v : Fin 8) (old new : View),
    (s.takeCommit .live addr bytes = .taken t ∨ s.takeCommit .live addr bytes = .pended t ∨
      s.takeRelease bytes = .taken t) →
    s.view v = some old → t.view v = some new → new.selected ≠ old.selected →
    ∃ g c e, (s.win new.current).body = .loaded g c e ∧ (s.win new.current).goodCount = c.chunks.length ∧
      ∀ g' c' e', (s.win old.current).body = .loaded g' c' e' →
        c.target = c'.target ∧ (s.straps.rollback = true ∨ c'.version < c.version)) ∧
  (∀ (s : State) (bytes : List Byte),
    (8 ≤ field bytes 8 1 →
      s.takeView bytes = .refused s .range ∧ s.takeUnview bytes = .refused s .range ∧
        s.takeHold bytes = .refused s .range ∧ s.takeRelease bytes = .refused s .range) ∧
    (32 ≤ field bytes 9 1 ∨ 32 ≤ field bytes 10 1 ∨ field bytes 12 4 % 65536 ≠ 0 →
      s.takeView bytes = .refused s .range) ∧
    (8 ≤ field bytes 8 1 ∨ 2 ≤ field bytes 9 1 → ∀ mode addr, s.takeCommit mode addr bytes = .refused s .range)) ∧
  (∀ (s : State) (bytes : List Byte) (v : Fin 8), field bytes 8 1 = v.val →
    (∀ (a b : Fin 32) (base : Nat), field bytes 9 1 = a.val → field bytes 10 1 = b.val → field bytes 12 4 = base →
      let fits := base % 65536 = 0 ∧ s.view v = none ∧ a ≠ b ∧
        (∀ u view, s.view u = some view → ∀ w ∈ [a, b], view.bankA ≠ w ∧ view.bankB ≠ w) ∧
        ∃ g h, (s.win a).body.geom? = some g ∧ (s.win b).body.geom? = some h ∧ g.size = h.size ∧
          g.chunkSize = h.chunkSize ∧ base + g.size ≤ s.flashBytes ∧
          ∀ p, base ≤ p → p < base + g.size →
            (∀ u, (s.win u).body.covers p = false) ∧
            (∀ u view, s.view u = some view → s.viewCovers view p = false) ∧
            ¬(commandBase s.straps ≤ p ∧ p < reportEnd s.straps)
      (fits →
        s.takeView bytes =
          .taken (s.setView v (some
            { base := base, bankA := a, bankB := b, selected := .a, held := false, pendingCommit := none }))) ∧
      let free := s.view v = none ∧ (s.win a).body ≠ .vacant ∧ (s.win b).body ≠ .vacant ∧
        ∀ u view, s.view u = some view → ∀ w ∈ [a, b], view.bankA ≠ w ∧ view.bankB ≠ w
      (base % 65536 = 0 → ¬free → s.takeView bytes = .refused s .state) ∧
      (base % 65536 = 0 → free →
        ∀ g h, (s.win a).body.geom? = some g → (s.win b).body.geom? = some h →
          (a = b ∨ g.size ≠ h.size ∨ g.chunkSize ≠ h.chunkSize → s.takeView bytes = .refused s .range) ∧
          (a ≠ b → g.size = h.size → g.chunkSize = h.chunkSize → ¬fits → s.takeView bytes = .refused s .overlap))) ∧
    (s.view v = none → s.takeUnview bytes = .refused s .state ∧ s.takeHold bytes = .refused s .state) ∧
    ∀ view, s.view v = some view →
      (view.held = true → s.takeUnview bytes = .refused s .state ∧ s.takeHold bytes = .refused s .state) ∧
      (view.held = false →
        s.takeUnview bytes = .taken (s.setView v none) ∧
          s.takeHold bytes = .taken (s.setView v (some { view with held := true })))) ∧
  ∀ (s : State) (bytes : List Byte) (v : Fin 8), field bytes 8 1 = v.val →
    (s.view v = none → s.takeRelease bytes = .refused s .state ∧
      (field bytes 9 1 ≤ 1 → ∀ mode addr, s.takeCommit mode addr bytes = .refused s .state)) ∧
    ∀ view, s.view v = some view →
      let marked := fun (pc : PendingCommit) (kind : MarkKind) (u : State) =>
        if pc.recordStands = true then u.requestMark { addr := pc.recordAddr + 1, kind := kind, restart := false } else u
      (view.held = false → s.takeRelease bytes = .refused s .state) ∧
      (view.held = true →
        (view.pendingCommit = none → s.takeRelease bytes = .taken (s.setView v (some { view with held := false }))) ∧
        ∀ pc, view.pendingCommit = some pc →
          (s.commitPasses (view.window pc.bank) view.current →
            ∀ r, s.isCommitReport v view .taken none pc.bank pc.recordAddr r →
              s.takeRelease bytes =
                .taken ((marked pc .kept (s.setView v (some
                  { view with held := false, pendingCommit := none, selected := pc.bank }))).raise r)) ∧
          ∀ reason, s.commitFails (view.window pc.bank) view.current reason →
            ∀ r, s.isCommitReport v view .dropped (some reason) pc.bank pc.recordAddr r →
              s.takeRelease bytes =
                .taken ((marked pc .void (s.setView v (some
                  { view with held := false, pendingCommit := none }))).raise r)) ∧
      ∀ (mode : Mode) (addr : Nat) (bank : Bank), (field bytes 9 1, bank) ∈ [(0, Bank.a), (1, Bank.b)] →
        (bank = view.selected →
          (view.pendingCommit = none → s.takeCommit mode addr bytes = .taken s) ∧
          ∀ pc r, view.pendingCommit = some pc →
            s.isCommitReport v view .dropped (some .replaced) pc.bank pc.recordAddr r →
            s.takeCommit mode addr bytes =
              .taken ((marked pc .void (s.setView v (some { view with pendingCommit := none }))).raise r)) ∧
        (bank ≠ view.selected → mode = .replayKept →
          s.takeCommit mode addr bytes = .taken (s.setView v (some { view with selected := bank }))) ∧
        (bank ≠ view.selected → mode ≠ .replayKept →
          (∀ reason r, s.commitFails (view.window bank) view.current reason →
            s.isCommitReport v view .refused (some reason) bank addr r →
            s.takeCommit mode addr bytes = .commitRefused (s.raise r)) ∧
          (s.commitPasses (view.window bank) view.current →
            (view.held = false → ∀ r, s.isCommitReport v view .taken none bank addr r →
              s.takeCommit mode addr bytes = .taken ((s.setView v (some { view with selected := bank })).raise r)) ∧
            (view.held = true → ∀ r, s.isCommitReport v view .pending none bank addr r →
              let pend := fun u : State =>
                (u.setView v (some
                  { view with
                    pendingCommit := some { bank := bank, recordAddr := addr, recordStands := true } })).raise r
              (view.pendingCommit = none → s.takeCommit mode addr bytes = .pended (pend s)) ∧
              ∀ pc q, view.pendingCommit = some pc →
                s.isCommitReport v view .dropped (some .replaced) pc.bank pc.recordAddr q →
                s.takeCommit mode addr bytes =
                  .pended (pend ((marked pc .void (s.setView v (some { view with pendingCommit := none }))).raise q)))))

/-- SNAPSHOT raises the six counters, the latch, the supply state and the write index as they stand; if the report joins the queue the
counters become 0 and the latch true, and if it is lost they keep their values (R155, R176). ACK clears every
fill-reported flag, and releases the alert line unless the journal is FULL with reports waiting or FAILED (R174, R175). BUDGET sets
the rate, at most 16,384, and the cap, at least 256, and the credit is clamped to the new cap (R127). -/
def Obligations.SnapshotAndAckActOnCountersAndAlert : Prop :=
  (∀ (s : State) (mode : Mode) (addr : Nat) (bytes : List Byte), recordWords bytes = 2 →
    (s.reports.queue.length < 16 →
      s.ruleRecord .snapshot mode addr bytes =
        .taken { s with
          reports :=
            { s.reports with
              queue :=
                s.reports.queue ++ [.snapshot s.reports.counters s.supply.latch s.supply.state s.reports.index]
              counters :=
                { goodVerdicts := 0, badVerdicts := 0, readbackAborts := 0, evictions := 0, withheld := 0
                  fillCommands := 0 } }
          supply := { s.supply with latch := true } }) ∧
    (16 ≤ s.reports.queue.length →
      s.ruleRecord .snapshot mode addr bytes =
        .taken { s with reports := { s.reports with dropped := true } }) ∧
    ∃ t, s.ruleRecord .ack mode addr bytes = .taken t ∧
      (∀ w, t.win w = { s.win w with fillReported := false }) ∧
      t.reports =
        { s.reports with
          alert :=
            s.reports.alert &&
              (decide (s.reports.journal = .full ∧ s.reports.queue ≠ []) ||
                decide (s.reports.journal = .failed)) } ∧
      t = { s with windows := t.windows, reports := t.reports }) ∧
  ∀ (s : State) (mode : Mode) (addr : Nat) (bytes : List Byte), recordWords bytes = 3 →
    s.ruleRecord .budget mode addr bytes =
      .taken { s with
        scheduler :=
          { s.scheduler with
            rate := min (field bytes 8 2) 16384
            cap := max (field bytes 10 2) 256
            credit := min s.scheduler.credit (max (field bytes 10 2) 256) } }

/-! ### Laws of the device: what every step keeps -/

/-- Every law of the device holds after each reset, whatever its cause, the straps, the band and the steps that wait, in a part
held by its reset pin, and in State.reset, whose straps and band are the model's choice (log entry 1). -/
def Obligations.ResetHasEveryLaw : Prop :=
  Lawful State.reset ∧
    (∀ (cause : ResetCause) (pins : Straps) (band : Band) (q : List Instr), Lawful (State.resetWith cause pins band q)) ∧
    ∀ s : State, ∃ t, exec .resetPinAssert s = .next t ∧ Lawful t

/-- The law of R170, with the Flash Port's: every step keeps the report queue and the mark queue at 16 entries and the write index at
2048, and never lets two things stand on the Flash Port. -/
def Obligations.ReportQueuesAndWriteIndexStayInBounds : Prop :=
  ∀ s t : State, PortLaw s → ReportLaw s → step s = .next t → PortLaw t ∧ ReportLaw t

/-- The law of R116: every step keeps the check queue's. -/
def Obligations.CheckQueueNamesOnlyUncheckedQueuedChunks : Prop :=
  ∀ s t : State, QueueLaw s → step s = .next t → QueueLaw t

/-- The law of R29: every step keeps windows, views and the control region apart. -/
def Obligations.WindowsViewsAndControlRegionStayApart : Prop :=
  ∀ s t : State, WindowLaw s → ViewLaw s → step s = .next t → WindowLaw t ∧ ViewLaw t

/-- The law of R47: every step keeps the runs of the chunk pool disjoint and as long as their images. -/
def Obligations.PoolRunsStayDisjoint : Prop :=
  ∀ s t : State, PoolLaw s → step s = .next t → PoolLaw t

/-- The law of R89: every step keeps each good count equal to the number of GOOD chunks, each proven by its observed digest. -/
def Obligations.GoodCountIsTheNumberOfGoodChunks : Prop :=
  ∀ s t : State, GoodLaw s → step s = .next t → GoodLaw t

/-- The laws of R98 and R99: every step keeps contexts, chunk records and the recency list in agreement. -/
def Obligations.EachContextHoldsExactlyItsChunk : Prop :=
  ∀ s t : State, QueueLaw s → ContextLaw s → step s = .next t → ContextLaw t

/-- Every step keeps the credit within the cap and the cap within 256..65,535 (the law of R125), and the claim count within 0..2
(R16); the settle timer runs only in SETTLING, and the away record stands exactly outside NORMAL; views hold a pending commit
only while HELD, and are IDLE with no command collected while the part does not run; a replay read is in flight only while the
part is STARTING; the parser's record fits its area (R128, R144, R147, R149, R159, R167). -/
def Obligations.CreditSupplyHoldsAndParserStayInOrder : Prop :=
  ∀ s t : State, step s = .next t →
    (CreditLaw s → CreditLaw t) ∧ (ClaimLaw s → ClaimLaw t) ∧ (SupplyLaw s → SupplyLaw t) ∧ (HoldLaw s → HoldLaw t) ∧
      (ParserLaw s → ParserLaw t)

end
end

