-- ==== Sys2Proof/Laws/Commit.lean ====
section
/-! SUPPORT. What the commit checks (R138), the COMMIT report (R145) and the end of a pending commit (R142) do, said once in the words of
the statements. -/

namespace Sys2Proof.Machine

/-- The commit checks refuse with exactly the reason of the first check that fails (R138). -/
theorem State.commitRefusal_eq_some_iff (s : State) (staging current : Fin 32) (reason : Reason) :
    s.commitRefusal staging current = some reason ↔ s.commitFails staging current reason := by
  cases hs : (s.win staging).body <;> cases hc : (s.win current).body <;> cases reason <;>
    simp [State.commitRefusal, State.commitFails, hs, hc] <;> (try split_ifs) <;> simp_all

/-- The commit checks refuse nothing exactly if they all pass (R138). -/
theorem State.commitRefusal_eq_none_iff (s : State) (staging current : Fin 32) :
    s.commitRefusal staging current = none ↔ s.commitPasses staging current := by
  cases hs : (s.win staging).body <;> cases hc : (s.win current).body <;>
    simp [State.commitRefusal, State.commitPasses, hs, hc]
  split_ifs <;> simp_all [imp_iff_not_or]

/-- Raising the COMMIT report raises the report of R145. -/
theorem State.raiseCommit_eq {s : State} {v : Fin 8} {view : View} {outcome : CommitOutcome} {reason : Option Reason}
    {bank : Bank} {recordAddr : Nat} {r : Report} (h : s.isCommitReport v view outcome reason bank recordAddr r) :
    s.raiseCommit v view outcome reason bank recordAddr = s.raise r := by
  obtain ⟨target, version, rfl, loaded, other⟩ := h
  unfold State.raiseCommit
  congr 2
  all_goals
    cases hb : (s.win (view.window bank)).body <;> simp_all [WinBody.identity]

end Sys2Proof.Machine
end

