-- ==== Sys2Proof/Laws/Digest.lean ====
section
/-! SUPPORT. Digesting bytes one after the other: pieces, counts, and the block that is not whole yet (R94). -/

namespace Sys2Proof.Machine

@[simp] theorem Running.absorb_nil (r : Running) : r.absorb [] = r := rfl

/-- Digesting two pieces is digesting their concatenation (R94). -/
theorem Running.absorb_append (r : Running) (a b : List Byte) : r.absorb (a ++ b) = (r.absorb a).absorb b :=
  List.foldl_append

@[simp] theorem Running.take_count (r : Running) (b : Byte) : (r.take b).count = r.count + 1 := by
  simp only [Running.take]; split <;> rfl

/-- A digest state counts the bytes it has taken. -/
theorem Running.absorb_count (r : Running) (bytes : List Byte) : (r.absorb bytes).count = r.count + bytes.length := by
  induction bytes generalizing r with
  | nil => rfl
  | cons b bs ih =>
    rw [show r.absorb (b :: bs) = (r.take b).absorb bs from rfl, ih, Running.take_count, List.length_cons]
    omega

/-- The block that is not whole yet stays shorter than 64 bytes. -/
theorem Running.absorb_block (r : Running) (bytes : List Byte) (h : r.block.length < 64) :
    (r.absorb bytes).block.length < 64 := by
  induction bytes generalizing r with
  | nil => exact h
  | cons b bs ih =>
    refine ih (r.take b) ?_
    simp only [Running.take]
    split
    · simp
    · next hn => simp only [List.length_append, List.length_singleton] at hn ⊢; omega

end Sys2Proof.Machine
end

