-- ==== Sys2Proof/Laws/State.lean ====
section
/-! SUPPORT. One lemma per field per update of State: what an update leaves as it is, and what the field it writes becomes. The
readers win, view, stream, chunk?, classOf and flashBytes pass over every update of another block. -/

namespace Sys2Proof.Machine

variable (s : State)

/-! ### modBridge -/

@[simp] theorem State.modBridge_pending (f : Bridge → Bridge) : (s.modBridge f).pending = s.pending := rfl
@[simp] theorem State.modBridge_part (f : Bridge → Bridge) : (s.modBridge f).part = s.part := rfl
@[simp] theorem State.modBridge_cause (f : Bridge → Bridge) : (s.modBridge f).cause = s.cause := rfl
@[simp] theorem State.modBridge_strapPins (f : Bridge → Bridge) : (s.modBridge f).strapPins = s.strapPins := rfl
@[simp] theorem State.modBridge_straps (f : Bridge → Bridge) : (s.modBridge f).straps = s.straps := rfl
@[simp] theorem State.modBridge_bridge (f : Bridge → Bridge) : (s.modBridge f).bridge = f s.bridge := rfl
@[simp] theorem State.modBridge_windows (f : Bridge → Bridge) : (s.modBridge f).windows = s.windows := rfl
@[simp] theorem State.modBridge_views (f : Bridge → Bridge) : (s.modBridge f).views = s.views := rfl
@[simp] theorem State.modBridge_engine (f : Bridge → Bridge) : (s.modBridge f).engine = s.engine := rfl
@[simp] theorem State.modBridge_scheduler (f : Bridge → Bridge) : (s.modBridge f).scheduler = s.scheduler := rfl
@[simp] theorem State.modBridge_supply (f : Bridge → Bridge) : (s.modBridge f).supply = s.supply := rfl
@[simp] theorem State.modBridge_parser (f : Bridge → Bridge) : (s.modBridge f).parser = s.parser := rfl
@[simp] theorem State.modBridge_reports (f : Bridge → Bridge) : (s.modBridge f).reports = s.reports := rfl
@[simp] theorem State.modBridge_ports (f : Bridge → Bridge) : (s.modBridge f).ports = s.ports := rfl
@[simp] theorem State.modBridge_win (f : Bridge → Bridge) (u : Fin 32) : (s.modBridge f).win u = s.win u := rfl
@[simp] theorem State.modBridge_view (f : Bridge → Bridge) (u : Fin 8) : (s.modBridge f).view u = s.view u := rfl
@[simp] theorem State.modBridge_stream (f : Bridge → Bridge) (j : Fin 3) : (s.modBridge f).stream j = s.stream j := rfl
@[simp] theorem State.modBridge_chunk? (f : Bridge → Bridge) (u : Fin 32) (j : Nat) : (s.modBridge f).chunk? u j = s.chunk? u j := rfl
@[simp] theorem State.modBridge_flashBytes (f : Bridge → Bridge) : (s.modBridge f).flashBytes = s.flashBytes := rfl

/-! ### modEngine -/

@[simp] theorem State.modEngine_pending (f : Engine → Engine) : (s.modEngine f).pending = s.pending := rfl
@[simp] theorem State.modEngine_part (f : Engine → Engine) : (s.modEngine f).part = s.part := rfl
@[simp] theorem State.modEngine_cause (f : Engine → Engine) : (s.modEngine f).cause = s.cause := rfl
@[simp] theorem State.modEngine_strapPins (f : Engine → Engine) : (s.modEngine f).strapPins = s.strapPins := rfl
@[simp] theorem State.modEngine_straps (f : Engine → Engine) : (s.modEngine f).straps = s.straps := rfl
@[simp] theorem State.modEngine_bridge (f : Engine → Engine) : (s.modEngine f).bridge = s.bridge := rfl
@[simp] theorem State.modEngine_windows (f : Engine → Engine) : (s.modEngine f).windows = s.windows := rfl
@[simp] theorem State.modEngine_views (f : Engine → Engine) : (s.modEngine f).views = s.views := rfl
@[simp] theorem State.modEngine_engine (f : Engine → Engine) : (s.modEngine f).engine = f s.engine := rfl
@[simp] theorem State.modEngine_scheduler (f : Engine → Engine) : (s.modEngine f).scheduler = s.scheduler := rfl
@[simp] theorem State.modEngine_supply (f : Engine → Engine) : (s.modEngine f).supply = s.supply := rfl
@[simp] theorem State.modEngine_parser (f : Engine → Engine) : (s.modEngine f).parser = s.parser := rfl
@[simp] theorem State.modEngine_reports (f : Engine → Engine) : (s.modEngine f).reports = s.reports := rfl
@[simp] theorem State.modEngine_ports (f : Engine → Engine) : (s.modEngine f).ports = s.ports := rfl
@[simp] theorem State.modEngine_win (f : Engine → Engine) (u : Fin 32) : (s.modEngine f).win u = s.win u := rfl
@[simp] theorem State.modEngine_view (f : Engine → Engine) (u : Fin 8) : (s.modEngine f).view u = s.view u := rfl
@[simp] theorem State.modEngine_chunk? (f : Engine → Engine) (u : Fin 32) (j : Nat) : (s.modEngine f).chunk? u j = s.chunk? u j := rfl
@[simp] theorem State.modEngine_classOf (f : Engine → Engine) (o : Byte) : (s.modEngine f).classOf o = s.classOf o := rfl
@[simp] theorem State.modEngine_flashBytes (f : Engine → Engine) : (s.modEngine f).flashBytes = s.flashBytes := rfl

/-! ### modScheduler -/

@[simp] theorem State.modScheduler_pending (f : Scheduler → Scheduler) : (s.modScheduler f).pending = s.pending := rfl
@[simp] theorem State.modScheduler_part (f : Scheduler → Scheduler) : (s.modScheduler f).part = s.part := rfl
@[simp] theorem State.modScheduler_cause (f : Scheduler → Scheduler) : (s.modScheduler f).cause = s.cause := rfl
@[simp] theorem State.modScheduler_strapPins (f : Scheduler → Scheduler) : (s.modScheduler f).strapPins = s.strapPins := rfl
@[simp] theorem State.modScheduler_straps (f : Scheduler → Scheduler) : (s.modScheduler f).straps = s.straps := rfl
@[simp] theorem State.modScheduler_bridge (f : Scheduler → Scheduler) : (s.modScheduler f).bridge = s.bridge := rfl
@[simp] theorem State.modScheduler_windows (f : Scheduler → Scheduler) : (s.modScheduler f).windows = s.windows := rfl
@[simp] theorem State.modScheduler_views (f : Scheduler → Scheduler) : (s.modScheduler f).views = s.views := rfl
@[simp] theorem State.modScheduler_engine (f : Scheduler → Scheduler) : (s.modScheduler f).engine = s.engine := rfl
@[simp] theorem State.modScheduler_scheduler (f : Scheduler → Scheduler) : (s.modScheduler f).scheduler = f s.scheduler := rfl
@[simp] theorem State.modScheduler_supply (f : Scheduler → Scheduler) : (s.modScheduler f).supply = s.supply := rfl
@[simp] theorem State.modScheduler_parser (f : Scheduler → Scheduler) : (s.modScheduler f).parser = s.parser := rfl
@[simp] theorem State.modScheduler_reports (f : Scheduler → Scheduler) : (s.modScheduler f).reports = s.reports := rfl
@[simp] theorem State.modScheduler_ports (f : Scheduler → Scheduler) : (s.modScheduler f).ports = s.ports := rfl
@[simp] theorem State.modScheduler_win (f : Scheduler → Scheduler) (u : Fin 32) : (s.modScheduler f).win u = s.win u := rfl
@[simp] theorem State.modScheduler_view (f : Scheduler → Scheduler) (u : Fin 8) : (s.modScheduler f).view u = s.view u := rfl
@[simp] theorem State.modScheduler_stream (f : Scheduler → Scheduler) (j : Fin 3) : (s.modScheduler f).stream j = s.stream j := rfl
@[simp] theorem State.modScheduler_chunk? (f : Scheduler → Scheduler) (u : Fin 32) (j : Nat) : (s.modScheduler f).chunk? u j = s.chunk? u j := rfl
@[simp] theorem State.modScheduler_classOf (f : Scheduler → Scheduler) (o : Byte) : (s.modScheduler f).classOf o = s.classOf o := rfl
@[simp] theorem State.modScheduler_flashBytes (f : Scheduler → Scheduler) : (s.modScheduler f).flashBytes = s.flashBytes := rfl

/-! ### modSupply -/

@[simp] theorem State.modSupply_pending (f : Supply → Supply) : (s.modSupply f).pending = s.pending := rfl
@[simp] theorem State.modSupply_part (f : Supply → Supply) : (s.modSupply f).part = s.part := rfl
@[simp] theorem State.modSupply_cause (f : Supply → Supply) : (s.modSupply f).cause = s.cause := rfl
@[simp] theorem State.modSupply_strapPins (f : Supply → Supply) : (s.modSupply f).strapPins = s.strapPins := rfl
@[simp] theorem State.modSupply_straps (f : Supply → Supply) : (s.modSupply f).straps = s.straps := rfl
@[simp] theorem State.modSupply_bridge (f : Supply → Supply) : (s.modSupply f).bridge = s.bridge := rfl
@[simp] theorem State.modSupply_windows (f : Supply → Supply) : (s.modSupply f).windows = s.windows := rfl
@[simp] theorem State.modSupply_views (f : Supply → Supply) : (s.modSupply f).views = s.views := rfl
@[simp] theorem State.modSupply_engine (f : Supply → Supply) : (s.modSupply f).engine = s.engine := rfl
@[simp] theorem State.modSupply_scheduler (f : Supply → Supply) : (s.modSupply f).scheduler = s.scheduler := rfl
@[simp] theorem State.modSupply_supply (f : Supply → Supply) : (s.modSupply f).supply = f s.supply := rfl
@[simp] theorem State.modSupply_parser (f : Supply → Supply) : (s.modSupply f).parser = s.parser := rfl
@[simp] theorem State.modSupply_reports (f : Supply → Supply) : (s.modSupply f).reports = s.reports := rfl
@[simp] theorem State.modSupply_ports (f : Supply → Supply) : (s.modSupply f).ports = s.ports := rfl
@[simp] theorem State.modSupply_win (f : Supply → Supply) (u : Fin 32) : (s.modSupply f).win u = s.win u := rfl
@[simp] theorem State.modSupply_view (f : Supply → Supply) (u : Fin 8) : (s.modSupply f).view u = s.view u := rfl
@[simp] theorem State.modSupply_stream (f : Supply → Supply) (j : Fin 3) : (s.modSupply f).stream j = s.stream j := rfl
@[simp] theorem State.modSupply_chunk? (f : Supply → Supply) (u : Fin 32) (j : Nat) : (s.modSupply f).chunk? u j = s.chunk? u j := rfl
@[simp] theorem State.modSupply_classOf (f : Supply → Supply) (o : Byte) : (s.modSupply f).classOf o = s.classOf o := rfl
@[simp] theorem State.modSupply_flashBytes (f : Supply → Supply) : (s.modSupply f).flashBytes = s.flashBytes := rfl

/-! ### modParser -/

@[simp] theorem State.modParser_pending (f : Parser → Parser) : (s.modParser f).pending = s.pending := rfl
@[simp] theorem State.modParser_part (f : Parser → Parser) : (s.modParser f).part = s.part := rfl
@[simp] theorem State.modParser_cause (f : Parser → Parser) : (s.modParser f).cause = s.cause := rfl
@[simp] theorem State.modParser_strapPins (f : Parser → Parser) : (s.modParser f).strapPins = s.strapPins := rfl
@[simp] theorem State.modParser_straps (f : Parser → Parser) : (s.modParser f).straps = s.straps := rfl
@[simp] theorem State.modParser_bridge (f : Parser → Parser) : (s.modParser f).bridge = s.bridge := rfl
@[simp] theorem State.modParser_windows (f : Parser → Parser) : (s.modParser f).windows = s.windows := rfl
@[simp] theorem State.modParser_views (f : Parser → Parser) : (s.modParser f).views = s.views := rfl
@[simp] theorem State.modParser_engine (f : Parser → Parser) : (s.modParser f).engine = s.engine := rfl
@[simp] theorem State.modParser_scheduler (f : Parser → Parser) : (s.modParser f).scheduler = s.scheduler := rfl
@[simp] theorem State.modParser_supply (f : Parser → Parser) : (s.modParser f).supply = s.supply := rfl
@[simp] theorem State.modParser_parser (f : Parser → Parser) : (s.modParser f).parser = f s.parser := rfl
@[simp] theorem State.modParser_reports (f : Parser → Parser) : (s.modParser f).reports = s.reports := rfl
@[simp] theorem State.modParser_ports (f : Parser → Parser) : (s.modParser f).ports = s.ports := rfl
@[simp] theorem State.modParser_win (f : Parser → Parser) (u : Fin 32) : (s.modParser f).win u = s.win u := rfl
@[simp] theorem State.modParser_view (f : Parser → Parser) (u : Fin 8) : (s.modParser f).view u = s.view u := rfl
@[simp] theorem State.modParser_stream (f : Parser → Parser) (j : Fin 3) : (s.modParser f).stream j = s.stream j := rfl
@[simp] theorem State.modParser_chunk? (f : Parser → Parser) (u : Fin 32) (j : Nat) : (s.modParser f).chunk? u j = s.chunk? u j := rfl
@[simp] theorem State.modParser_classOf (f : Parser → Parser) (o : Byte) : (s.modParser f).classOf o = s.classOf o := rfl
@[simp] theorem State.modParser_flashBytes (f : Parser → Parser) : (s.modParser f).flashBytes = s.flashBytes := rfl

/-! ### modReports -/

@[simp] theorem State.modReports_pending (f : ReportWriter → ReportWriter) : (s.modReports f).pending = s.pending := rfl
@[simp] theorem State.modReports_part (f : ReportWriter → ReportWriter) : (s.modReports f).part = s.part := rfl
@[simp] theorem State.modReports_cause (f : ReportWriter → ReportWriter) : (s.modReports f).cause = s.cause := rfl
@[simp] theorem State.modReports_strapPins (f : ReportWriter → ReportWriter) : (s.modReports f).strapPins = s.strapPins := rfl
@[simp] theorem State.modReports_straps (f : ReportWriter → ReportWriter) : (s.modReports f).straps = s.straps := rfl
@[simp] theorem State.modReports_bridge (f : ReportWriter → ReportWriter) : (s.modReports f).bridge = s.bridge := rfl
@[simp] theorem State.modReports_windows (f : ReportWriter → ReportWriter) : (s.modReports f).windows = s.windows := rfl
@[simp] theorem State.modReports_views (f : ReportWriter → ReportWriter) : (s.modReports f).views = s.views := rfl
@[simp] theorem State.modReports_engine (f : ReportWriter → ReportWriter) : (s.modReports f).engine = s.engine := rfl
@[simp] theorem State.modReports_scheduler (f : ReportWriter → ReportWriter) : (s.modReports f).scheduler = s.scheduler := rfl
@[simp] theorem State.modReports_supply (f : ReportWriter → ReportWriter) : (s.modReports f).supply = s.supply := rfl
@[simp] theorem State.modReports_parser (f : ReportWriter → ReportWriter) : (s.modReports f).parser = s.parser := rfl
@[simp] theorem State.modReports_reports (f : ReportWriter → ReportWriter) : (s.modReports f).reports = f s.reports := rfl
@[simp] theorem State.modReports_ports (f : ReportWriter → ReportWriter) : (s.modReports f).ports = s.ports := rfl
@[simp] theorem State.modReports_win (f : ReportWriter → ReportWriter) (u : Fin 32) : (s.modReports f).win u = s.win u := rfl
@[simp] theorem State.modReports_view (f : ReportWriter → ReportWriter) (u : Fin 8) : (s.modReports f).view u = s.view u := rfl
@[simp] theorem State.modReports_stream (f : ReportWriter → ReportWriter) (j : Fin 3) : (s.modReports f).stream j = s.stream j := rfl
@[simp] theorem State.modReports_chunk? (f : ReportWriter → ReportWriter) (u : Fin 32) (j : Nat) : (s.modReports f).chunk? u j = s.chunk? u j := rfl
@[simp] theorem State.modReports_classOf (f : ReportWriter → ReportWriter) (o : Byte) : (s.modReports f).classOf o = s.classOf o := rfl
@[simp] theorem State.modReports_flashBytes (f : ReportWriter → ReportWriter) : (s.modReports f).flashBytes = s.flashBytes := rfl

/-! ### modPorts -/

@[simp] theorem State.modPorts_pending (f : Ports → Ports) : (s.modPorts f).pending = s.pending := rfl
@[simp] theorem State.modPorts_part (f : Ports → Ports) : (s.modPorts f).part = s.part := rfl
@[simp] theorem State.modPorts_cause (f : Ports → Ports) : (s.modPorts f).cause = s.cause := rfl
@[simp] theorem State.modPorts_strapPins (f : Ports → Ports) : (s.modPorts f).strapPins = s.strapPins := rfl
@[simp] theorem State.modPorts_straps (f : Ports → Ports) : (s.modPorts f).straps = s.straps := rfl
@[simp] theorem State.modPorts_bridge (f : Ports → Ports) : (s.modPorts f).bridge = s.bridge := rfl
@[simp] theorem State.modPorts_windows (f : Ports → Ports) : (s.modPorts f).windows = s.windows := rfl
@[simp] theorem State.modPorts_views (f : Ports → Ports) : (s.modPorts f).views = s.views := rfl
@[simp] theorem State.modPorts_engine (f : Ports → Ports) : (s.modPorts f).engine = s.engine := rfl
@[simp] theorem State.modPorts_scheduler (f : Ports → Ports) : (s.modPorts f).scheduler = s.scheduler := rfl
@[simp] theorem State.modPorts_supply (f : Ports → Ports) : (s.modPorts f).supply = s.supply := rfl
@[simp] theorem State.modPorts_parser (f : Ports → Ports) : (s.modPorts f).parser = s.parser := rfl
@[simp] theorem State.modPorts_reports (f : Ports → Ports) : (s.modPorts f).reports = s.reports := rfl
@[simp] theorem State.modPorts_ports (f : Ports → Ports) : (s.modPorts f).ports = f s.ports := rfl
@[simp] theorem State.modPorts_win (f : Ports → Ports) (u : Fin 32) : (s.modPorts f).win u = s.win u := rfl
@[simp] theorem State.modPorts_view (f : Ports → Ports) (u : Fin 8) : (s.modPorts f).view u = s.view u := rfl
@[simp] theorem State.modPorts_stream (f : Ports → Ports) (j : Fin 3) : (s.modPorts f).stream j = s.stream j := rfl
@[simp] theorem State.modPorts_chunk? (f : Ports → Ports) (u : Fin 32) (j : Nat) : (s.modPorts f).chunk? u j = s.chunk? u j := rfl
@[simp] theorem State.modPorts_classOf (f : Ports → Ports) (o : Byte) : (s.modPorts f).classOf o = s.classOf o := rfl
@[simp] theorem State.modPorts_flashBytes (f : Ports → Ports) : (s.modPorts f).flashBytes = s.flashBytes := rfl

/-! ### drive -/

@[simp] theorem State.drive_pending (a : List Byte) (b : List FlashTxn) : (s.drive a b).pending = s.pending := rfl
@[simp] theorem State.drive_part (a : List Byte) (b : List FlashTxn) : (s.drive a b).part = s.part := rfl
@[simp] theorem State.drive_cause (a : List Byte) (b : List FlashTxn) : (s.drive a b).cause = s.cause := rfl
@[simp] theorem State.drive_strapPins (a : List Byte) (b : List FlashTxn) : (s.drive a b).strapPins = s.strapPins := rfl
@[simp] theorem State.drive_straps (a : List Byte) (b : List FlashTxn) : (s.drive a b).straps = s.straps := rfl
@[simp] theorem State.drive_bridge (a : List Byte) (b : List FlashTxn) : (s.drive a b).bridge = s.bridge := rfl
@[simp] theorem State.drive_windows (a : List Byte) (b : List FlashTxn) : (s.drive a b).windows = s.windows := rfl
@[simp] theorem State.drive_views (a : List Byte) (b : List FlashTxn) : (s.drive a b).views = s.views := rfl
@[simp] theorem State.drive_engine (a : List Byte) (b : List FlashTxn) : (s.drive a b).engine = s.engine := rfl
@[simp] theorem State.drive_scheduler (a : List Byte) (b : List FlashTxn) : (s.drive a b).scheduler = s.scheduler := rfl
@[simp] theorem State.drive_supply (a : List Byte) (b : List FlashTxn) : (s.drive a b).supply = s.supply := rfl
@[simp] theorem State.drive_parser (a : List Byte) (b : List FlashTxn) : (s.drive a b).parser = s.parser := rfl
@[simp] theorem State.drive_reports (a : List Byte) (b : List FlashTxn) : (s.drive a b).reports = s.reports := rfl
@[simp] theorem State.drive_ports (a : List Byte) (b : List FlashTxn) : (s.drive a b).ports = { toHost := a, toFlash := b } := rfl
@[simp] theorem State.drive_win (a : List Byte) (b : List FlashTxn) (u : Fin 32) : (s.drive a b).win u = s.win u := rfl
@[simp] theorem State.drive_view (a : List Byte) (b : List FlashTxn) (u : Fin 8) : (s.drive a b).view u = s.view u := rfl
@[simp] theorem State.drive_stream (a : List Byte) (b : List FlashTxn) (j : Fin 3) : (s.drive a b).stream j = s.stream j := rfl
@[simp] theorem State.drive_chunk? (a : List Byte) (b : List FlashTxn) (u : Fin 32) (j : Nat) : (s.drive a b).chunk? u j = s.chunk? u j := rfl
@[simp] theorem State.drive_classOf (a : List Byte) (b : List FlashTxn) (o : Byte) : (s.drive a b).classOf o = s.classOf o := rfl
@[simp] theorem State.drive_flashBytes (a : List Byte) (b : List FlashTxn) : (s.drive a b).flashBytes = s.flashBytes := rfl

/-! ### issue -/

@[simp] theorem State.issue_pending (b : List FlashTxn) : (s.issue b).pending = s.pending := rfl
@[simp] theorem State.issue_part (b : List FlashTxn) : (s.issue b).part = s.part := rfl
@[simp] theorem State.issue_cause (b : List FlashTxn) : (s.issue b).cause = s.cause := rfl
@[simp] theorem State.issue_strapPins (b : List FlashTxn) : (s.issue b).strapPins = s.strapPins := rfl
@[simp] theorem State.issue_straps (b : List FlashTxn) : (s.issue b).straps = s.straps := rfl
@[simp] theorem State.issue_bridge (b : List FlashTxn) : (s.issue b).bridge = s.bridge := rfl
@[simp] theorem State.issue_windows (b : List FlashTxn) : (s.issue b).windows = s.windows := rfl
@[simp] theorem State.issue_views (b : List FlashTxn) : (s.issue b).views = s.views := rfl
@[simp] theorem State.issue_engine (b : List FlashTxn) : (s.issue b).engine = s.engine := rfl
@[simp] theorem State.issue_scheduler (b : List FlashTxn) : (s.issue b).scheduler = s.scheduler := rfl
@[simp] theorem State.issue_supply (b : List FlashTxn) : (s.issue b).supply = s.supply := rfl
@[simp] theorem State.issue_parser (b : List FlashTxn) : (s.issue b).parser = s.parser := rfl
@[simp] theorem State.issue_reports (b : List FlashTxn) : (s.issue b).reports = s.reports := rfl
@[simp] theorem State.issue_ports (b : List FlashTxn) : (s.issue b).ports = { s.ports with toFlash := b } := rfl
@[simp] theorem State.issue_win (b : List FlashTxn) (u : Fin 32) : (s.issue b).win u = s.win u := rfl
@[simp] theorem State.issue_view (b : List FlashTxn) (u : Fin 8) : (s.issue b).view u = s.view u := rfl
@[simp] theorem State.issue_stream (b : List FlashTxn) (j : Fin 3) : (s.issue b).stream j = s.stream j := rfl
@[simp] theorem State.issue_chunk? (b : List FlashTxn) (u : Fin 32) (j : Nat) : (s.issue b).chunk? u j = s.chunk? u j := rfl
@[simp] theorem State.issue_classOf (b : List FlashTxn) (o : Byte) : (s.issue b).classOf o = s.classOf o := rfl
@[simp] theorem State.issue_flashBytes (b : List FlashTxn) : (s.issue b).flashBytes = s.flashBytes := rfl

/-! ### setWin -/

@[simp] theorem State.setWin_pending (w : Fin 32) (v : Window) : (s.setWin w v).pending = s.pending := rfl
@[simp] theorem State.setWin_part (w : Fin 32) (v : Window) : (s.setWin w v).part = s.part := rfl
@[simp] theorem State.setWin_cause (w : Fin 32) (v : Window) : (s.setWin w v).cause = s.cause := rfl
@[simp] theorem State.setWin_strapPins (w : Fin 32) (v : Window) : (s.setWin w v).strapPins = s.strapPins := rfl
@[simp] theorem State.setWin_straps (w : Fin 32) (v : Window) : (s.setWin w v).straps = s.straps := rfl
@[simp] theorem State.setWin_bridge (w : Fin 32) (v : Window) : (s.setWin w v).bridge = s.bridge := rfl
@[simp] theorem State.setWin_windows (w : Fin 32) (v : Window) : (s.setWin w v).windows = s.windows.set w v := rfl
@[simp] theorem State.setWin_views (w : Fin 32) (v : Window) : (s.setWin w v).views = s.views := rfl
@[simp] theorem State.setWin_engine (w : Fin 32) (v : Window) : (s.setWin w v).engine = s.engine := rfl
@[simp] theorem State.setWin_scheduler (w : Fin 32) (v : Window) : (s.setWin w v).scheduler = s.scheduler := rfl
@[simp] theorem State.setWin_supply (w : Fin 32) (v : Window) : (s.setWin w v).supply = s.supply := rfl
@[simp] theorem State.setWin_parser (w : Fin 32) (v : Window) : (s.setWin w v).parser = s.parser := rfl
@[simp] theorem State.setWin_reports (w : Fin 32) (v : Window) : (s.setWin w v).reports = s.reports := rfl
@[simp] theorem State.setWin_ports (w : Fin 32) (v : Window) : (s.setWin w v).ports = s.ports := rfl
@[simp] theorem State.setWin_view (w : Fin 32) (v : Window) (u : Fin 8) : (s.setWin w v).view u = s.view u := rfl
@[simp] theorem State.setWin_stream (w : Fin 32) (v : Window) (j : Fin 3) : (s.setWin w v).stream j = s.stream j := rfl
@[simp] theorem State.setWin_classOf (w : Fin 32) (v : Window) (o : Byte) : (s.setWin w v).classOf o = s.classOf o := rfl
@[simp] theorem State.setWin_flashBytes (w : Fin 32) (v : Window) : (s.setWin w v).flashBytes = s.flashBytes := rfl

/-! ### modWin -/

@[simp] theorem State.modWin_pending (w : Fin 32) (f : Window → Window) : (s.modWin w f).pending = s.pending := rfl
@[simp] theorem State.modWin_part (w : Fin 32) (f : Window → Window) : (s.modWin w f).part = s.part := rfl
@[simp] theorem State.modWin_cause (w : Fin 32) (f : Window → Window) : (s.modWin w f).cause = s.cause := rfl
@[simp] theorem State.modWin_strapPins (w : Fin 32) (f : Window → Window) : (s.modWin w f).strapPins = s.strapPins := rfl
@[simp] theorem State.modWin_straps (w : Fin 32) (f : Window → Window) : (s.modWin w f).straps = s.straps := rfl
@[simp] theorem State.modWin_bridge (w : Fin 32) (f : Window → Window) : (s.modWin w f).bridge = s.bridge := rfl
@[simp] theorem State.modWin_windows (w : Fin 32) (f : Window → Window) : (s.modWin w f).windows = s.windows.set w (f (s.win w)) := rfl
@[simp] theorem State.modWin_views (w : Fin 32) (f : Window → Window) : (s.modWin w f).views = s.views := rfl
@[simp] theorem State.modWin_engine (w : Fin 32) (f : Window → Window) : (s.modWin w f).engine = s.engine := rfl
@[simp] theorem State.modWin_scheduler (w : Fin 32) (f : Window → Window) : (s.modWin w f).scheduler = s.scheduler := rfl
@[simp] theorem State.modWin_supply (w : Fin 32) (f : Window → Window) : (s.modWin w f).supply = s.supply := rfl
@[simp] theorem State.modWin_parser (w : Fin 32) (f : Window → Window) : (s.modWin w f).parser = s.parser := rfl
@[simp] theorem State.modWin_reports (w : Fin 32) (f : Window → Window) : (s.modWin w f).reports = s.reports := rfl
@[simp] theorem State.modWin_ports (w : Fin 32) (f : Window → Window) : (s.modWin w f).ports = s.ports := rfl
@[simp] theorem State.modWin_view (w : Fin 32) (f : Window → Window) (u : Fin 8) : (s.modWin w f).view u = s.view u := rfl
@[simp] theorem State.modWin_stream (w : Fin 32) (f : Window → Window) (j : Fin 3) : (s.modWin w f).stream j = s.stream j := rfl
@[simp] theorem State.modWin_classOf (w : Fin 32) (f : Window → Window) (o : Byte) : (s.modWin w f).classOf o = s.classOf o := rfl
@[simp] theorem State.modWin_flashBytes (w : Fin 32) (f : Window → Window) : (s.modWin w f).flashBytes = s.flashBytes := rfl

/-! ### modChunk -/

@[simp] theorem State.modChunk_pending (w : Fin 32) (i : Nat) (f : Chunk → Chunk) : (s.modChunk w i f).pending = s.pending := rfl
@[simp] theorem State.modChunk_part (w : Fin 32) (i : Nat) (f : Chunk → Chunk) : (s.modChunk w i f).part = s.part := rfl
@[simp] theorem State.modChunk_cause (w : Fin 32) (i : Nat) (f : Chunk → Chunk) : (s.modChunk w i f).cause = s.cause := rfl
@[simp] theorem State.modChunk_strapPins (w : Fin 32) (i : Nat) (f : Chunk → Chunk) : (s.modChunk w i f).strapPins = s.strapPins := rfl
@[simp] theorem State.modChunk_straps (w : Fin 32) (i : Nat) (f : Chunk → Chunk) : (s.modChunk w i f).straps = s.straps := rfl
@[simp] theorem State.modChunk_bridge (w : Fin 32) (i : Nat) (f : Chunk → Chunk) : (s.modChunk w i f).bridge = s.bridge := rfl
@[simp] theorem State.modChunk_views (w : Fin 32) (i : Nat) (f : Chunk → Chunk) : (s.modChunk w i f).views = s.views := rfl
@[simp] theorem State.modChunk_engine (w : Fin 32) (i : Nat) (f : Chunk → Chunk) : (s.modChunk w i f).engine = s.engine := rfl
@[simp] theorem State.modChunk_scheduler (w : Fin 32) (i : Nat) (f : Chunk → Chunk) : (s.modChunk w i f).scheduler = s.scheduler := rfl
@[simp] theorem State.modChunk_supply (w : Fin 32) (i : Nat) (f : Chunk → Chunk) : (s.modChunk w i f).supply = s.supply := rfl
@[simp] theorem State.modChunk_parser (w : Fin 32) (i : Nat) (f : Chunk → Chunk) : (s.modChunk w i f).parser = s.parser := rfl
@[simp] theorem State.modChunk_reports (w : Fin 32) (i : Nat) (f : Chunk → Chunk) : (s.modChunk w i f).reports = s.reports := rfl
@[simp] theorem State.modChunk_ports (w : Fin 32) (i : Nat) (f : Chunk → Chunk) : (s.modChunk w i f).ports = s.ports := rfl
@[simp] theorem State.modChunk_view (w : Fin 32) (i : Nat) (f : Chunk → Chunk) (u : Fin 8) : (s.modChunk w i f).view u = s.view u := rfl
@[simp] theorem State.modChunk_stream (w : Fin 32) (i : Nat) (f : Chunk → Chunk) (j : Fin 3) : (s.modChunk w i f).stream j = s.stream j := rfl
@[simp] theorem State.modChunk_classOf (w : Fin 32) (i : Nat) (f : Chunk → Chunk) (o : Byte) : (s.modChunk w i f).classOf o = s.classOf o := rfl
@[simp] theorem State.modChunk_flashBytes (w : Fin 32) (i : Nat) (f : Chunk → Chunk) : (s.modChunk w i f).flashBytes = s.flashBytes := rfl

/-! ### setView -/

@[simp] theorem State.setView_pending (v : Fin 8) (x : Option View) : (s.setView v x).pending = s.pending := rfl
@[simp] theorem State.setView_part (v : Fin 8) (x : Option View) : (s.setView v x).part = s.part := rfl
@[simp] theorem State.setView_cause (v : Fin 8) (x : Option View) : (s.setView v x).cause = s.cause := rfl
@[simp] theorem State.setView_strapPins (v : Fin 8) (x : Option View) : (s.setView v x).strapPins = s.strapPins := rfl
@[simp] theorem State.setView_straps (v : Fin 8) (x : Option View) : (s.setView v x).straps = s.straps := rfl
@[simp] theorem State.setView_bridge (v : Fin 8) (x : Option View) : (s.setView v x).bridge = s.bridge := rfl
@[simp] theorem State.setView_windows (v : Fin 8) (x : Option View) : (s.setView v x).windows = s.windows := rfl
@[simp] theorem State.setView_views (v : Fin 8) (x : Option View) : (s.setView v x).views = s.views.set v x := rfl
@[simp] theorem State.setView_engine (v : Fin 8) (x : Option View) : (s.setView v x).engine = s.engine := rfl
@[simp] theorem State.setView_scheduler (v : Fin 8) (x : Option View) : (s.setView v x).scheduler = s.scheduler := rfl
@[simp] theorem State.setView_supply (v : Fin 8) (x : Option View) : (s.setView v x).supply = s.supply := rfl
@[simp] theorem State.setView_parser (v : Fin 8) (x : Option View) : (s.setView v x).parser = s.parser := rfl
@[simp] theorem State.setView_reports (v : Fin 8) (x : Option View) : (s.setView v x).reports = s.reports := rfl
@[simp] theorem State.setView_ports (v : Fin 8) (x : Option View) : (s.setView v x).ports = s.ports := rfl
@[simp] theorem State.setView_win (v : Fin 8) (x : Option View) (u : Fin 32) : (s.setView v x).win u = s.win u := rfl
@[simp] theorem State.setView_stream (v : Fin 8) (x : Option View) (j : Fin 3) : (s.setView v x).stream j = s.stream j := rfl
@[simp] theorem State.setView_chunk? (v : Fin 8) (x : Option View) (u : Fin 32) (j : Nat) : (s.setView v x).chunk? u j = s.chunk? u j := rfl
@[simp] theorem State.setView_classOf (v : Fin 8) (x : Option View) (o : Byte) : (s.setView v x).classOf o = s.classOf o := rfl
@[simp] theorem State.setView_flashBytes (v : Fin 8) (x : Option View) : (s.setView v x).flashBytes = s.flashBytes := rfl

/-! ### setStream -/

@[simp] theorem State.setStream_pending (k : Fin 3) (x : Option StreamCtx) : (s.setStream k x).pending = s.pending := rfl
@[simp] theorem State.setStream_part (k : Fin 3) (x : Option StreamCtx) : (s.setStream k x).part = s.part := rfl
@[simp] theorem State.setStream_cause (k : Fin 3) (x : Option StreamCtx) : (s.setStream k x).cause = s.cause := rfl
@[simp] theorem State.setStream_strapPins (k : Fin 3) (x : Option StreamCtx) : (s.setStream k x).strapPins = s.strapPins := rfl
@[simp] theorem State.setStream_straps (k : Fin 3) (x : Option StreamCtx) : (s.setStream k x).straps = s.straps := rfl
@[simp] theorem State.setStream_bridge (k : Fin 3) (x : Option StreamCtx) : (s.setStream k x).bridge = s.bridge := rfl
@[simp] theorem State.setStream_windows (k : Fin 3) (x : Option StreamCtx) : (s.setStream k x).windows = s.windows := rfl
@[simp] theorem State.setStream_views (k : Fin 3) (x : Option StreamCtx) : (s.setStream k x).views = s.views := rfl
@[simp] theorem State.setStream_engine (k : Fin 3) (x : Option StreamCtx) : (s.setStream k x).engine = { s.engine with streams := s.engine.streams.set k x } := rfl
@[simp] theorem State.setStream_scheduler (k : Fin 3) (x : Option StreamCtx) : (s.setStream k x).scheduler = s.scheduler := rfl
@[simp] theorem State.setStream_supply (k : Fin 3) (x : Option StreamCtx) : (s.setStream k x).supply = s.supply := rfl
@[simp] theorem State.setStream_parser (k : Fin 3) (x : Option StreamCtx) : (s.setStream k x).parser = s.parser := rfl
@[simp] theorem State.setStream_reports (k : Fin 3) (x : Option StreamCtx) : (s.setStream k x).reports = s.reports := rfl
@[simp] theorem State.setStream_ports (k : Fin 3) (x : Option StreamCtx) : (s.setStream k x).ports = s.ports := rfl
@[simp] theorem State.setStream_win (k : Fin 3) (x : Option StreamCtx) (u : Fin 32) : (s.setStream k x).win u = s.win u := rfl
@[simp] theorem State.setStream_view (k : Fin 3) (x : Option StreamCtx) (u : Fin 8) : (s.setStream k x).view u = s.view u := rfl
@[simp] theorem State.setStream_chunk? (k : Fin 3) (x : Option StreamCtx) (u : Fin 32) (j : Nat) : (s.setStream k x).chunk? u j = s.chunk? u j := rfl
@[simp] theorem State.setStream_classOf (k : Fin 3) (x : Option StreamCtx) (o : Byte) : (s.setStream k x).classOf o = s.classOf o := rfl
@[simp] theorem State.setStream_flashBytes (k : Fin 3) (x : Option StreamCtx) : (s.setStream k x).flashBytes = s.flashBytes := rfl

/-! ### setReadback -/

@[simp] theorem State.setReadback_pending (x : Option ReadbackCtx) : (s.setReadback x).pending = s.pending := rfl
@[simp] theorem State.setReadback_part (x : Option ReadbackCtx) : (s.setReadback x).part = s.part := rfl
@[simp] theorem State.setReadback_cause (x : Option ReadbackCtx) : (s.setReadback x).cause = s.cause := rfl
@[simp] theorem State.setReadback_strapPins (x : Option ReadbackCtx) : (s.setReadback x).strapPins = s.strapPins := rfl
@[simp] theorem State.setReadback_straps (x : Option ReadbackCtx) : (s.setReadback x).straps = s.straps := rfl
@[simp] theorem State.setReadback_bridge (x : Option ReadbackCtx) : (s.setReadback x).bridge = s.bridge := rfl
@[simp] theorem State.setReadback_windows (x : Option ReadbackCtx) : (s.setReadback x).windows = s.windows := rfl
@[simp] theorem State.setReadback_views (x : Option ReadbackCtx) : (s.setReadback x).views = s.views := rfl
@[simp] theorem State.setReadback_engine (x : Option ReadbackCtx) : (s.setReadback x).engine = { s.engine with readback := x } := rfl
@[simp] theorem State.setReadback_scheduler (x : Option ReadbackCtx) : (s.setReadback x).scheduler = s.scheduler := rfl
@[simp] theorem State.setReadback_supply (x : Option ReadbackCtx) : (s.setReadback x).supply = s.supply := rfl
@[simp] theorem State.setReadback_parser (x : Option ReadbackCtx) : (s.setReadback x).parser = s.parser := rfl
@[simp] theorem State.setReadback_reports (x : Option ReadbackCtx) : (s.setReadback x).reports = s.reports := rfl
@[simp] theorem State.setReadback_ports (x : Option ReadbackCtx) : (s.setReadback x).ports = s.ports := rfl
@[simp] theorem State.setReadback_win (x : Option ReadbackCtx) (u : Fin 32) : (s.setReadback x).win u = s.win u := rfl
@[simp] theorem State.setReadback_view (x : Option ReadbackCtx) (u : Fin 8) : (s.setReadback x).view u = s.view u := rfl
@[simp] theorem State.setReadback_chunk? (x : Option ReadbackCtx) (u : Fin 32) (j : Nat) : (s.setReadback x).chunk? u j = s.chunk? u j := rfl
@[simp] theorem State.setReadback_classOf (x : Option ReadbackCtx) (o : Byte) : (s.setReadback x).classOf o = s.classOf o := rfl
@[simp] theorem State.setReadback_flashBytes (x : Option ReadbackCtx) : (s.setReadback x).flashBytes = s.flashBytes := rfl

/-! ### setClass -/

@[simp] theorem State.setClass_pending (op : Byte) (e : ClassEntry) : (s.setClass op e).pending = s.pending := rfl
@[simp] theorem State.setClass_part (op : Byte) (e : ClassEntry) : (s.setClass op e).part = s.part := rfl
@[simp] theorem State.setClass_cause (op : Byte) (e : ClassEntry) : (s.setClass op e).cause = s.cause := rfl
@[simp] theorem State.setClass_strapPins (op : Byte) (e : ClassEntry) : (s.setClass op e).strapPins = s.strapPins := rfl
@[simp] theorem State.setClass_straps (op : Byte) (e : ClassEntry) : (s.setClass op e).straps = s.straps := rfl
@[simp] theorem State.setClass_bridge (op : Byte) (e : ClassEntry) : (s.setClass op e).bridge = { s.bridge with classes := s.bridge.classes.set op.toNat e op.isLt } := rfl
@[simp] theorem State.setClass_windows (op : Byte) (e : ClassEntry) : (s.setClass op e).windows = s.windows := rfl
@[simp] theorem State.setClass_views (op : Byte) (e : ClassEntry) : (s.setClass op e).views = s.views := rfl
@[simp] theorem State.setClass_engine (op : Byte) (e : ClassEntry) : (s.setClass op e).engine = s.engine := rfl
@[simp] theorem State.setClass_scheduler (op : Byte) (e : ClassEntry) : (s.setClass op e).scheduler = s.scheduler := rfl
@[simp] theorem State.setClass_supply (op : Byte) (e : ClassEntry) : (s.setClass op e).supply = s.supply := rfl
@[simp] theorem State.setClass_parser (op : Byte) (e : ClassEntry) : (s.setClass op e).parser = s.parser := rfl
@[simp] theorem State.setClass_reports (op : Byte) (e : ClassEntry) : (s.setClass op e).reports = s.reports := rfl
@[simp] theorem State.setClass_ports (op : Byte) (e : ClassEntry) : (s.setClass op e).ports = s.ports := rfl
@[simp] theorem State.setClass_win (op : Byte) (e : ClassEntry) (u : Fin 32) : (s.setClass op e).win u = s.win u := rfl
@[simp] theorem State.setClass_view (op : Byte) (e : ClassEntry) (u : Fin 8) : (s.setClass op e).view u = s.view u := rfl
@[simp] theorem State.setClass_stream (op : Byte) (e : ClassEntry) (j : Fin 3) : (s.setClass op e).stream j = s.stream j := rfl
@[simp] theorem State.setClass_chunk? (op : Byte) (e : ClassEntry) (u : Fin 32) (j : Nat) : (s.setClass op e).chunk? u j = s.chunk? u j := rfl
@[simp] theorem State.setClass_flashBytes (op : Byte) (e : ClassEntry) : (s.setClass op e).flashBytes = s.flashBytes := rfl

/-! ### raise -/

@[simp] theorem State.raise_pending (r : Report) : (s.raise r).pending = s.pending := rfl
@[simp] theorem State.raise_part (r : Report) : (s.raise r).part = s.part := rfl
@[simp] theorem State.raise_cause (r : Report) : (s.raise r).cause = s.cause := rfl
@[simp] theorem State.raise_strapPins (r : Report) : (s.raise r).strapPins = s.strapPins := rfl
@[simp] theorem State.raise_straps (r : Report) : (s.raise r).straps = s.straps := rfl
@[simp] theorem State.raise_bridge (r : Report) : (s.raise r).bridge = s.bridge := rfl
@[simp] theorem State.raise_windows (r : Report) : (s.raise r).windows = s.windows := rfl
@[simp] theorem State.raise_views (r : Report) : (s.raise r).views = s.views := rfl
@[simp] theorem State.raise_engine (r : Report) : (s.raise r).engine = s.engine := rfl
@[simp] theorem State.raise_scheduler (r : Report) : (s.raise r).scheduler = s.scheduler := rfl
@[simp] theorem State.raise_supply (r : Report) : (s.raise r).supply = s.supply := rfl
@[simp] theorem State.raise_parser (r : Report) : (s.raise r).parser = s.parser := rfl
@[simp] theorem State.raise_ports (r : Report) : (s.raise r).ports = s.ports := rfl
@[simp] theorem State.raise_win (r : Report) (u : Fin 32) : (s.raise r).win u = s.win u := rfl
@[simp] theorem State.raise_view (r : Report) (u : Fin 8) : (s.raise r).view u = s.view u := rfl
@[simp] theorem State.raise_stream (r : Report) (j : Fin 3) : (s.raise r).stream j = s.stream j := rfl
@[simp] theorem State.raise_chunk? (r : Report) (u : Fin 32) (j : Nat) : (s.raise r).chunk? u j = s.chunk? u j := rfl
@[simp] theorem State.raise_classOf (r : Report) (o : Byte) : (s.raise r).classOf o = s.classOf o := rfl
@[simp] theorem State.raise_flashBytes (r : Report) : (s.raise r).flashBytes = s.flashBytes := rfl

/-! ### modCounters -/

@[simp] theorem State.modCounters_pending (f : Counters → Counters) : (s.modCounters f).pending = s.pending := rfl
@[simp] theorem State.modCounters_part (f : Counters → Counters) : (s.modCounters f).part = s.part := rfl
@[simp] theorem State.modCounters_cause (f : Counters → Counters) : (s.modCounters f).cause = s.cause := rfl
@[simp] theorem State.modCounters_strapPins (f : Counters → Counters) : (s.modCounters f).strapPins = s.strapPins := rfl
@[simp] theorem State.modCounters_straps (f : Counters → Counters) : (s.modCounters f).straps = s.straps := rfl
@[simp] theorem State.modCounters_bridge (f : Counters → Counters) : (s.modCounters f).bridge = s.bridge := rfl
@[simp] theorem State.modCounters_windows (f : Counters → Counters) : (s.modCounters f).windows = s.windows := rfl
@[simp] theorem State.modCounters_views (f : Counters → Counters) : (s.modCounters f).views = s.views := rfl
@[simp] theorem State.modCounters_engine (f : Counters → Counters) : (s.modCounters f).engine = s.engine := rfl
@[simp] theorem State.modCounters_scheduler (f : Counters → Counters) : (s.modCounters f).scheduler = s.scheduler := rfl
@[simp] theorem State.modCounters_supply (f : Counters → Counters) : (s.modCounters f).supply = s.supply := rfl
@[simp] theorem State.modCounters_parser (f : Counters → Counters) : (s.modCounters f).parser = s.parser := rfl
@[simp] theorem State.modCounters_reports (f : Counters → Counters) : (s.modCounters f).reports = { s.reports with counters := f s.reports.counters } := rfl
@[simp] theorem State.modCounters_ports (f : Counters → Counters) : (s.modCounters f).ports = s.ports := rfl
@[simp] theorem State.modCounters_win (f : Counters → Counters) (u : Fin 32) : (s.modCounters f).win u = s.win u := rfl
@[simp] theorem State.modCounters_view (f : Counters → Counters) (u : Fin 8) : (s.modCounters f).view u = s.view u := rfl
@[simp] theorem State.modCounters_stream (f : Counters → Counters) (j : Fin 3) : (s.modCounters f).stream j = s.stream j := rfl
@[simp] theorem State.modCounters_chunk? (f : Counters → Counters) (u : Fin 32) (j : Nat) : (s.modCounters f).chunk? u j = s.chunk? u j := rfl
@[simp] theorem State.modCounters_classOf (f : Counters → Counters) (o : Byte) : (s.modCounters f).classOf o = s.classOf o := rfl
@[simp] theorem State.modCounters_flashBytes (f : Counters → Counters) : (s.modCounters f).flashBytes = s.flashBytes := rfl

end Sys2Proof.Machine
end

