-- ==== Sys2Proof/Laws/Ops.lean ====
section
/-! SUPPORT. What the operations of Machine/Ops.lean do: reading a window, view, context or class entry behind a write of one, the
chunk record behind a write of a chunk record, raising a report, requesting a mark, and the outline of a window. -/

namespace Sys2Proof.Machine

/-! ### Reading behind a write -/

theorem Vector.get_set_fin {α : Type} {n : Nat} (v : Vector α n) (i j : Fin n) (x : α) :
    (v.set i x).get j = if i = j then x else v.get j := by
  simp only [Vector.get_eq_getElem, Vector.getElem_set, Fin.ext_iff]

@[simp] theorem State.win_setWin (s : State) (w u : Fin 32) (v : Window) :
    (s.setWin w v).win u = if w = u then v else s.win u := Vector.get_set_fin _ _ _ _

theorem State.win_setWin_self (s : State) (w : Fin 32) (v : Window) : (s.setWin w v).win w = v := by simp

theorem State.win_setWin_other (s : State) {w u : Fin 32} (v : Window) (h : w ≠ u) :
    (s.setWin w v).win u = s.win u := by simp [h]

@[simp] theorem State.win_modWin (s : State) (w u : Fin 32) (f : Window → Window) :
    (s.modWin w f).win u = if w = u then f (s.win w) else s.win u := State.win_setWin _ _ _ _

@[simp] theorem State.view_setView (s : State) (v u : Fin 8) (x : Option View) :
    (s.setView v x).view u = if v = u then x else s.view u := Vector.get_set_fin _ _ _ _

@[simp] theorem State.stream_setStream (s : State) (k j : Fin 3) (x : Option StreamCtx) :
    (s.setStream k x).stream j = if k = j then x else s.stream j := Vector.get_set_fin _ _ _ _

@[simp] theorem State.classOf_setClass (s : State) (op o : Byte) (e : ClassEntry) :
    (s.setClass op e).classOf o = if op = o then e else s.classOf o := by
  have : op.toNat = o.toNat ↔ op = o := by simp [BitVec.toNat_eq]
  simp only [State.classOf, State.setClass, State.modBridge, Vector.get_eq_getElem, Vector.getElem_set,
    BitVec.val_toFin, this]

theorem State.setWin_eq_self (s : State) (w : Fin 32) : s.setWin w (s.win w) = s := by
  simp [State.setWin, State.win, Vector.get_eq_getElem]

/-! ### Bodies -/

@[simp] theorem WinBody.geom?_modCat (b : WinBody) (f : Catalogue → Catalogue) : (b.modCat f).geom? = b.geom? := by
  cases b <;> rfl

@[simp] theorem WinBody.cat?_modCat (b : WinBody) (f : Catalogue → Catalogue) : (b.modCat f).cat? = b.cat?.map f := by
  cases b <;> rfl

@[simp] theorem WinBody.isLoaded_modCat (b : WinBody) (f : Catalogue → Catalogue) :
    (b.modCat f).isLoaded = b.isLoaded := by cases b <;> rfl

@[simp] theorem WinBody.code_modCat (b : WinBody) (f : Catalogue → Catalogue) : (b.modCat f).code = b.code := by
  cases b <;> rfl

@[simp] theorem WinBody.modCat_modCat (b : WinBody) (f g : Catalogue → Catalogue) :
    (b.modCat f).modCat g = b.modCat (g ∘ f) := by cases b <;> rfl

/-- A body with every chunk record in the form a MANIFEST creates: what stands of a window's geometry, catalogue and erased
digests when chunks change state. -/
def WinBody.outline (b : WinBody) : WinBody :=
  b.modCat fun c => { c with chunks := c.chunks.map fun _ => Chunk.fresh }

@[simp] theorem WinBody.geom?_outline (b : WinBody) : b.outline.geom? = b.geom? := WinBody.geom?_modCat _ _

@[simp] theorem WinBody.isLoaded_outline (b : WinBody) : b.outline.isLoaded = b.isLoaded := WinBody.isLoaded_modCat _ _

@[simp] theorem WinBody.outline_modChunks (b : WinBody) (i : Nat) (f : Chunk → Chunk) :
    (b.modCat fun c => { c with chunks := c.chunks.modify i f }).outline = b.outline := by
  have h : ∀ l : List Chunk, (l.modify i f).map (fun _ => Chunk.fresh) = l.map fun _ => Chunk.fresh := by
    intro l
    simp [List.map_const']
  cases b <;> simp [WinBody.outline, WinBody.modCat, h]

@[simp] theorem WinBody.code_outline (b : WinBody) : b.outline.code = b.code := WinBody.code_modCat _ _

@[simp] theorem WinBody.count_outline (b : WinBody) : b.outline.count = b.count := by
  cases b <;> simp [WinBody.outline, WinBody.modCat, WinBody.count, WinBody.cat?]

@[simp] theorem WinBody.chunkLen_outline (b : WinBody) (i : Nat) : b.outline.chunkLen i = b.chunkLen i := by
  cases b <;> simp [WinBody.outline, WinBody.modCat, WinBody.chunkLen, WinBody.cat?, WinBody.geom?]

/-- Two bodies of one outline agree in everything that does not look into a chunk record. -/
theorem WinBody.outline_inj {a b : WinBody} (h : a.outline = b.outline) :
    a.geom? = b.geom? ∧ a.isLoaded = b.isLoaded ∧ a.code = b.code ∧ a.count = b.count ∧
      ∀ i, a.chunkLen i = b.chunkLen i := by
  refine ⟨?_, ?_, ?_, ?_, fun i => ?_⟩
  · rw [← a.geom?_outline, h, b.geom?_outline]
  · rw [← a.isLoaded_outline, h, b.isLoaded_outline]
  · rw [← a.code_outline, h, b.code_outline]
  · rw [← a.count_outline, h, b.count_outline]
  · rw [← a.chunkLen_outline, h, b.chunkLen_outline]

/-! ### Chunk records -/

/-- A write of a chunk record changes that record and no other. -/
@[simp] theorem State.chunk?_modChunk (s : State) (w u : Fin 32) (i j : Nat) (f : Chunk → Chunk) :
    (s.modChunk w i f).chunk? u j = if w = u ∧ i = j then (s.chunk? u j).map f else s.chunk? u j := by
  simp only [State.chunk?, State.modChunk, State.win_modWin]
  by_cases h : w = u
  · subst h
    cases hc : (s.win w).body.cat? with
    | none => simp [hc]
    | some c =>
      by_cases hi : i = j
      · subst hi; simp [hc]
      · simp [hc, hi]
  · simp [h]

theorem State.outline_modChunk (s : State) (w u : Fin 32) (i : Nat) (f : Chunk → Chunk) :
    ((s.modChunk w i f).win u).body.outline = (s.win u).body.outline := by
  simp only [State.modChunk, State.win_modWin]
  split
  · next h => subst h; exact WinBody.outline_modChunks _ _ _
  · rfl

/-- A write of a window that keeps its body keeps every chunk record. -/
theorem State.chunk?_modWin_body (s : State) (w : Fin 32) (f : Window → Window) (h : (f (s.win w)).body = (s.win w).body)
    (u : Fin 32) (j : Nat) : (s.modWin w f).chunk? u j = s.chunk? u j := by
  simp only [State.chunk?, State.win_modWin]
  split
  · next e => subst e; rw [h]
  · rfl

/-! ### Reports, counters and marks -/

/-- Raising a report: with fewer than 16 waiting it joins the queue, else it is lost and sets the dropped flag (R170). -/
theorem State.raise_reports (s : State) (r : Report) :
    (s.reports.queue.length < 16 →
      (s.raise r).reports = { s.reports with queue := s.reports.queue ++ [r] }) ∧
    (16 ≤ s.reports.queue.length → (s.raise r).reports = { s.reports with dropped := true }) := by
  constructor <;> intro h <;> simp [State.raise, State.modReports, Config.reportEntries, h, Nat.not_lt.mpr]

@[simp] theorem State.raise_counters (s : State) (r : Report) : (s.raise r).reports.counters = s.reports.counters := by
  simp only [State.raise, State.modReports]; split <;> rfl

@[simp] theorem State.raise_marks (s : State) (r : Report) : (s.raise r).reports.marks = s.reports.marks := by
  simp only [State.raise, State.modReports]; split <;> rfl

@[simp] theorem State.raise_journal (s : State) (r : Report) : (s.raise r).reports.journal = s.reports.journal := by
  simp only [State.raise, State.modReports]; split <;> rfl

@[simp] theorem State.raise_alert (s : State) (r : Report) : (s.raise r).reports.alert = s.reports.alert := by
  simp only [State.raise, State.modReports]; split <;> rfl

/-- Raising a report changes nothing but the queue and the dropped flag, and the queue stays within its 16 entries. -/
theorem State.raise_frame (s : State) (r : Report) :
    s.raise r = { s with reports :=
      { s.reports with queue := (s.raise r).reports.queue, dropped := (s.raise r).reports.dropped } } ∧
    s.reports.queue <+: (s.raise r).reports.queue ∧
    (s.reports.queue.length ≤ 16 → (s.raise r).reports.queue.length ≤ 16) := by
  by_cases h : s.reports.queue.length < 16
  · simp [State.raise, State.modReports, Config.reportEntries, h]
  · simp [State.raise, State.modReports, Config.reportEntries, h]

/-- Requesting a mark: it joins the queue, or it is lost if the queue holds 16 or the journal is FAILED (R164). -/
theorem State.requestMark_cases (s : State) (m : Mark) :
    (s.marksClosed = true ∧ s.requestMark m = s) ∨
      (s.reports.marks.length < 16 ∧ s.reports.journal ≠ .failed ∧
        s.requestMark m = { s with reports := { s.reports with marks := s.reports.marks ++ [m] } }) := by
  by_cases h : s.marksClosed
  · exact .inl ⟨h, by simp [State.requestMark, h]⟩
  · refine .inr ?_
    have h' := h
    simp only [State.marksClosed, Bool.or_eq_true, decide_eq_true_eq, not_or, Nat.not_le] at h'
    exact ⟨h'.1, h'.2, by simp [State.requestMark, h, State.modReports]⟩

theorem countUp_le (n : Nat) : n ≤ countUp n ∧ countUp n ≤ max n 65535 := by
  by_cases h : n < 65535 <;> simp [countUp, Config.countMax, h]

/-! ### Bytes -/

@[simp] theorem leBytes_length (k n : Nat) : (leBytes k n).length = k := by
  induction k generalizing n with
  | zero => rfl
  | succ k ih => simp [leBytes, ih]

@[simp] theorem beBytes_length (k n : Nat) : (beBytes k n).length = k := by simp [beBytes]

theorem leNat_lt (bs : List Byte) : leNat bs < 256 ^ bs.length := by
  induction bs with
  | nil => simp [leNat]
  | cons b bs ih =>
    have := b.isLt
    simp only [leNat, List.length_cons, Nat.pow_succ]
    omega

/-- The lowest bytes of a number that fits them read back as the number. -/
theorem leNat_leBytes (k n : Nat) (h : n < 256 ^ k) : leNat (leBytes k n) = n := by
  induction k generalizing n with
  | zero => simp at h; simp [leBytes, leNat, h]
  | succ k ih =>
    have : n / 256 < 256 ^ k := by rw [Nat.pow_succ] at h; omega
    simp only [leBytes, leNat, ih _ this, BitVec.toNat_ofNat]
    omega

theorem field_lt (bytes : List Byte) (off len : Nat) : field bytes off len < 256 ^ len := by
  refine lt_of_lt_of_le (leNat_lt _) ?_
  exact Nat.pow_le_pow_right (by decide) (by simp [List.length_take])

/-! ### Ranges -/

/-- The ranges meet [lo, hi) exactly if an address lies in both. -/
theorem rangesMeet_iff (ranges : List (Nat × Nat)) (lo hi : Nat) :
    rangesMeet ranges lo hi = true ↔ ∃ r ∈ ranges, ∃ p, r.1 ≤ p ∧ p < r.2 ∧ lo ≤ p ∧ p < hi := by
  simp only [rangesMeet, List.any_eq_true, decide_eq_true_eq]
  refine ⟨fun ⟨r, hr, h⟩ => ⟨r, hr, max r.1 lo, by omega⟩, fun ⟨r, hr, p, h⟩ => ⟨r, hr, by omega⟩⟩

@[simp] theorem mem_allWindows (w : Fin 32) : w ∈ allWindows := List.mem_finRange w

@[simp] theorem mem_allViews (v : Fin 8) : v ∈ allViews := List.mem_finRange v

end Sys2Proof.Machine
end

