-- ==== Sys2Proof/Laws/Flags.lean ====
section
/-! SUPPORT. When the arbiter grants a boundary and the bridge polls, what readiness needs, and what settling the claim count and
watching a status byte can do. -/

namespace Sys2Proof.Machine

theorem State.internalTurn_iff (s : State) (waiting : Bool) : s.internalTurn waiting = true ↔ s.turnIsInternal waiting := by
  simp only [State.internalTurn, State.turnIsInternal, Bool.or_eq_true, decide_eq_true_eq, Bool.not_eq_true', or_assoc]
  rfl

theorem State.portFree_iff (s : State) :
    s.portFree = true ↔ s.bridge.portOp = none ∧ s.engine.burstInFlight = false ∧ s.bridge.collected = none := by
  simp [State.portFree, State.internalInFlight, and_assoc]

theorem State.readyHigh_iff (s : State) :
    s.readyHigh = true ↔
      s.part = .running ∧ s.portFree = true ∧ ¬(s.bridge.claim = Config.claimLimit ∧ s.anyReady = true) := by
  simp only [State.readyHigh, Bool.and_eq_true, Bool.not_eq_true', decide_eq_true_eq, and_assoc, Bool.and_eq_false_iff,
    decide_eq_false_iff_not, not_and_or, Bool.not_eq_true]

theorem State.quietPort_iff (s : State) :
    s.quietPort = true ↔ s.bridge.busy = false ∧ s.bridge.pairing = false ∧ s.part ≠ .held := by
  simp [State.quietPort, and_assoc]

/-- Every ready operation needs a flash that is not believed busy, a clear pairing flag and a part that is not held (R15). -/
theorem State.quietPort_of_anyReady (s : State) (h : s.anyReady = true) : s.quietPort = true := by
  by_contra hq
  have hq : s.quietPort = false := by simpa using hq
  have hb : s.burstReady = false := by
    simp only [State.burstReady]
    split <;> simp [hq]
  simp [State.anyReady, State.firstReady, State.markReady, State.reportReady, State.startupReady, State.programsAllowed, hq, hb]
    at h

/-- With the flash believed busy nothing is ready, and the claim count settles at 0 (R15, R16). -/
theorem State.settleClaim_of_busy (s : State) (h : s.bridge.busy = true) :
    s.settleClaim = { s with bridge := { s.bridge with claim := 0 } } := by
  have : s.anyReady = false := by
    by_contra hc
    have := s.quietPort_of_anyReady (by simpa using hc)
    simp [State.quietPort, h] at this
  simp [State.settleClaim, this, State.modBridge]

/-- With the pairing flag set nothing is ready, and the claim count settles at 0 (R16, R17). -/
theorem State.settleClaim_of_pairing (s : State) (h : s.bridge.pairing = true) :
    s.settleClaim = { s with bridge := { s.bridge with claim := 0 } } := by
  have : s.anyReady = false := by
    by_contra hc
    have := s.quietPort_of_anyReady (by simpa using hc)
    simp [State.quietPort, h] at this
  simp [State.settleClaim, this, State.modBridge]

/-- Settling the claim count changes nothing else (R16). -/
theorem State.settleClaim_eq (s : State) :
    s.settleClaim = { s with bridge := { s.bridge with claim := s.settleClaim.bridge.claim } } := by
  by_cases h : s.anyReady <;> simp [State.settleClaim, h, State.modBridge]

/-- A status byte clears a busy record or changes nothing (R13). -/
theorem State.watchStatus_eq (s : State) (byte : Byte) :
    s.watchStatus byte =
      if s.bridge.busy = true ∧ byte.getLsbD 0 = false then
        { s with bridge := { s.bridge with busy := false, owner := .nobody, touched := .each [] } }
      else s := by
  simp only [State.watchStatus, Bool.and_eq_true, Bool.not_eq_true']
  rfl

theorem State.grants_iff (s : State) (k : OpKind) (waiting : Bool) :
    s.grants k waiting = true ↔ s.portFree = true ∧ s.firstReady = some k ∧ s.turnIsInternal waiting := by
  simp [State.grants, and_assoc, State.internalTurn_iff]

/-- A start-up read is first in the order of R18 when it is requested and no mark and no report is ready. -/
theorem State.firstReady_startupRead_iff (s : State) :
    s.firstReady = some .startupRead ↔ s.markReady = false ∧ s.reportReady = false ∧ s.startupReady = true := by
  cases hm : s.markReady <;> cases hr : s.reportReady <;> cases hs : s.startupReady <;> cases hb : s.burstReady <;>
    simp [State.firstReady, hm, hr, hs, hb]

/-- A burst is last in the order of R18. -/
theorem State.firstReady_burst_iff (s : State) :
    s.firstReady = some .burst ↔
      s.markReady = false ∧ s.reportReady = false ∧ s.startupReady = false ∧ s.burstReady = true := by
  cases hm : s.markReady <;> cases hr : s.reportReady <;> cases hs : s.startupReady <;> cases hb : s.burstReady <;>
    simp [State.firstReady, hm, hr, hs, hb]

theorem State.polls_iff (s : State) (waiting : Bool) :
    s.polls waiting = true ↔
      s.portFree = true ∧ s.bridge.busy = true ∧
        ({ s with bridge := { s.bridge with busy := false } } : State).anyReady = true ∧
        (s.part = .starting ∨ waiting = false) := by
  simp [State.polls, and_assoc, State.modBridge]

end Sys2Proof.Machine
end

