-- ==== Sys2Proof/Laws/Tracker.lean ====
section
/-! SUPPORT. What the operations of the Chunk Tracker, the Digest Engine and the Check Scheduler can change at all (ChunkWork,
QueueWork), once for each operation of Machine/Tracker.lean and Machine/Queue.lean, and what the operations on one chunk
do to that chunk, to the others and to the contexts, and which reports end an event. -/

namespace Sys2Proof.Machine

/-! ### What can change at all -/

/-- The blocks that know about chunks did some work, and nothing else happened: chunk records, window flags, good counts and cursors,
contexts, the check queue, and the reports and counters of that work. -/
structure ChunkWork (s t : State) : Prop where
  pending : t.pending = s.pending
  part : t.part = s.part
  cause : t.cause = s.cause
  strapPins : t.strapPins = s.strapPins
  straps : t.straps = s.straps
  bridge : t.bridge = s.bridge
  views : t.views = s.views
  supply : t.supply = s.supply
  parser : t.parser = s.parser
  ports : t.ports = s.ports
  scheduler : t.scheduler = { s.scheduler with queue := t.scheduler.queue }
  reports : t.reports =
    { s.reports with queue := t.reports.queue, dropped := t.reports.dropped, counters := t.reports.counters }
  raised : s.reports.queue <+: t.reports.queue
  outline : ∀ w, (t.win w).body.outline = (s.win w).body.outline
  quiet : ∀ w, (t.win w).quiet = (s.win w).quiet

theorem ChunkWork.refl (s : State) : ChunkWork s s :=
  ⟨rfl, rfl, rfl, rfl, rfl, rfl, rfl, rfl, rfl, rfl, rfl, rfl, List.prefix_rfl, fun _ => rfl, fun _ => rfl⟩

theorem ChunkWork.trans {s t u : State} (h : ChunkWork s t) (k : ChunkWork t u) : ChunkWork s u where
  pending := k.pending.trans h.pending
  part := k.part.trans h.part
  cause := k.cause.trans h.cause
  strapPins := k.strapPins.trans h.strapPins
  straps := k.straps.trans h.straps
  bridge := k.bridge.trans h.bridge
  views := k.views.trans h.views
  supply := k.supply.trans h.supply
  parser := k.parser.trans h.parser
  ports := k.ports.trans h.ports
  scheduler := by rw [k.scheduler, h.scheduler]
  reports := by rw [k.reports, h.reports]
  raised := h.raised.trans k.raised
  outline w := (k.outline w).trans (h.outline w)
  quiet w := (k.quiet w).trans (h.quiet w)

/-- A fold of work is work. -/
theorem ChunkWork.foldl {α : Type} (f : State → α → State) (hf : ∀ s a, ChunkWork s (f s a)) (l : List α) (s : State) :
    ChunkWork s (l.foldl f s) := by
  induction l generalizing s with
  | nil => exact .refl s
  | cons a l ih => exact (hf s a).trans (ih _)

theorem ChunkWork.geom? {s t : State} (h : ChunkWork s t) (w : Fin 32) :
    (t.win w).body.geom? = (s.win w).body.geom? := (WinBody.outline_inj (h.outline w)).1

theorem ChunkWork.isLoaded {s t : State} (h : ChunkWork s t) (w : Fin 32) :
    (t.win w).body.isLoaded = (s.win w).body.isLoaded := (WinBody.outline_inj (h.outline w)).2.1

theorem ChunkWork.count {s t : State} (h : ChunkWork s t) (w : Fin 32) :
    (t.win w).body.count = (s.win w).body.count := (WinBody.outline_inj (h.outline w)).2.2.2.1

theorem ChunkWork.chunkLen {s t : State} (h : ChunkWork s t) (w : Fin 32) (i : Nat) :
    (t.win w).body.chunkLen i = (s.win w).body.chunkLen i := (WinBody.outline_inj (h.outline w)).2.2.2.2 i

theorem ChunkWork.sameOutsideChunks {s t : State} (h : ChunkWork s t) : Machine.sameOutsideChunks s t :=
  ⟨h.pending, h.part, h.cause, h.strapPins, h.straps, h.views, h.supply, h.parser, h.scheduler, h.reports, h.geom?⟩

/-! ### The primitive operations -/

theorem State.modEngine_work (s : State) (f : Engine → Engine) : ChunkWork s (s.modEngine f) :=
  ⟨rfl, rfl, rfl, rfl, rfl, rfl, rfl, rfl, rfl, rfl, rfl, rfl, List.prefix_rfl, fun _ => rfl, fun _ => rfl⟩

theorem State.modChunk_work (s : State) (w : Fin 32) (i : Nat) (f : Chunk → Chunk) : ChunkWork s (s.modChunk w i f) := by
  refine ⟨rfl, rfl, rfl, rfl, rfl, rfl, rfl, rfl, rfl, rfl, rfl, rfl, List.prefix_rfl,
    fun u => State.outline_modChunk s w u i f, fun u => ?_⟩
  simp only [State.modChunk, State.win_modWin]
  split
  · next h => subst h; rfl
  · rfl

/-- A write of window flags that keeps the body and the quiet timer. -/
theorem State.modWin_work (s : State) (w : Fin 32) (f : Window → Window) (hb : ∀ v, (f v).body = v.body)
    (hq : ∀ v, (f v).quiet = v.quiet) : ChunkWork s (s.modWin w f) := by
  refine ⟨rfl, rfl, rfl, rfl, rfl, rfl, rfl, rfl, rfl, rfl, rfl, rfl, List.prefix_rfl, fun u => ?_, fun u => ?_⟩ <;>
    simp only [State.win_modWin] <;> split
  · next h => subst h; rw [hb]
  · rfl
  · next h => subst h; rw [hq]
  · rfl

theorem State.modQueue_work (s : State) (f : List Entry → List Entry) :
    ChunkWork s (s.modScheduler fun c => { c with queue := f c.queue }) :=
  ⟨rfl, rfl, rfl, rfl, rfl, rfl, rfl, rfl, rfl, rfl, rfl, rfl, List.prefix_rfl, fun _ => rfl, fun _ => rfl⟩

theorem State.setQueue_work (s : State) (q : List Entry) : ChunkWork s (s.setQueue q) :=
  ⟨rfl, rfl, rfl, rfl, rfl, rfl, rfl, rfl, rfl, rfl, rfl, rfl, List.prefix_rfl, fun _ => rfl, fun _ => rfl⟩

theorem State.raise_work (s : State) (r : Report) : ChunkWork s (s.raise r) := by
  refine ⟨rfl, rfl, rfl, rfl, rfl, rfl, rfl, rfl, rfl, rfl, rfl, ?_, (State.raise_frame s r).2.1, fun _ => rfl, fun _ => rfl⟩
  by_cases h : s.reports.queue.length < 16
  · rw [(State.raise_reports s r).1 h]
  · rw [(State.raise_reports s r).2 (by omega)]

theorem State.modCounters_work (s : State) (f : Counters → Counters) : ChunkWork s (s.modCounters f) :=
  ⟨rfl, rfl, rfl, rfl, rfl, rfl, rfl, rfl, rfl, rfl, rfl, rfl, List.prefix_rfl, fun _ => rfl, fun _ => rfl⟩

theorem State.setReadback_work (s : State) (x : Option ReadbackCtx) : ChunkWork s (s.setReadback x) := State.modEngine_work _ _

theorem State.freeStream_work (s : State) (k : Fin 3) : ChunkWork s (s.freeStream k) := State.modEngine_work _ _

theorem State.moveStreamToFront_work (s : State) (k : Fin 3) (x : StreamCtx) : ChunkWork s (s.moveStreamToFront k x) :=
  State.modEngine_work _ _

theorem State.unlink_work (s : State) (w : Fin 32) (i : Nat) : ChunkWork s (s.unlink w i) := State.modChunk_work _ _ _ _

/-! ### The operations of Machine/Tracker.lean -/

theorem State.endDigesting_work (s : State) (w : Fin 32) (i : Nat) : ChunkWork s (s.endDigesting w i) := by
  simp only [State.endDigesting]
  split
  · exact (s.freeStream_work _).trans (State.unlink_work _ _ _)
  · exact ((s.setReadback_work _).trans (State.modCounters_work _ _)).trans (State.unlink_work _ _ _)
  · exact .refl s

theorem State.removeEntry_work (s : State) (w : Fin 32) (i : Nat) : ChunkWork s (s.removeEntry w i) := State.modQueue_work _ _

theorem State.moveChunk_work (s : State) (w : Fin 32) (i : Nat) (st : ChunkState) (d : Option Digest) :
    ChunkWork s (s.moveChunk w i st d) := by
  simp only [State.moveChunk]
  split
  · exact .refl s
  · next c _ =>
    have h := (s.modChunk_work w i fun c =>
      { c with state := st, observed := d, queued := c.queued && decide (st = .unchecked) }).trans
        (State.modWin_work _ w (fun v =>
          { v with goodCount := v.goodCount + (if st = .good then 1 else 0) - (if c.state = .good then 1 else 0) })
          (fun _ => rfl) fun _ => rfl)
    split
    · exact h.trans (State.removeEntry_work _ _ _)
    · exact h

theorem State.disturb_work (s : State) (w : Fin 32) (i : Nat) : ChunkWork s (s.disturb w i) :=
  (s.endDigesting_work w i).trans (State.moveChunk_work _ _ _ _ _)

theorem State.setDipTouched_work (s : State) (w : Fin 32) : ChunkWork s (s.setDipTouched w) :=
  State.modWin_work _ _ _ (fun _ => rfl) fun _ => rfl

theorem State.reportImage_work (s : State) (w : Fin 32) (before : Nat) : ChunkWork s (s.reportImage w before) := by
  simp only [State.reportImage]
  split
  · split
    · exact s.raise_work _
    · split
      · exact s.raise_work _
      · exact .refl s
  all_goals exact .refl s

theorem State.completionTest_work (s : State) (w : Fin 32) : ChunkWork s (s.completionTest w) := by
  simp only [State.completionTest]
  split
  · split
    · exact (s.raise_work _).trans (State.modWin_work _ _ _ (fun _ => rfl) fun _ => rfl)
    · exact .refl s
  all_goals exact .refl s

theorem State.closeEvent_work (s : State) (w : Fin 32) (before : Nat) : ChunkWork s (s.closeEvent w before) :=
  (s.reportImage_work w before).trans (State.completionTest_work _ _)

theorem State.verdict_work (s : State) (w : Fin 32) (i : Nat) (d : Digest) (src : Source) :
    ChunkWork s (s.verdict w i d src) := by
  simp only [State.verdict]
  split
  · split
    · exact (s.moveChunk_work _ _ _ _).trans (State.modCounters_work _ _)
    · exact ((s.moveChunk_work _ _ _ _).trans (State.modCounters_work _ _)).trans (State.raise_work _ _)
  · exact s.moveChunk_work _ _ _ _

theorem State.evict_work (s : State) : ChunkWork s s.evict := by
  simp only [State.evict]
  split
  · exact .refl s
  · split
    · exact .refl s
    · next x _ =>
      have h : ∀ k, ChunkWork s (((s.freeStream k).countEviction).unlink x.window x.chunk) := fun k =>
        ((s.freeStream_work k).trans (State.modCounters_work _ _)).trans (State.unlink_work _ _ _)
      split
      · exact h _
      · exact (h _).trans (State.moveChunk_work _ _ _ _ _)

theorem State.finalizeStream_work (s : State) (k : Fin 3) (w : Fin 32) (i : Nat) (run : Running) (src : Source) :
    ChunkWork s (s.finalizeStream k w i run src) :=
  ((s.freeStream_work k).trans (State.unlink_work _ _ _)).trans (State.verdict_work _ _ _ _ _)

theorem State.advanceStream_work (s : State) (k : Fin 3) (x : StreamCtx) (src : Source) :
    ChunkWork s (s.advanceStream k x src) := by
  simp only [State.advanceStream]
  split
  · exact s.finalizeStream_work _ _ _ _ _
  · exact s.moveStreamToFront_work _ _

theorem State.startProgramStream_work (s : State) (w : Fin 32) (i : Nat) (bytes : List Byte) :
    ChunkWork s (s.startProgramStream w i bytes) := by
  have h : ChunkWork s (if s.freeContext.isSome then s else s.evict) := by
    split
    · exact .refl s
    · exact s.evict_work
  simp only [State.startProgramStream]
  split
  · exact h
  · exact ((h.trans (State.modChunk_work _ _ _ _)).trans (State.moveStreamToFront_work _ _ _)).trans
      (State.advanceStream_work _ _ _ _)

theorem State.programChunk_work (s : State) (w : Fin 32) (l : Landing) (data : List Byte) :
    ChunkWork s (s.programChunk w l data) := by
  simp only [State.programChunk]
  split
  · exact .refl s
  · split
    · split
      · exact s.startProgramStream_work _ _ _
      · exact s.disturb_work _ _
    · split
      · split
        · exact s.advanceStream_work _ _ _
        · exact s.disturb_work _ _
      · exact s.disturb_work _ _
    all_goals exact s.disturb_work _ _

theorem State.programEvent_work (s : State) (w : Fin 32) (l : Landing) (data : List Byte) :
    ChunkWork s (s.programEvent w l data) := by
  simp only [State.programEvent]
  split
  · exact (s.programChunk_work w l data).trans (State.closeEvent_work _ _ _)
  · exact ((s.disturb_work _ _).trans (State.setDipTouched_work _ _)).trans (State.closeEvent_work _ _ _)

theorem State.eraseFully_work (s : State) (w : Fin 32) (i : Nat) : ChunkWork s (s.eraseFully w i) := by
  have h := s.endDigesting_work w i
  simp only [State.eraseFully]
  split
  · split
    · exact h.trans (State.moveChunk_work _ _ _ _ _)
    · exact h.trans (State.moveChunk_work _ _ _ _ _)
  all_goals exact h.trans (State.moveChunk_work _ _ _ _ _)

theorem State.eraseChunk_work (w : Fin 32) (cover : Nat × Nat) (s : State) (i : Nat) :
    ChunkWork s (s.eraseChunk w cover i) := by
  simp only [State.eraseChunk]
  split
  · split
    · split
      · exact s.eraseFully_work _ _
      · exact s.disturb_work _ _
    · exact (s.disturb_work _ _).trans (State.setDipTouched_work _ _)
  · exact .refl s

theorem State.eraseWindow_work (cover : Nat × Nat) (s : State) (w : Fin 32) : ChunkWork s (s.eraseWindow cover w) := by
  simp only [State.eraseWindow]
  split
  · exact (ChunkWork.foldl _ (State.eraseChunk_work w cover) _ s).trans (State.closeEvent_work _ _ _)
  · exact .refl s

theorem dipChunk_work (w : Fin 32) (ranges : List (Nat × Nat)) (m : DipMark) (i : Nat) :
    ChunkWork m.st (dipChunk w ranges m i).st := by
  simp only [dipChunk]
  split
  · exact (State.disturb_work _ _ _).trans (State.setDipTouched_work _ _)
  · exact .refl _

theorem dipWindow_work (ranges : List (Nat × Nat)) (m : DipMark) (w : Fin 32) :
    ChunkWork m.st (dipWindow ranges m w).st := by
  have fold : ∀ (l : List Nat) (m : DipMark), ChunkWork m.st (l.foldl (dipChunk w ranges) m).st := by
    intro l
    induction l with
    | nil => exact fun m => .refl _
    | cons i l ih => exact fun m => (dipChunk_work w ranges m i).trans (ih _)
  simp only [dipWindow]
  split
  · exact (fold _ m).trans (State.closeEvent_work _ _ _)
  · exact .refl _

theorem State.dipMark_work (s : State) (ranges : List (Nat × Nat)) : ChunkWork s (s.dipMark ranges).st := by
  have fold : ∀ (l : List (Fin 32)) (m : DipMark), ChunkWork m.st (l.foldl (dipWindow ranges) m).st := by
    intro l
    induction l with
    | nil => exact fun m => .refl _
    | cons w l ih => exact fun m => (dipWindow_work ranges m w).trans (ih _)
  exact fold allWindows { st := s, marked := 0, windows := 0 }

/-! ### What an operation does to one chunk -/

/-- Behind a move the chunk is in its new state with the observed digest given, and keeps its expected digest and its link; every
other chunk record is as it was, and so are the contexts (R71, R89). -/
theorem State.moveChunk_spec (s : State) (w : Fin 32) (i : Nat) (st : ChunkState) (d : Option Digest) (c : Chunk)
    (hc : s.chunk? w i = some c) :
    (s.moveChunk w i st d).chunk? w i =
        some { c with state := st, observed := d, queued := c.queued && decide (st = .unchecked) } ∧
      (∀ u j, (u, j) ≠ (w, i) → (s.moveChunk w i st d).chunk? u j = s.chunk? u j) ∧
      (s.moveChunk w i st d).engine = s.engine ∧ (s.moveChunk w i st d).reports = s.reports ∧
      ((s.moveChunk w i st d).win w).goodCount =
        (s.win w).goodCount + (if st = .good then 1 else 0) - (if c.state = .good then 1 else 0) := by
  have body : ∀ (t : State) (g : Window → Nat) (u : Fin 32) (j : Nat),
      (t.modWin w fun v => { v with goodCount := g v }).chunk? u j = t.chunk? u j :=
    fun t g u j => State.chunk?_modWin_body t w _ rfl u j
  simp only [State.moveChunk, hc]
  split <;>
  · refine ⟨?_, fun u j h => ?_, rfl, rfl, ?_⟩
    · simp [State.removeEntry, body, hc]
    · have : ¬(w = u ∧ i = j) := fun e => h (by rw [e.1, e.2])
      simp [State.removeEntry, body, this]
    · simp [State.removeEntry, State.modChunk]

/-- A chunk that does not exist is not moved. -/
theorem State.moveChunk_none (s : State) (w : Fin 32) (i : Nat) (st : ChunkState) (d : Option Digest)
    (hc : s.chunk? w i = none) : s.moveChunk w i st d = s := by simp [State.moveChunk, hc]

/-- Freeing a stream context changes nothing but that context and its place in the recency list (R97, R99). -/
theorem State.freeStream_spec (s : State) (k : Fin 3) :
    (∀ j, (s.freeStream k).stream j = if j = k then none else s.stream j) ∧
      (s.freeStream k).engine.recency = s.engine.recency.filter (· ≠ k) ∧
      (s.freeStream k).engine.readback = s.engine.readback ∧
      (∀ u i, (s.freeStream k).chunk? u i = s.chunk? u i) ∧ (s.freeStream k).reports = s.reports := by
  refine ⟨fun j => ?_, rfl, rfl, fun _ _ => rfl, rfl⟩
  show (s.engine.streams.set k none).get j = _
  rw [Vector.get_set_fin]
  by_cases h : j = k <;> simp [h, Ne.symm, State.stream]

/-- Ending what digests a chunk: the chunk names no context, the context it named is FREE, an aborted read-back is counted, and every
other chunk record and context is as it was (R70, R104, R114). -/
theorem State.endDigesting_spec (s : State) (w : Fin 32) (i : Nat) (c : Chunk) (hc : s.chunk? w i = some c) :
    (s.endDigesting w i).chunk? w i = some { c with link := none } ∧
      (∀ u j, (u, j) ≠ (w, i) → (s.endDigesting w i).chunk? u j = s.chunk? u j) ∧
      (∀ k, (s.endDigesting w i).stream k = if c.link = some (.stream k) then none else s.stream k) ∧
      (s.endDigesting w i).engine.readback =
        (if c.link = some .readback then none else s.engine.readback) ∧
      (s.endDigesting w i).reports.counters =
        (if c.link = some .readback then
          { s.reports.counters with readbackAborts := countUp s.reports.counters.readbackAborts }
        else s.reports.counters) ∧
      ∀ u, ((s.endDigesting w i).win u).goodCount = (s.win u).goodCount := by
  have other : ∀ (t : State) (u : Fin 32) (j : Nat), (u, j) ≠ (w, i) → (t.unlink w i).chunk? u j = t.chunk? u j := by
    intro t u j h
    have : ¬(w = u ∧ i = j) := fun e => h (by rw [e.1, e.2])
    simp [State.unlink, this]
  have good : ∀ (t : State) (u : Fin 32), ((t.unlink w i).win u).goodCount = (t.win u).goodCount := by
    intro t u
    simp only [State.unlink, State.modChunk, State.win_modWin]
    split
    · next h => subst h; rfl
    · rfl
  have hit : ∀ t : State, t.chunk? w i = some c → (t.unlink w i).chunk? w i = some { c with link := none } := by
    intro t h
    simp [State.unlink, h]
  rcases hl : c.link with _ | (k | _)
  · have e : s.endDigesting w i = s := by simp [State.endDigesting, hc, hl]
    rw [e]
    exact ⟨by rw [hc]; cases c; simp_all, fun _ _ _ => rfl, fun _ => by simp, by simp, by simp, fun _ => rfl⟩
  · have e : s.endDigesting w i = (s.freeStream k).unlink w i := by simp [State.endDigesting, hc, hl]
    have f := s.freeStream_spec k
    rw [e]
    refine ⟨hit _ ((f.2.2.2.1 w i).trans hc), fun u j h => (other _ u j h).trans (f.2.2.2.1 u j), fun j => ?_,
      by rw [if_neg (by simp)]; rfl, by rw [if_neg (by simp)]; rfl, fun u => good _ u⟩
    rw [show ((s.freeStream k).unlink w i).stream j = (s.freeStream k).stream j from rfl, f.1 j]
    by_cases h : j = k
    · simp [h]
    · simp [h, Ne.symm h]
  · have e : s.endDigesting w i = ((s.setReadback none).countAbort).unlink w i := by simp [State.endDigesting, hc, hl]
    rw [e]
    exact ⟨hit _ hc, fun u j h => other _ u j h, fun _ => by simp [State.unlink, State.countAbort]; rfl,
      by simp [State.unlink, State.countAbort], by simp [State.unlink, State.countAbort], fun u => good _ u⟩

/-- A disturbed chunk is UNCHECKED, knows no observed digest and is linked to nothing; every other chunk record and context is as it
was (R70, R76 to R79, R81, R88). -/
theorem State.disturb_spec (s : State) (w : Fin 32) (i : Nat) (c : Chunk) (hc : s.chunk? w i = some c) :
    (s.disturb w i).chunk? w i =
        some { c with state := .unchecked, observed := none, queued := c.queued, link := none } ∧
      (∀ u j, (u, j) ≠ (w, i) → (s.disturb w i).chunk? u j = s.chunk? u j) ∧
      (∀ k, (s.disturb w i).stream k = if c.link = some (.stream k) then none else s.stream k) ∧
      (s.disturb w i).engine.readback = (if c.link = some .readback then none else s.engine.readback) ∧
      (s.disturb w i).reports.counters =
        (if c.link = some .readback then
          { s.reports.counters with readbackAborts := countUp s.reports.counters.readbackAborts }
        else s.reports.counters) ∧
      ((s.disturb w i).win w).goodCount = (s.win w).goodCount - (if c.state = .good then 1 else 0) := by
  have e := s.endDigesting_spec w i c hc
  have m := (s.endDigesting w i).moveChunk_spec w i .unchecked none _ e.1
  refine ⟨?_, fun u j h => (m.2.1 u j h).trans (e.2.1 u j h), fun k => ?_, ?_, ?_, ?_⟩
  · rw [State.disturb, m.1]; simp
  · rw [show (s.disturb w i).stream k = (s.endDigesting w i).stream k by
      rw [State.disturb, State.stream, m.2.2.1]; rfl, e.2.2.1]
  · rw [State.disturb, m.2.2.1, e.2.2.2.1]
  · rw [State.disturb, m.2.2.2.1, e.2.2.2.2.1]
  · rw [State.disturb, m.2.2.2.2, e.2.2.2.2.2]; simp

/-- Closing an event raises reports and clears check-report-wanted; chunk records, contexts, counters and good counts stand
(R72, R90, R123). -/
theorem State.closeEvent_spec (s : State) (w : Fin 32) (before : Nat) :
    (∀ u j, (s.closeEvent w before).chunk? u j = s.chunk? u j) ∧ (s.closeEvent w before).engine = s.engine ∧
      (s.closeEvent w before).reports.counters = s.reports.counters ∧
      (s.closeEvent w before).scheduler = s.scheduler ∧
      ∀ u, ((s.closeEvent w before).win u).goodCount = (s.win u).goodCount ∧
        ((s.closeEvent w before).win u).dipTouched = (s.win u).dipTouched ∧
        ((s.closeEvent w before).win u).checkWanted = (s.win u).checkWanted := by
  have image : (∃ r, s.reportImage w before = s.raise r) ∨ s.reportImage w before = s := by
    simp only [State.reportImage]
    split
    · split
      · exact .inl ⟨_, rfl⟩
      · split
        · exact .inl ⟨_, rfl⟩
        · exact .inr rfl
    all_goals exact .inr rfl
  have test : ∀ t : State, (∃ r, t.completionTest w =
      (t.raise r).modWin w fun v => { v with checkReportWanted := false }) ∨ t.completionTest w = t := by
    intro t
    simp only [State.completionTest]
    split
    · split
      · exact .inl ⟨_, rfl⟩
      · exact .inr rfl
    all_goals exact .inr rfl
  have body : ∀ (t : State) (u : Fin 32) (j : Nat),
      (t.modWin w fun v => { v with checkReportWanted := false }).chunk? u j = t.chunk? u j :=
    fun t u j => State.chunk?_modWin_body t w _ rfl u j
  have flags : ∀ (t : State) (u : Fin 32),
      ((t.modWin w fun v => { v with checkReportWanted := false }).win u).goodCount = (t.win u).goodCount ∧
      ((t.modWin w fun v => { v with checkReportWanted := false }).win u).dipTouched = (t.win u).dipTouched ∧
      ((t.modWin w fun v => { v with checkReportWanted := false }).win u).checkWanted = (t.win u).checkWanted := by
    intro t u
    simp only [State.win_modWin]
    split
    · next h => subst h; exact ⟨rfl, rfl, rfl⟩
    · exact ⟨rfl, rfl, rfl⟩
  simp only [State.closeEvent]
  rcases image with ⟨r, e⟩ | e <;> rw [e] <;> rcases test _ with ⟨q, f⟩ | f <;> rw [f]
  · exact ⟨fun u j => (body _ u j), rfl, by simp, rfl, fun u => flags _ u⟩
  · exact ⟨fun _ _ => rfl, rfl, by simp, rfl, fun _ => ⟨rfl, rfl, rfl⟩⟩
  · exact ⟨fun u j => (body _ u j), rfl, by simp, rfl, fun u => flags _ u⟩
  · exact ⟨fun _ _ => rfl, rfl, rfl, rfl, fun _ => ⟨rfl, rfl, rfl⟩⟩

/-! ### The reports of an event (R72) -/

theorem reported_nil (s : State) : reported s s [] := by simp [reported]

theorem State.raise_reported (s : State) (r : Report) : reported s (s.raise r) [r] := by
  obtain h | h := Nat.lt_or_ge s.reports.queue.length 16
  · rw [reported, (s.raise_reports r).1 h]
    have : 1 ≤ 16 - s.reports.queue.length := by omega
    exact ⟨by rw [List.take_of_length_le this], by simp; omega⟩
  · rw [reported, (s.raise_reports r).2 h]
    have : 16 - s.reports.queue.length = 0 := by omega
    simp [this]

/-- Reports raised one batch after the other are the reports of both. -/
theorem reported.trans {s t u : State} {a b : List Report} (h : reported s t a) (k : reported t u b) :
    reported s u (a ++ b) := by
  obtain ⟨hq, hd⟩ := h
  obtain ⟨kq, kd⟩ := k
  have room : 16 - t.reports.queue.length = 16 - s.reports.queue.length - a.length := by
    rw [hq, List.length_append, List.length_take]; omega
  refine ⟨by rw [kq, room, hq, List.take_append, List.append_assoc], ?_⟩
  rw [kd, room, hd, List.length_append, Bool.or_assoc]
  congr 1
  rw [Bool.eq_iff_iff]
  simp only [Bool.or_eq_true, decide_eq_true_eq]
  omega

/-- An operation that leaves the Report Writer alone in front of reports, or behind them. -/
theorem reported.of_reports_eq {s t : State} (h : t.reports.queue = s.reports.queue) (k : t.reports.dropped = s.reports.dropped) :
    reported s t [] := by simp [reported, h, k]

theorem settledChunks_eq (chunks : List Chunk) :
    settledChunks chunks = chunks.all fun x => decide (x.state ∉ [ChunkState.unchecked, .checking, .filling]) := by
  simp [settledChunks]

@[simp] theorem State.reportImage_win (s : State) (w u : Fin 32) (n : Nat) : (s.reportImage w n).win u = s.win u := by
  unfold State.reportImage
  cases (s.win w).body <;> grind [State.raise_win]

/-- The reports of a LOADED window's closing, with its catalogue. -/
theorem closingReports_loaded {s t : State} {w : Fin 32} {g : Geometry} {c : Catalogue} {e : ErasedDigests}
    (hb : (t.win w).body = .loaded g c e) :
    checkDoneDue s t w = ((s.win w).checkReportWanted && settledChunks c.chunks) ∧
      closingReports s t w =
        (if (s.win w).goodCount < c.chunks.length ∧ (t.win w).goodCount = c.chunks.length then
          [.image w false c.target c.version c.chunks.length (t.win w).goodCount]
        else if (s.win w).goodCount = c.chunks.length ∧ (t.win w).goodCount < c.chunks.length then
          [.image w true c.target c.version c.chunks.length (t.win w).goodCount]
        else []) ++
          if checkDoneDue s t w then
            [.checkDone w c.chunks.length (countState c.chunks .good) (countState c.chunks .bad)
              (countState c.chunks .erased)]
          else [] := by
  constructor
  · simp only [checkDoneDue, hb, settledChunks_eq]
  · simp only [closingReports, hb, countState]

theorem State.reportImage_reported {t : State} {w : Fin 32} {g : Geometry} {c : Catalogue} {e : ErasedDigests} (n : Nat)
    (hb : (t.win w).body = .loaded g c e) :
    reported t (t.reportImage w n)
      (if n < c.chunks.length ∧ (t.win w).goodCount = c.chunks.length then
        [.image w false c.target c.version c.chunks.length (t.win w).goodCount]
      else if n = c.chunks.length ∧ (t.win w).goodCount < c.chunks.length then
        [.image w true c.target c.version c.chunks.length (t.win w).goodCount]
      else []) := by
  simp only [State.reportImage, hb]
  split
  · exact t.raise_reported _
  split
  · exact t.raise_reported _
  · exact reported_nil t

/-- What ends an event on the chunks of a window raises its closing reports and no other, and clears its check-report-wanted flag if
CHECK_DONE is among them (R72, R90, R123). `s` is the state before the event. -/
theorem State.closeEvent_reported (s t : State) (w : Fin 32) (h : (t.win w).checkReportWanted = (s.win w).checkReportWanted) :
    let u := t.closeEvent w (s.win w).goodCount
    reported t u (closingReports s u w) ∧
      ∀ v, u.win v =
        { t.win v with checkReportWanted := (t.win v).checkReportWanted && !(decide (v = w) && checkDoneDue s u w) } := by
  intro u
  by_cases hl : ∃ g c e, (t.win w).body = .loaded g c e
  · obtain ⟨g, c, e, hb⟩ := hl
    have image := t.reportImage_reported (s.win w).goodCount hb
    have closing : u = (t.reportImage w (s.win w).goodCount).completionTest w := rfl
    simp only [State.completionTest, State.reportImage_win, hb, h] at closing
    split at closing
    · rename_i due
      have wins : ∀ v, u.win v = if w = v then { t.win w with checkReportWanted := false } else t.win v := by
        simp [closing]
      obtain ⟨hd, hr⟩ := closingReports_loaded (s := s) (t := u) (w := w) (g := g) (c := c) (e := e) (by simp [wins, hb])
      refine ⟨?_, fun v => ?_⟩
      · rw [hr, hd, if_pos due]
        have : (u.win w).goodCount = (t.win w).goodCount := by simp [wins]
        rw [this]
        have step := (t.reportImage w (s.win w).goodCount).raise_reported
          (.checkDone w c.chunks.length (countState c.chunks .good) (countState c.chunks .bad) (countState c.chunks .erased))
        have all := image.trans step
        rw [closing]
        exact all
      · rw [wins, hd, due]
        by_cases hv : v = w
        · subst hv; simp
        · simp [hv, Ne.symm hv]
    · rename_i due
      have wins : ∀ v, u.win v = t.win v := by simp [closing]
      obtain ⟨hd, hr⟩ := closingReports_loaded (s := s) (t := u) (w := w) (g := g) (c := c) (e := e) (by simp [wins, hb])
      refine ⟨?_, fun v => ?_⟩
      · rw [hr, hd, if_neg due, wins, List.append_nil, closing]
        exact image
      · rw [wins, hd, Bool.eq_false_of_not_eq_true due]
        simp
  · have image : t.reportImage w (s.win w).goodCount = t := by
      unfold State.reportImage
      cases hb : (t.win w).body <;> simp_all
    have same : u = t := by
      show (t.reportImage w (s.win w).goodCount).completionTest w = t
      rw [image]
      unfold State.completionTest
      cases hb : (t.win w).body <;> simp_all
    have idle : closingReports s t w = [] ∧ checkDoneDue s t w = false := by
      constructor
      · unfold closingReports
        cases hb : (t.win w).body <;> simp_all
      · unfold checkDoneDue
        cases hb : (t.win w).body <;> simp_all
    rw [same, idle.1, idle.2]
    exact ⟨reported_nil t, fun v => by simp⟩
end Sys2Proof.Machine
end

