-- ==== Sys2Proof/Laws/Queue.lean ====
section
/-! SUPPORT. What the operations of the check queue can change at all (QueueWork): the queue, queued fields, check-wanted flags and
cursors. Once for each operation of Machine/Queue.lean that adds to the queue, the refill among them; and which entries a CHECK adds. -/

namespace Sys2Proof.Machine

/-- The check queue was worked on, and nothing else happened. -/
structure QueueWork (s t : State) : Prop where
  chunks : ChunkWork s t
  engine : t.engine = s.engine
  reports : t.reports = s.reports
  known : ∀ w i, sameChunk s t w i
  flags : ∀ w, t.win w =
    { s.win w with body := (t.win w).body, checkWanted := (t.win w).checkWanted, cursor := (t.win w).cursor }

theorem QueueWork.refl (s : State) : QueueWork s s := ⟨.refl s, rfl, rfl, fun _ _ => rfl, fun _ => rfl⟩

theorem QueueWork.trans {s t u : State} (h : QueueWork s t) (k : QueueWork t u) : QueueWork s u where
  chunks := h.chunks.trans k.chunks
  engine := k.engine.trans h.engine
  reports := k.reports.trans h.reports
  known w i := (k.known w i).trans (h.known w i)
  flags w := by rw [k.flags w, h.flags w]

/-- A fold of queue work is queue work. -/
theorem QueueWork.foldl {α : Type} (f : State → α → State) (hf : ∀ s a, QueueWork s (f s a)) (l : List α) (s : State) :
    QueueWork s (l.foldl f s) := by
  induction l generalizing s with
  | nil => exact .refl s
  | cons a l ih => exact (hf s a).trans (ih _)

/-! ### The operations -/

theorem State.setQueue_queueWork (s : State) (q : List Entry) : QueueWork s (s.setQueue q) :=
  ⟨s.setQueue_work q, rfl, rfl, fun _ _ => rfl, fun _ => rfl⟩

theorem State.setQueued_queueWork (s : State) (w : Fin 32) (i : Nat) (q : Bool) : QueueWork s (s.setQueued w i q) := by
  refine ⟨s.modChunk_work w i _, rfl, rfl, fun u j => ?_, fun u => ?_⟩
  · simp only [sameChunk, State.setQueued, State.chunk?_modChunk]
    split
    · cases s.chunk? u j <;> rfl
    · rfl
  · simp only [State.setQueued, State.modChunk, State.win_modWin]
    split
    · next h => subst h; rfl
    · rfl

/-- A write of check-wanted and the cursor of one window. -/
theorem State.modWanted_queueWork (s : State) (w : Fin 32) (f : Window → Window)
    (hf : ∀ v, f v = { v with checkWanted := (f v).checkWanted, cursor := (f v).cursor }) : QueueWork s (s.modWin w f) := by
  have hb : ∀ v, (f v).body = v.body := fun v => by rw [hf v]
  refine ⟨s.modWin_work w f hb fun v => by rw [hf v], rfl, rfl, fun u j => ?_, fun u => ?_⟩
  · exact congrArg _ (State.chunk?_modWin_body s w f (hb _) u j)
  · simp only [State.win_modWin]
    split
    · next h => subst h; rw [hf]
    · rfl

theorem State.setCheckWanted_queueWork (s : State) (w : Fin 32) : QueueWork s (s.setCheckWanted w) :=
  s.modWanted_queueWork w _ fun _ => rfl

theorem State.addNormal_queueWork (s : State) (w : Fin 32) (i : Nat) : QueueWork s (s.addNormal w i) :=
  (s.setQueue_queueWork _).trans (State.setQueued_queueWork _ _ _ _)

theorem State.addUrgent_queueWork (s : State) (w : Fin 32) (i : Nat) : QueueWork s (s.addUrgent w i) :=
  (s.setQueue_queueWork _).trans (State.setQueued_queueWork _ _ _ _)

theorem State.displace_queueWork (s : State) (e : Entry) : QueueWork s (s.displace e) :=
  ((s.setQueue_queueWork _).trans (State.setQueued_queueWork _ _ _ _)).trans (State.setCheckWanted_queueWork _ _)

theorem State.passWindow_queueWork (w : Fin 32) (fuel : Nat) (added : Bool) (s : State) :
    QueueWork s (s.passWindow w fuel added) := by
  induction fuel generalizing added s with
  | zero =>
    simp only [State.passWindow]
    split
    · exact .refl s
    · exact s.modWanted_queueWork w _ fun _ => rfl
  | succ fuel ih =>
    simp only [State.passWindow]
    split
    · exact .refl s
    · split
      · exact ((s.addNormal_queueWork _ _).trans (State.modWanted_queueWork _ w _ fun _ => rfl)).trans (ih _ _)
      · exact (s.modWanted_queueWork w _ fun _ => rfl).trans (ih _ _)

theorem State.refillWindow_queueWork (s : State) (w : Fin 32) : QueueWork s (s.refillWindow w) := by
  simp only [State.refillWindow]
  split
  · exact State.passWindow_queueWork _ _ _ _
  · exact .refl s

/-- A refill works on the check queue and on nothing else (R121). -/
theorem State.refill_queueWork (s : State) : QueueWork s s.refill :=
  (QueueWork.foldl _ State.refillWindow_queueWork allWindows s).trans
    (QueueWork.foldl _ State.refillWindow_queueWork allWindows _)

theorem State.checkChunk_queueWork (w : Fin 32) (urgent : Bool) (s : State) (i : Nat) :
    QueueWork s (s.checkChunk w urgent i) := by
  simp only [State.checkChunk]
  split
  · split
    · split
      · split
        · split
          · exact s.setCheckWanted_queueWork _
          · exact (s.displace_queueWork _).trans (State.addUrgent_queueWork _ _ _)
        · exact .refl s
      · exact s.addUrgent_queueWork _ _
    · split
      · exact s.setCheckWanted_queueWork _
      · exact s.addNormal_queueWork _ _
  · exact .refl s

/-- An entry behind an add of CHECK stood in the queue before it, or is the add's own, with its class (R117, R118, R122). -/
theorem State.mem_queue_of_checkChunk (w : Fin 32) (urgent : Bool) (s : State) (i : Nat) (e : Entry)
    (h : e ∈ (s.checkChunk w urgent i).scheduler.queue) : e ∈ s.scheduler.queue ∨ e = { window := w, chunk := i, urgent } := by
  have placed : ∀ q : List Entry, e ∈ placeUrgent { window := w, chunk := i, urgent := true } q →
      e ∈ q ∨ e = { window := w, chunk := i, urgent := true } := by
    intro q hq
    rcases List.mem_append.mp hq with hq | hq
    · exact .inl ((List.takeWhile_sublist _).mem hq)
    · exact (List.mem_cons.mp hq).elim .inr fun hq => .inl ((List.dropWhile_sublist _).mem hq)
  simp only [State.checkChunk] at h
  split at h
  · split at h <;> rename_i hu
    · rw [hu]
      split at h
      · split at h
        · split at h
          · exact .inl h
          · exact (placed _ h).imp_left fun hq => List.mem_of_mem_dropLast hq
        · exact .inl h
      · exact placed _ h
    · rw [show urgent = false by simpa using hu]
      split at h
      · exact .inl h
      · exact (List.mem_append.mp h).imp_right List.mem_singleton.mp
  · exact .inl h

/-- An entry behind all the adds of a CHECK record stood in the queue before them, or names the record's window with the record's
class (R122). -/
theorem State.mem_queue_of_checkChunks (w : Fin 32) (urgent : Bool) (l : List Nat) (s : State) (e : Entry)
    (h : e ∈ (l.foldl (State.checkChunk w urgent) s).scheduler.queue) :
    e ∈ s.scheduler.queue ∨ (e.window = w ∧ e.urgent = urgent) := by
  induction l generalizing s with
  | nil => exact .inl h
  | cons i l ih =>
    rcases ih _ h with h | h
    · exact (State.mem_queue_of_checkChunk w urgent s i e h).imp_right fun h => by simp [h]
    · exact .inr h

/-! ### What a refill keeps of the queue -/

theorem State.refill_eq (s : State) : s.refill = s.sweep.sweep := State.refill.eq_1 s

theorem State.passWindow_prefix (w : Fin 32) (fuel : Nat) (added : Bool) (s : State) :
    s.scheduler.queue <+: (s.passWindow w fuel added).scheduler.queue := by
  induction fuel generalizing added s with
  | zero =>
    simp only [State.passWindow]
    split <;> exact List.prefix_rfl
  | succ fuel ih =>
    simp only [State.passWindow]
    split
    · exact List.prefix_rfl
    · split
      · refine List.IsPrefix.trans ?_ (ih _ _)
        exact List.prefix_append s.scheduler.queue [{ window := w, chunk := (s.win w).cursor, urgent := false }]
      · refine List.IsPrefix.trans ?_ (ih _ _)
        exact List.prefix_rfl

theorem State.sweep_prefix (s : State) : s.scheduler.queue <+: s.sweep.scheduler.queue := by
  have fold : ∀ (l : List (Fin 32)) (s : State),
      s.scheduler.queue <+: (l.foldl State.refillWindow s).scheduler.queue := by
    intro l
    induction l with
    | nil => exact fun s => List.prefix_rfl
    | cons w l ih =>
      intro s
      refine List.IsPrefix.trans ?_ (ih _)
      simp only [State.refillWindow]
      split
      · exact State.passWindow_prefix _ _ _ _
      · exact List.prefix_rfl
  unfold State.sweep
  exact fold _ _

/-- What stands in the queue keeps its place ahead of what a refill adds (R121). -/
theorem State.refill_prefix (s : State) : s.scheduler.queue <+: s.refill.scheduler.queue := by
  rw [State.refill_eq]
  exact (State.sweep_prefix s).trans (State.sweep_prefix s.sweep)

/-- With nothing wanted a refill does nothing. -/
theorem State.refill_of_noRefill (s : State) (h : s.noRefill) : s.refill = s := by
  have one : ∀ w, s.refillWindow w = s := by
    intro w
    simp only [State.refillWindow]
    by_cases hl : (s.win w).body.isLoaded
    · simp [h w hl]
    · simp [hl]
  have fold : ∀ l : List (Fin 32), l.foldl State.refillWindow s = s := by
    intro l
    induction l with
    | nil => rfl
    | cons w l ih => simp [one w, ih]
  have sweep : s.sweep = s := fold allWindows
  rw [State.refill_eq, sweep, sweep]

end Sys2Proof.Machine
end

