-- ==== Sys2Proof/Laws/Records.lean ====
section
/-! SUPPORT. What a record of the command area can change at all (RecordWork), once for each owner's operation, and once for the ruling
on a record, whatever its kind. -/

namespace Sys2Proof.Machine

/-- A record was handled, and nothing outside the blocks of its owners happened: the part, its straps and ports, the parser, the flash-busy
record and all of the bridge but the class table, the supply but the latch, the clock, the journal and the write index stand. -/
structure RecordWork (s t : State) : Prop where
  pending : t.pending = s.pending
  part : t.part = s.part
  cause : t.cause = s.cause
  strapPins : t.strapPins = s.strapPins
  straps : t.straps = s.straps
  ports : t.ports = s.ports
  parser : t.parser = s.parser
  bridge : t.bridge = { s.bridge with classes := t.bridge.classes }
  supply : t.supply = { s.supply with latch := t.supply.latch }
  ms : t.scheduler.ms = s.scheduler.ms
  journal : t.reports.journal = s.reports.journal
  index : t.reports.index = s.reports.index
  scanSlot : t.reports.scanSlot = s.reports.scanSlot

theorem RecordWork.refl (s : State) : RecordWork s s := ⟨rfl, rfl, rfl, rfl, rfl, rfl, rfl, rfl, rfl, rfl, rfl, rfl, rfl⟩

theorem RecordWork.trans {s t u : State} (h : RecordWork s t) (k : RecordWork t u) : RecordWork s u where
  pending := k.pending.trans h.pending
  part := k.part.trans h.part
  cause := k.cause.trans h.cause
  strapPins := k.strapPins.trans h.strapPins
  straps := k.straps.trans h.straps
  ports := k.ports.trans h.ports
  parser := k.parser.trans h.parser
  bridge := by rw [k.bridge, h.bridge]
  supply := by rw [k.supply, h.supply]
  ms := k.ms.trans h.ms
  journal := k.journal.trans h.journal
  index := k.index.trans h.index
  scanSlot := k.scanSlot.trans h.scanSlot

theorem RecordWork.foldl {α : Type} (f : State → α → State) (hf : ∀ s a, RecordWork s (f s a)) (l : List α) (s : State) :
    RecordWork s (l.foldl f s) := by
  induction l generalizing s with
  | nil => exact .refl s
  | cons a l ih => exact (hf s a).trans (ih _)

/-- Work of the blocks that know about chunks is within what a record may do. -/
theorem ChunkWork.record {s t : State} (h : ChunkWork s t) : RecordWork s t where
  pending := h.pending
  part := h.part
  cause := h.cause
  strapPins := h.strapPins
  straps := h.straps
  ports := h.ports
  parser := h.parser
  bridge := by rw [h.bridge]
  supply := by rw [h.supply]
  ms := by rw [h.scheduler]
  journal := by rw [h.reports]
  index := by rw [h.reports]
  scanSlot := by rw [h.reports]

/-! ### Primitive operations -/

theorem State.raise_record (s : State) (r : Report) : RecordWork s (s.raise r) := (s.raise_work r).record

theorem State.setWin_record (s : State) (w : Fin 32) (v : Window) : RecordWork s (s.setWin w v) :=
  ⟨rfl, rfl, rfl, rfl, rfl, rfl, rfl, rfl, rfl, rfl, rfl, rfl, rfl⟩

theorem State.modWin_record (s : State) (w : Fin 32) (f : Window → Window) : RecordWork s (s.modWin w f) := s.setWin_record _ _

theorem State.setView_record (s : State) (v : Fin 8) (x : Option View) : RecordWork s (s.setView v x) :=
  ⟨rfl, rfl, rfl, rfl, rfl, rfl, rfl, rfl, rfl, rfl, rfl, rfl, rfl⟩

theorem State.modCounters_record (s : State) (f : Counters → Counters) : RecordWork s (s.modCounters f) :=
  (s.modCounters_work f).record

theorem State.requestMark_record (s : State) (m : Mark) : RecordWork s (s.requestMark m) := by
  rcases s.requestMark_cases m with ⟨_, e⟩ | ⟨_, _, e⟩ <;> rw [e]
  · exact .refl s
  · exact ⟨rfl, rfl, rfl, rfl, rfl, rfl, rfl, rfl, rfl, rfl, rfl, rfl, rfl⟩

theorem State.markCommit_record (s : State) (pc : PendingCommit) (k : MarkKind) : RecordWork s (s.markCommit pc k) := by
  simp only [State.markCommit]
  split
  · exact s.requestMark_record _
  · exact .refl s

/-! ### Views and commits -/

theorem State.dropPending_record (s : State) (v : Fin 8) (view : View) (pc : PendingCommit) (r : Reason) :
    RecordWork s (s.dropPending v view pc r) := by
  simp only [State.dropPending, State.raiseCommit]
  exact ((s.setView_record v _).trans (State.markCommit_record _ _ _)).trans (State.raise_record _ _)

theorem State.release_record (s : State) (v : Fin 8) (view : View) : RecordWork s (s.release v view) := by
  simp only [State.release]
  split
  · exact s.setView_record _ _
  · split
    · exact s.dropPending_record _ _ _ _
    · simp only [State.raiseCommit]
      exact ((s.setView_record v _).trans (State.markCommit_record _ _ _)).trans (State.raise_record _ _)

/-! ### Catalogues -/

theorem State.freeWindowContexts_work (s : State) (w : Fin 32) : ChunkWork s (s.freeWindowContexts w) := by
  have fold : ChunkWork s (([0, 1, 2] : List (Fin 3)).foldl (fun s k =>
      match s.stream k with
      | some x => if x.window = w then s.freeStream k else s
      | none => s) s) := by
    refine ChunkWork.foldl _ (fun s k => ?_) _ s
    split
    · split
      · exact s.freeStream_work _
      · exact .refl s
    · exact .refl s
  simp only [State.freeWindowContexts]
  split
  · split
    · exact (fold.trans (State.setReadback_work _ _)).trans (State.modCounters_work _ _)
    · exact fold
  · exact fold

theorem State.dropStagedCommit_record (w : Fin 32) (s : State) (v : Fin 8) : RecordWork s (s.dropStagedCommit w v) := by
  simp only [State.dropStagedCommit]
  split
  · split
    · split
      · exact s.dropPending_record _ _ _ _
      · exact .refl s
    · exact .refl s
  · exact .refl s

theorem State.teardown_record (s : State) (w : Fin 32) (next : WinBody) : RecordWork s (s.teardown w next) := by
  have lost : RecordWork s
      (match (s.win w).body with
      | .loaded _ c _ =>
        if (s.win w).goodCount = c.chunks.length then
          s.raise (.image w true c.target c.version c.chunks.length 0)
        else s
      | .vacant | .defined _ | .opened _ _ | .rejected _ => s) := by
    split
    · split
      · exact s.raise_record _
      · exact .refl s
    all_goals exact .refl s
  simp only [State.teardown]
  refine RecordWork.trans ?_ (State.modWin_record _ _ _)
  refine RecordWork.trans ?_ (State.modQueue_work _ _).record
  refine RecordWork.trans ?_ (State.freeWindowContexts_work _ w).record
  exact lost.trans (RecordWork.foldl _ (State.dropStagedCommit_record w) allViews _)

theorem State.openCatalogue_record (s : State) (w : Fin 32) (g : Geometry) (c : Catalogue) :
    RecordWork s (s.openCatalogue w g c) := by
  simp only [State.openCatalogue]
  split
  · exact s.teardown_record _ _
  · exact s.modWin_record _ _

theorem State.loadCompare_work (w : Fin 32) (c : Catalogue) (e : ErasedDigests) (s : State) (i : Nat) :
    ChunkWork s (s.loadCompare w c e i) := by
  simp only [State.loadCompare]
  split
  · exact .refl s
  · split
    · split
      · exact (s.moveChunk_work _ _ _ _).trans (State.modCounters_work _ _)
      · exact (s.moveChunk_work _ _ _ _).trans (State.modCounters_work _ _)
    · split
      · exact s.moveChunk_work _ _ _ _
      · exact .refl s
    all_goals exact .refl s

theorem State.raiseLoadBad_work (w : Fin 32) (s : State) (i : Nat) : ChunkWork s (s.raiseLoadBad w i) := by
  simp only [State.raiseLoadBad]
  split
  · split
    · exact s.raise_work _
    · exact .refl s
  · exact .refl s

theorem State.enterLoaded_record (s : State) (w : Fin 32) (g : Geometry) (c : Catalogue) :
    RecordWork s (s.enterLoaded w g c) :=
  ((((s.modWin_record w _).trans (ChunkWork.foldl _ (State.loadCompare_work w c _) _ _).record).trans
    (State.raise_record _ _)).trans (ChunkWork.foldl _ (State.raiseLoadBad_work w) _ _).record).trans
    (State.reportImage_work _ _ _).record

theorem State.reject_record (s : State) (w : Fin 32) (g : Geometry) (c : Catalogue) (r : Reason) :
    RecordWork s (s.reject w g c r) := (s.teardown_record w _).trans (State.raise_record _ _)

theorem State.offerOpen_record (s : State) (w : Fin 32) (g : Geometry) (c : Catalogue) (i : Nat) (ds : List Digest) :
    RecordWork s (s.offerOpen w g c i ds) := by
  simp only [State.offerOpen]
  split
  · exact s.reject_record _ _ _ _
  · split
    · split
      · exact (s.modWin_record w _).trans (State.enterLoaded_record _ _ _ _)
      · exact (s.modWin_record w _).trans (State.reject_record _ _ _ _ _)
    · exact s.modWin_record w _

theorem State.check_record (s : State) (w : Fin 32) (urgent : Bool) : RecordWork s (s.check w urgent) :=
  ((QueueWork.foldl _ (State.checkChunk_queueWork w urgent) _ s).chunks.record.trans (State.modWin_record _ _ _)).trans
    (State.completionTest_work _ _).record

/-! ### Rulings -/

/-- The state a ruling leaves. -/
def Ruling.st : Ruling → State
  | .taken s => s
  | .pended s => s
  | .refused s _ => s
  | .commitRefused s => s

theorem State.commit_record (s : State) (mode : Mode) (addr : Nat) (v : Fin 8) (view : View) (bank : Bank) :
    RecordWork s (s.commit mode addr v view bank).st := by
  simp only [State.commit]
  split
  · split
    · exact s.dropPending_record _ _ _ _
    · exact .refl s
  · split
    · exact s.setView_record _ _
    · split
      · exact s.raise_record _
      · split
        · refine RecordWork.trans ?_ ((State.setView_record _ _ _).trans (State.raise_record _ _))
          split
          · exact s.dropPending_record _ _ _ _
          · exact .refl s
        · exact (s.setView_record _ _).trans (State.raise_record _ _)

/-- The ruling leaves no more than RecordWork. -/
def Ruling.kept (s : State) (r : Ruling) : Prop := RecordWork s r.st

theorem Ruling.kept_refused (s : State) (r : Reason) : (Ruling.refused s r).kept s := .refl s

theorem Ruling.kept_taken {s t : State} (h : RecordWork s t) : (Ruling.taken t).kept s := h

theorem State.takeOpclass_record (s : State) (bytes : List Byte) : (s.takeOpclass bytes).kept s := by
  simp only [State.takeOpclass]
  split
  · exact Ruling.kept_refused s _
  · split
    · exact Ruling.kept_refused s _
    · exact Ruling.kept_taken ⟨rfl, rfl, rfl, rfl, rfl, rfl, rfl, rfl, rfl, rfl, rfl, rfl, rfl⟩

theorem State.takeWindow_record (s : State) (bytes : List Byte) : (s.takeWindow bytes).kept s := by
  simp only [State.takeWindow]
  repeat' split
  all_goals first | exact Ruling.kept_refused s _ | exact Ruling.kept_taken (s.modWin_record _ _)

theorem State.takeManifest_record (s : State) (bytes : List Byte) : (s.takeManifest bytes).kept s := by
  simp only [State.takeManifest]
  repeat' split
  all_goals first | exact Ruling.kept_refused s _ | exact Ruling.kept_taken (s.openCatalogue_record _ _ _)

theorem State.takeDigests_record (s : State) (bytes : List Byte) : (s.takeDigests bytes).kept s := by
  simp only [State.takeDigests]
  repeat' split
  all_goals first | exact Ruling.kept_refused s _ | exact Ruling.kept_taken (s.offerOpen_record _ _ _ _ _) | exact Ruling.kept_taken (.refl s)

theorem State.takeDrop_record (s : State) (bytes : List Byte) : (s.takeDrop bytes).kept s := by
  have torn : ∀ w, RecordWork s
      (if (s.win w).body.cat?.isSome then s.teardown w .vacant else s.modWin w fun v => { v with body := .vacant }) := by
    intro w
    split
    · exact s.teardown_record _ _
    · exact s.modWin_record _ _
  simp only [State.takeDrop]
  split
  · exact Ruling.kept_refused s _
  · next w _ =>
    split
    · exact Ruling.kept_refused s _
    · split
      · exact Ruling.kept_refused s _
      · exact Ruling.kept_taken ((torn w).trans (State.modWin_record _ _ _))

theorem State.takeCheck_record (s : State) (bytes : List Byte) : (s.takeCheck bytes).kept s := by
  simp only [State.takeCheck]
  repeat' split
  all_goals first | exact Ruling.kept_refused s _ | exact Ruling.kept_taken (s.check_record _ _)

theorem State.takeView_record (s : State) (bytes : List Byte) : (s.takeView bytes).kept s := by
  simp only [State.takeView]
  repeat' split
  all_goals first | exact Ruling.kept_refused s _ | exact Ruling.kept_taken (s.setView_record _ _)

theorem State.takeUnview_record (s : State) (bytes : List Byte) : (s.takeUnview bytes).kept s := by
  simp only [State.takeUnview]
  repeat' split
  all_goals first | exact Ruling.kept_refused s _ | exact Ruling.kept_taken (s.setView_record _ _)

theorem State.takeCommit_record (s : State) (mode : Mode) (addr : Nat) (bytes : List Byte) :
    (s.takeCommit mode addr bytes).kept s := by
  simp only [State.takeCommit]
  repeat' split
  all_goals first | exact Ruling.kept_refused s _ | exact s.commit_record _ _ _ _ _

theorem State.takeHold_record (s : State) (bytes : List Byte) : (s.takeHold bytes).kept s := by
  simp only [State.takeHold]
  repeat' split
  all_goals first | exact Ruling.kept_refused s _ | exact Ruling.kept_taken (s.setView_record _ _)

theorem State.takeRelease_record (s : State) (bytes : List Byte) : (s.takeRelease bytes).kept s := by
  simp only [State.takeRelease]
  repeat' split
  all_goals first | exact Ruling.kept_refused s _ | exact Ruling.kept_taken (s.release_record _ _)

theorem State.takeSnapshot_record (s : State) : s.takeSnapshot.kept s := by
  simp only [State.takeSnapshot]
  split
  · exact Ruling.kept_taken (((s.raise_record _).trans (State.modCounters_record _ _)).trans
      ⟨rfl, rfl, rfl, rfl, rfl, rfl, rfl, rfl, rfl, rfl, rfl, rfl, rfl⟩)
  · exact Ruling.kept_taken (s.raise_record _)

theorem State.takeAck_record (s : State) : s.takeAck.kept s := by
  simp only [State.takeAck]
  refine Ruling.kept_taken (RecordWork.trans ?_ (RecordWork.foldl _ (fun s w => s.modWin_record w _) allWindows _))
  split
  · exact .refl s
  · exact ⟨rfl, rfl, rfl, rfl, rfl, rfl, rfl, rfl, rfl, rfl, rfl, rfl, rfl⟩

/-- Whatever its kind, a record that is dispatched does no more than RecordWork. -/
theorem State.dispatch_record (s : State) (k : RecKind) (mode : Mode) (addr : Nat) (bytes : List Byte) :
    (s.dispatch k mode addr bytes).kept s := by
  cases k <;> simp only [State.dispatch]
  · exact s.takeOpclass_record _
  · exact s.takeWindow_record _
  · exact s.takeManifest_record _
  · exact s.takeDigests_record _
  · exact s.takeDrop_record _
  · exact s.takeCheck_record _
  · exact Ruling.kept_taken ⟨rfl, rfl, rfl, rfl, rfl, rfl, rfl, rfl, rfl, rfl, rfl, rfl, rfl⟩
  · exact s.takeView_record _
  · exact s.takeUnview_record _
  · exact s.takeCommit_record _ _ _
  · exact s.takeHold_record _
  · exact s.takeRelease_record _
  · exact s.takeSnapshot_record
  · exact s.takeAck_record
  · exact Ruling.kept_taken (.refl s)

/-- The ruling on a record does no more than RecordWork. -/
theorem State.rule_record (s : State) (addr : Nat) (bytes : List Byte) (taint : Bool) :
    (s.rule addr bytes taint).kept s := by
  simp only [State.rule, State.ruleRecord]
  repeat' split
  all_goals first | exact Ruling.kept_refused s _ | exact s.dispatch_record _ _ _ _

end Sys2Proof.Machine
end

