-- ==== Sys2Proof/Laws/Forwarding.lean ====
section
/-! SUPPORT. What a forwarded PROGRAM or erase does to the windows as a whole: chunk work, and the quiet timers of the windows it
touches. -/

namespace Sys2Proof.Machine

/-- Restarting the quiet timer of a window touches that timer and nothing else (R120). -/
theorem State.restartQuiet_spec (s : State) (w : Fin 32) :
    s.restartQuiet w = s.setWin w (if (s.win w).body.isLoaded then { s.win w with quiet := (s.win w).body.quietStart } else s.win w) := by
  simp only [State.restartQuiet]
  split
  · rfl
  · exact (s.setWin_eq_self w).symm

theorem State.restartQuiet_chunk? (s : State) (w u : Fin 32) (i : Nat) : (s.restartQuiet w).chunk? u i = s.chunk? u i := by
  simp only [State.restartQuiet]
  split
  · exact State.chunk?_modWin_body _ _ _ rfl _ _
  · rfl

theorem State.restartQuiet_record (s : State) (w : Fin 32) : RecordWork s (s.restartQuiet w) := by
  simp only [State.restartQuiet]
  split
  · exact s.modWin_record _ _
  · exact .refl s

/-- A program event in a window is chunk work, and then the window's quiet timer restarts (R9). -/
theorem State.programWindow_work (s : State) (w : Fin 32) (c : Collected) :
    ∃ t, ChunkWork s t ∧ s.programWindow w c = t.restartQuiet w := by
  simp only [State.programWindow]
  split
  · exact ⟨_, s.programEvent_work _ _ _, rfl⟩
  · exact ⟨s, .refl s, rfl⟩

/-- The erase events of all windows are chunk work (R10). -/
theorem State.eraseWindow_foldl_work (s : State) (cover : Nat × Nat) :
    ChunkWork s (allWindows.foldl (State.eraseWindow cover) s) :=
  ChunkWork.foldl _ (State.eraseWindow_work cover) _ s

theorem State.eraseWindows_record (s : State) (cover : Nat × Nat) : RecordWork s (s.eraseWindows cover) := by
  refine (s.eraseWindow_foldl_work cover).record.trans (RecordWork.foldl _ (fun s w => ?_) allWindows _)
  simp only [State.eraseTouches]
  split
  · exact s.restartQuiet_record _
  · exact .refl s

end Sys2Proof.Machine
end

