-- ==== Sys2Proof/Laws/Operands.lean ====
section
/-! SUPPORT. What the window, the view and the mapped address of a byte say, and what a landing says of its chunk. -/

namespace Sys2Proof.Machine

theorem Geometry.covers_iff (g : Geometry) (p : Nat) : g.covers p = true ↔ g.base ≤ p ∧ p < g.base + g.size := by
  simp [Geometry.covers]

/-- The window of a byte has a geometry, and its range holds the byte (R35). -/
theorem State.windowAt_some (s : State) (p : Nat) (w : Fin 32) (h : s.windowAt p = some w) :
    ∃ g, (s.win w).body.geom? = some g ∧ g.base ≤ p ∧ p < g.base + g.size := by
  have hc := List.find?_some h
  simp only [WinBody.covers] at hc
  split at hc
  · next g hg => exact ⟨g, hg, (g.covers_iff p).1 hc⟩
  · cases hc

/-- A byte lies in no window exactly if no range holds it (R35). -/
theorem State.windowAt_none (s : State) (p : Nat) : s.windowAt p = none ↔ ∀ w, (s.win w).body.covers p = false := by
  simp [State.windowAt, List.find?_eq_none]

/-- The view of a host address is present, and its range holds the address (R33). -/
theorem State.viewAt_some (s : State) (x : Nat) (v : Fin 8) (h : s.viewAt x = some v) :
    ∃ view, s.view v = some view ∧ view.base ≤ x ∧ x < view.base + s.viewSize view := by
  have hc := List.find?_some h
  split at hc
  · next view hv =>
    refine ⟨view, hv, ?_⟩
    simpa [State.viewCovers] using hc
  · cases hc

/-- Outside every view an address is its own mapped address (R33). -/
theorem State.mapAddr_of_none (s : State) (x : Nat) (h : s.viewAt x = none) : s.mapAddr x = x := by
  simp [State.mapAddr, h]

/-- A landing is on a chunk that exists and brings it at least one byte (R40). -/
theorem WinBody.landing_some (b : WinBody) (a len : Nat) (l : Landing) (h : b.landing a len = some l) :
    1 ≤ l.count ∧ l.chunk < b.count ∧ l.wraps = programWraps a len ∧
      ∃ g, b.geom? = some g ∧ l.chunk = (pageBase a - g.base) / g.chunkSize ∧ l.offset = (a - g.base) % g.chunkSize := by
  cases hg : b.geom? with
  | none => simp [WinBody.landing, hg] at h
  | some g =>
    cases hc : b.cat? with
    | none => simp [WinBody.landing, hg, hc] at h
    | some c =>
      by_cases hi : (pageBase a - g.base) / g.chunkSize < c.chunks.length
      · simp only [WinBody.landing, hg, hc, hi, if_true, Option.ite_none_right_eq_some, Option.some.injEq] at h
        obtain ⟨hm, rfl⟩ := h
        exact ⟨hm, by simpa [WinBody.count, hc] using hi, rfl, g, rfl, rfl, rfl⟩
      · simp [WinBody.landing, hg, hc, hi] at h

/-- A chunk below the chunk count has a record, and none beyond has one (R67). -/
theorem State.chunk?_isSome (s : State) (w : Fin 32) (i : Nat) :
    (s.chunk? w i).isSome = true ↔ i < (s.win w).body.count := by
  simp only [State.chunk?, WinBody.count]
  cases (s.win w).body.cat? <;> simp

end Sys2Proof.Machine
end

