-- ==== Sys2Proof/Laws/Reading.lean ====
section
/-! SUPPORT. What the events that fall into a READ can change at all (EventWork), once for each of them, and what harvesting does to
the contexts and records outside the chunk it is offered. -/

namespace Sys2Proof.Machine

/-! ### What can change at all -/

/-- Time passed, the supply changed or a read-back began, and nothing else happened: commands, classes, views, straps, window
outlines, the ports and what stands on the Flash Port are as before; of the bridge only the claim count changed. -/
structure EventWork (s t : State) : Prop where
  pending : t.pending = s.pending
  part : t.part = s.part
  cause : t.cause = s.cause
  strapPins : t.strapPins = s.strapPins
  straps : t.straps = s.straps
  bridge : t.bridge = { s.bridge with claim := t.bridge.claim }
  views : t.views = s.views
  ports : t.ports = s.ports
  reports : t.reports =
    { s.reports with queue := t.reports.queue, dropped := t.reports.dropped, counters := t.reports.counters }
  raised : s.reports.queue <+: t.reports.queue
  outline : ∀ w, (t.win w).body.outline = (s.win w).body.outline

theorem EventWork.refl (s : State) : EventWork s s :=
  ⟨rfl, rfl, rfl, rfl, rfl, rfl, rfl, rfl, rfl, List.prefix_rfl, fun _ => rfl⟩

theorem EventWork.trans {s t u : State} (h : EventWork s t) (k : EventWork t u) : EventWork s u where
  pending := k.pending.trans h.pending
  part := k.part.trans h.part
  cause := k.cause.trans h.cause
  strapPins := k.strapPins.trans h.strapPins
  straps := k.straps.trans h.straps
  bridge := by rw [k.bridge, h.bridge]
  views := k.views.trans h.views
  ports := k.ports.trans h.ports
  reports := by rw [k.reports, h.reports]
  raised := h.raised.trans k.raised
  outline w := (k.outline w).trans (h.outline w)

/-- A fold of events is an event. -/
theorem EventWork.foldl {α : Type} (f : State → α → State) (hf : ∀ s a, EventWork s (f s a)) (l : List α) (s : State) :
    EventWork s (l.foldl f s) := by
  induction l generalizing s with
  | nil => exact .refl s
  | cons a l ih => exact (hf s a).trans (ih _)

theorem EventWork.geom? {s t : State} (h : EventWork s t) (w : Fin 32) :
    (t.win w).body.geom? = (s.win w).body.geom? := (WinBody.outline_inj (h.outline w)).1

theorem ChunkWork.event {s t : State} (h : ChunkWork s t) : EventWork s t where
  pending := h.pending
  part := h.part
  cause := h.cause
  strapPins := h.strapPins
  straps := h.straps
  bridge := by rw [h.bridge]
  views := h.views
  ports := h.ports
  reports := h.reports
  raised := h.raised
  outline := h.outline

theorem State.modSupply_event (s : State) (f : Supply → Supply) : EventWork s (s.modSupply f) :=
  ⟨rfl, rfl, rfl, rfl, rfl, rfl, rfl, rfl, rfl, List.prefix_rfl, fun _ => rfl⟩

theorem State.modParser_event (s : State) (f : Parser → Parser) : EventWork s (s.modParser f) :=
  ⟨rfl, rfl, rfl, rfl, rfl, rfl, rfl, rfl, rfl, List.prefix_rfl, fun _ => rfl⟩

theorem State.modScheduler_event (s : State) (f : Scheduler → Scheduler) : EventWork s (s.modScheduler f) :=
  ⟨rfl, rfl, rfl, rfl, rfl, rfl, rfl, rfl, rfl, List.prefix_rfl, fun _ => rfl⟩

/-- A write of window flags and timers that keeps the body. -/
theorem State.modWin_event (s : State) (w : Fin 32) (f : Window → Window) (hb : (f (s.win w)).body = (s.win w).body) :
    EventWork s (s.modWin w f) := by
  refine ⟨rfl, rfl, rfl, rfl, rfl, rfl, rfl, rfl, rfl, List.prefix_rfl, fun u => ?_⟩
  simp only [State.win_modWin]
  split
  · next h => subst h; rw [hb]
  · rfl

theorem State.settleClaim_event (s : State) : EventWork s s.settleClaim := by
  unfold State.settleClaim
  split
  · exact .refl s
  · exact ⟨rfl, rfl, rfl, rfl, rfl, rfl, rfl, rfl, rfl, List.prefix_rfl, fun _ => rfl⟩

theorem State.tickClaim_event (s : State) : EventWork s s.tickClaim := by
  unfold State.tickClaim
  split
  · exact ⟨rfl, rfl, rfl, rfl, rfl, rfl, rfl, rfl, rfl, List.prefix_rfl, fun _ => rfl⟩
  · exact .refl s

theorem State.refill_event (s : State) : EventWork s s.refill := s.refill_queueWork.chunks.event

/-! ### The supply -/

theorem State.dipStrike_event (s : State) : EventWork s s.dipStrike.st := by
  unfold State.dipStrike
  split
  · exact (s.dipMark_work _).event.trans (State.modParser_event _ _)
  · exact .refl s

theorem State.enterDip_event (fresh : Bool) (s : State) : EventWork s (s.enterDip fresh) := by
  simp only [State.enterDip]
  split
  · exact (s.dipStrike_event.trans (State.modSupply_event _ _)).trans (State.raise_work _ _).event
  · exact s.dipStrike_event.trans (State.modSupply_event _ _)

theorem State.convertDip_event (s : State) (w : Fin 32) : EventWork s (s.convertDip w) := by
  unfold State.convertDip
  split
  · exact s.modWin_event w _ rfl
  · exact .refl s

theorem State.enterNormal_event (now : Word32) (s : State) : EventWork s (s.enterNormal now) := by
  simp only [State.enterNormal]
  refine .trans ?_ (State.modSupply_event _ _)
  refine .trans ?_ (State.raise_work _ _).event
  refine .trans ?_ (State.refill_event _)
  exact (s.modSupply_event _).trans (EventWork.foldl _ State.convertDip_event allWindows _)

theorem State.bandEvent_event (band : Band) (s : State) : EventWork s (s.bandEvent band) := by
  simp only [State.bandEvent]
  split
  · exact .refl s
  · split <;>
      first
        | exact s.modSupply_event _
        | exact (s.modSupply_event _).trans (State.enterDip_event _ _)
        | exact (s.modSupply_event _).trans (State.modSupply_event _ _)

theorem State.changeBand_event (band : Band) (s : State) : EventWork s (s.changeBand band) := by
  unfold State.changeBand
  split
  · exact .refl s
  · exact ((s.bandEvent_event band).trans (State.refill_event _)).trans (State.settleClaim_event _)

/-! ### Time and the start of a read-back -/

theorem State.tickQuiet_event (s : State) (w : Fin 32) : EventWork s (s.tickQuiet w) := by
  unfold State.tickQuiet
  split
  · exact .refl s
  · split
    · exact s.modWin_event w _ rfl
    · exact s.modWin_event w _ rfl

theorem State.tickSettle_event (s : State) : EventWork s s.tickSettle := by
  unfold State.tickSettle
  split
  · split
    · exact s.enterNormal_event _
    · exact s.modSupply_event _
  all_goals exact .refl s

theorem State.tickTimers_event (s : State) : EventWork s s.tickTimers :=
  (((s.tickClaim_event.trans (State.modScheduler_event _ _)).trans (EventWork.foldl _ State.tickQuiet_event allWindows _)).trans
    (State.tickSettle_event _)).trans (State.refill_event _)

theorem State.startReadback_event (s : State) (e : Entry) : EventWork s (s.startReadback e) :=
  (((((s.setQueue_work _).trans (State.endDigesting_work _ _ _)).trans (State.moveChunk_work _ _ _ _ _)).trans
    (State.modChunk_work _ _ _ _)).trans (State.setReadback_work _ _)).event.trans
      ((State.refill_event _).trans (State.settleClaim_event _))

theorem State.takeHead_event (s : State) : EventWork s s.takeHead := by
  unfold State.takeHead
  split
  · split
    · exact s.startReadback_event _
    · exact .refl s
  · exact .refl s

/-- An event that falls into a READ leaves alone what the READ has fixed at its address: views, outlines and what is on the Flash
Port (R4, R105). -/
theorem State.duringRead_event (s : State) (e : DuringRead) : EventWork s (s.duringRead e) := by
  cases e with
  | tick => exact s.tickTimers_event.trans (State.settleClaim_event _)
  | bandChange band => exact s.changeBand_event band
  | readbackStart => exact s.takeHead_event

/-! ### Harvesting -/

theorem State.startReadStream_work (s : State) (o : Offer) : ChunkWork s (s.startReadStream o) := by
  simp only [State.startReadStream]
  split
  · exact .refl s
  · exact ((s.modChunk_work _ _ _).trans (State.moveStreamToFront_work _ _ _)).trans (State.advanceStream_work _ _ _ _)

theorem State.harvestIdle_work (s : State) (o : Offer) : ChunkWork s (s.harvestIdle o) := by
  simp only [State.harvestIdle]
  split
  · split
    · exact s.advanceStream_work _ _ _
    · exact s.endDigesting_work _ _
  · split
    · exact s.startReadStream_work o
    · exact .refl s

/-- A harvest is the work of the blocks that know about chunks, and nothing else (R105). -/
theorem State.harvest_work (s : State) (o : Offer) : ChunkWork s (s.harvest o) := by
  simp only [State.harvest]
  split
  · exact .refl s
  · split
    · exact .refl s
    · split
      · exact s.endDigesting_work _ _
      · exact ((s.harvestIdle_work o).trans (State.closeEvent_work _ _ _)).trans (State.refill_queueWork _).chunks

/-- An offer on a chunk that is not UNCHECKED is ignored (R105). -/
theorem State.harvest_of_not_unchecked (s : State) (o : Offer) (c : Chunk) (hc : s.chunk? o.window o.chunk = some c)
    (h : c.state ≠ .unchecked) : s.harvest o = s := by
  simp [State.harvest, hc, h]

/-- The end of a segment hands its offer on, once (R5). -/
theorem ReadRun.close_work (r : ReadRun) : ChunkWork r.st r.close.st ∧ r.close.offer = none ∧ r.close.out = r.out := by
  unfold ReadRun.close
  split
  · exact ⟨r.st.harvest_work _, rfl, rfl⟩
  · next h => exact ⟨.refl _, h, rfl⟩

theorem ReadRun.cut_work (r : ReadRun) (b : ByteSite) : ChunkWork r.st (r.cut b).st ∧ (r.cut b).out = r.out := by
  unfold ReadRun.cut
  split
  · split
    · exact ⟨.refl _, rfl⟩
    · exact ⟨r.close_work.1, r.close_work.2.2⟩
  · exact ⟨.refl _, rfl⟩

/-- What falls in front of a byte delivers none, and leaves alone what the READ has fixed. -/
theorem ReadRun.between_event (r : ReadRun) (x : Nat) (events : List DuringRead) :
    EventWork r.st (r.between x events).st ∧ (r.between x events).out = r.out := by
  cases events with
  | nil => exact ⟨.refl _, rfl⟩
  | cons e es =>
    have h := r.cut_work (r.st.siteOf x)
    exact ⟨h.1.event.trans (EventWork.foldl _ State.duringRead_event (e :: es) _), h.2⟩

@[simp] theorem ReadRun.between_nil (r : ReadRun) (x : Nat) : r.between x [] = r := rfl

@[simp] theorem eventsAt_nil (k : Nat) : eventsAt [] k = [] := rfl

end Sys2Proof.Machine
end

