-- ==== Sys2Proof/WellFormed.lean ====
section
/-! DEFINITION. WellFormed. The operand ranges a step of the part can have at all, whatever the state. -/

namespace Sys2Proof

/-- A step whose operands lie in the ranges of the manual:
a quiet timer belongs to a window 0..31 (R24, R120);
a start-up read brings 256 bytes (R18, R171);
a read-back burst brings 1..256 bytes (R111);
an event that falls into a READ falls in front of one of its bytes or behind the last (R105). -/
def Instr.wellFormed : Instr → Bool
  | .quietTimerExpiry w => decide (w < 32)
  | .startupReadEnd bytes => decide (bytes.length = Config.burstBytes)
  | .readbackBurstEnd bytes => decide (1 ≤ bytes.length ∧ bytes.length ≤ Config.burstBytes)
  | .read x => x.during.all fun e => decide (e.1 ≤ x.flash.length)
  | .program _ | .erase4K _ | .erase32K _ | .erase64K _ | .eraseAll _ => true
  | .programForward | .eraseForward => true
  | .status _ | .writeEnable _ | .pass _ | .block _ | .commandDiscard _ | .opcodeWhileNotReady _ => true
  | .statusPoll _ _ | .markProgram _ | .reportProgram _ => true
  | .internalProgramTransactionEnd | .internalProgramPoll _ | .internalProgramTimeout => true
  | .startupRead _ | .readbackStart | .readbackBurst _ => true
  | .tick | .bandChange _ | .settleTimerExpiry => true
  | .powerOnReset _ _ | .resetPinAssert | .resetPinRelease _ _ => true

end Sys2Proof
end

