-- ==== Sys2Proof/Tests/Slice0.lean ====
section
/-! SUPPORT. Tests. The well-formedness checks refuse an ill-formed step each; small steps give what the manual's tables and worked
numbers say; and for every statement with hypotheses a state and operands meet them together (witness_…). -/

namespace Sys2Proof.Tests

open Sys2Proof.Machine

-- One proof after the other: the many small kernel evaluations of this file need no threads of their own.
set_option Elab.async false

/-! ### States -/

/-- The state a step leaves. -/
def after (i : Instr) (s : State) : State :=
  match exec i s with
  | .next t => t
  | .fault _ => s
  | .refused _ => s

def chunk (state : ChunkState) (expected observed : Option Digest) (queued : Bool) (link : Option Link) : Chunk :=
  { state, expected, observed, queued, link }

def geometry (base : Nat) (quiet : Nat) : Geometry :=
  { base, size := 0x10000, chunkSize := 4096, guarded := true, fill := 0x5A, quiet }

def catalogue (version len runStart received : Nat) (chunks : List Chunk) : Catalogue :=
  { target := 1, version, len, list := 0, runStart, received, chunks }

def window (body : WinBody) (goodCount : Nat) : Window := { Window.atReset with body, goodCount }

def goodChunk : Chunk := chunk .good (some 1) (some 1) false none

/-- A LOADED window of six chunks, one of each kind the statements speak of: GOOD, UNCHECKED and queued, ERASED, FILLING, UNCHECKED with
a read stream, and a short BAD one. -/
def sixChunks : Window :=
  window
    (.loaded (geometry 0x100000 5)
      (catalogue 2 20580 0 6
        [goodChunk, chunk .unchecked (some 2) none true none, chunk .erased (some 3) none false none,
          chunk .filling (some 4) none false (some (.stream 0)), chunk .unchecked (some 5) none false (some (.stream 1)),
          chunk .bad (some 6) (some 7) false none])
      { whole := 8, last := 9 }) 1

def openWindow : Window :=
  window
    (.opened (geometry 0x110000 0)
      (catalogue 1 8192 6 0 [chunk .computed none (some 2) false none, chunk .erased none none false none])) 0

/-- A bank window: LOADED with one GOOD chunk. -/
def bank (base version runStart : Nat) : Window :=
  window (.loaded (geometry base 0) (catalogue version 4096 runStart 1 [goodChunk]) { whole := 8, last := 8 }) 1

def stream (kind : StreamKind) (i frontier : Nat) : StreamCtx :=
  { kind, window := 0, chunk := i, frontier, run := Running.start }

/-- A part that runs, with a TICK waiting: an idle flash, a READY journal, six windows' worth of state, a view over two banks, two streams, one entry in the
check queue. -/
def lab : State :=
  { State.reset with
    pending := [.tick]
    part := .running
    bridge := { State.reset.bridge with busy := false, owner := .nobody }
    windows :=
      ((((State.reset.windows.set 0 sixChunks).set 1 openWindow).set 2 (bank 0x120000 1 8)).set 3 (bank 0x130000 2 9)).set 4
        (window (.defined (geometry 0x140000 0)) 0)
    views :=
      State.reset.views.set 0
        (some { base := 0x200000, bankA := 2, bankB := 3, selected := .a, held := false, pendingCommit := none })
    engine :=
      { State.reset.engine with
        streams := (State.reset.engine.streams.set 0 (some (stream .program 3 256))).set 1 (some (stream .read 4 256))
        recency := [1, 0] }
    scheduler := { State.reset.scheduler with queue := [{ window := 0, chunk := 1, urgent := false }], credit := 8192, ms := 7 }
    reports := { State.reset.reports with journal := .ready, index := 3 } }

theorem lab_portLaw : PortLaw lab := by unfold PortLaw; decide +kernel

theorem lab_reportLaw : ReportLaw lab := by
  refine ⟨by decide +kernel, by decide +kernel, by decide +kernel, by decide +kernel, by decide +kernel, by decide +kernel, ?_⟩
  intro _ _ _ h
  cases h

theorem lab_creditLaw : CreditLaw lab := by unfold CreditLaw; decide +kernel

theorem lab_queueLaw : QueueLaw lab := by
  refine ⟨by decide +kernel, by decide +kernel, ?_, by decide +kernel⟩
  intro e he
  obtain rfl : e = { window := 0, chunk := 1, urgent := false } := by simpa [lab] using he
  exact ⟨by decide +kernel, chunk .unchecked (some 2) none true none, by decide +kernel, rfl, rfl⟩

theorem lab_windowLaw : WindowLaw lab := by
  have one : ∀ w : Fin 32, ∀ g ∈ (lab.win w).body.geom?,
      (g.base % Config.blockBytes = 0 ∧ g.size % Config.blockBytes = 0 ∧ Config.blockBytes ≤ g.size ∧
        g.size ≤ Config.maxWindowBytes ∧ g.base + g.size ≤ lab.flashBytes ∧
        g.chunkSize ∈ [4096, 8192, 16384, 32768, 65536]) ∧
      lab.meetsControl g.base (g.base + g.size) = false := by decide +kernel
  have two : ∀ u w : Fin 32, ∀ g ∈ (lab.win u).body.geom?, ∀ h ∈ (lab.win w).body.geom?, u ≠ w →
      overlaps g.base (g.base + g.size) h.base (h.base + h.size) = false := by decide +kernel
  exact ⟨fun w g hg => one w g hg, fun u w g h hn hg hh => two u w g hg h hh hn⟩

theorem lab_viewLaw : ViewLaw lab := by
  have only : ∀ v : Fin 8, ∀ view ∈ lab.view v, v = 0 ∧
      view = { base := 0x200000, bankA := 2, bankB := 3, selected := .a, held := false, pendingCommit := none } := by
    decide +kernel
  refine ⟨fun v view h => ?_, fun u v x y hn hx hy => ?_⟩
  · obtain ⟨rfl, rfl⟩ := only v view h
    refine ⟨by decide +kernel, by decide +kernel, ⟨by decide, geometry 0x120000 0, geometry 0x130000 0, ?_⟩, by decide +kernel,
      by decide +kernel⟩
    decide +kernel
  · exact absurd ((only u x hx).1.trans (only v y hy).1.symm) hn

theorem lab_holdLaw : HoldLaw lab := by
  have none_pending : ∀ v : Fin 8, ∀ view ∈ lab.view v, view.pendingCommit = none := by decide +kernel
  exact ⟨fun v view pc h hp => (by rw [none_pending v view h] at hp; cases hp), fun h => absurd rfl h, fun h => absurd h (by decide +kernel)⟩

theorem lab_poolLaw : PoolLaw lab := by
  have counts : ∀ w : Fin 32, ∀ g ∈ (lab.win w).body.geom?, ∀ c ∈ (lab.win w).body.cat?,
      c.chunks.length = chunkCount c.len g.chunkSize := by decide +kernel
  have apart : ∀ u w : Fin 32, u ≠ w →
      overlaps (lab.win u).body.run.1 (lab.win u).body.run.2 (lab.win w).body.run.1 (lab.win w).body.run.2 = false := by
    decide +kernel
  exact ⟨by decide +kernel, apart, fun w g c hg hc => counts w g hg c hc⟩

theorem goodLaw_of_catalogue (v : Window)
    (loaded : v.body.isLoaded = true → ∀ c ∈ v.body.cat?,
      v.goodCount = countState c.chunks .good ∧ ∀ x ∈ c.chunks, x.state = .good → x.observed = x.expected)
    (other : v.body.isLoaded = false → v.goodCount = 0 ∧ ∀ c ∈ v.body.cat?, ∀ x ∈ c.chunks, x.state ≠ .good) :
    v.goodLaw := by
  unfold Window.goodLaw
  cases h : v.body <;> simp_all [WinBody.isLoaded, WinBody.cat?]

theorem lab_goodLaw : GoodLaw lab := by
  have loaded : ∀ w : Fin 32, (lab.win w).body.isLoaded = true → ∀ c ∈ (lab.win w).body.cat?,
      (lab.win w).goodCount = countState c.chunks .good ∧ ∀ x ∈ c.chunks, x.state = .good → x.observed = x.expected := by
    decide +kernel
  have other : ∀ w : Fin 32, (lab.win w).body.isLoaded = false →
      (lab.win w).goodCount = 0 ∧ ∀ c ∈ (lab.win w).body.cat?, ∀ x ∈ c.chunks, x.state ≠ .good := by decide +kernel
  exact fun w => goodLaw_of_catalogue _ (loaded w) (other w)

/-- The context a chunk record names holds it, as a check that runs. -/
def linkCheck (s : State) (w : Fin 32) (i : Nat) (c : Chunk) : Bool :=
  match c.link with
  | some (.stream k) => (s.stream k).any fun x => decide (x.window = w ∧ x.chunk = i)
  | some .readback => s.engine.readback.any fun r => decide (r.window = w ∧ r.chunk = i)
  | none => decide (c.state ≠ .filling ∧ c.state ≠ .checking)

/-- The law of contexts as a check that runs. -/
def contextCheck (s : State) : Bool :=
  decide s.engine.recency.Nodup &&
    decide (∀ k, k ∈ s.engine.recency ↔ (s.stream k).isSome = true) &&
    decide (∀ k : Fin 3, ∀ x ∈ s.stream k, ∃ c ∈ s.chunk? x.window x.chunk, c.link = some (.stream k) ∧
      c.state = match x.kind with
        | .program => .filling
        | .read => .unchecked) &&
    decide (∀ r ∈ s.engine.readback, ∃ c ∈ s.chunk? r.window r.chunk, c.link = some .readback ∧ c.state = .checking) &&
    decide (∀ w : Fin 32, ∀ cat ∈ (s.win w).body.cat?, ∀ i : Fin cat.chunks.length,
      linkCheck s w i cat.chunks[i] = true)

theorem contextLaw_of_check {s : State} (h : contextCheck s = true) : ContextLaw s := by
  simp only [contextCheck, Bool.and_eq_true, decide_eq_true_eq] at h
  obtain ⟨⟨⟨⟨nodup, member⟩, streams⟩, readback⟩, links⟩ := h
  refine ⟨nodup, member, fun k x hx => ?_, fun r hr => ?_, fun w i c hc => ?_⟩
  · obtain ⟨c, hc, hl, hst⟩ := streams k x hx
    refine ⟨c, hc, hl, ?_⟩
    cases hk : x.kind <;> simpa [hk] using hst
  · exact readback r hr
  · obtain ⟨cat, hcat, hi⟩ := Option.bind_eq_some_iff.1 hc
    obtain ⟨hlt, rfl⟩ := List.getElem?_eq_some_iff.1 hi
    have hl := links w cat hcat ⟨i, hlt⟩
    simp only [linkCheck, Fin.getElem_fin] at hl
    simp only [State.linkStands]
    cases hc : cat.chunks[i].link with
    | none => simpa [hc] using hl
    | some l => cases l <;> simpa [hc, Option.any_eq_true] using hl

theorem lab_contextLaw : ContextLaw lab := contextLaw_of_check (by decide +kernel)

theorem lab_supplyLaw : SupplyLaw lab := ⟨fun _ h => (by cases h), by decide +kernel⟩

theorem lab_parserLaw : ParserLaw lab :=
  ⟨by decide +kernel, by decide +kernel, by decide +kernel, fun _ _ h => by cases h⟩

/-! ### Well-formedness -/

theorem test_wellFormed_refuses_window_32 : (Instr.quietTimerExpiry 32).wellFormed = false := rfl

theorem test_wellFormed_refuses_short_startup_read : (Instr.startupReadEnd (List.replicate 255 0)).wellFormed = false := by decide +kernel

theorem test_wellFormed_refuses_long_startup_read : (Instr.startupReadEnd (List.replicate 257 0)).wellFormed = false := by decide +kernel

theorem test_wellFormed_refuses_empty_burst : (Instr.readbackBurstEnd []).wellFormed = false := rfl

theorem test_wellFormed_refuses_long_burst : (Instr.readbackBurstEnd (List.replicate 257 0)).wellFormed = false := by decide +kernel

theorem test_wellFormed_refuses_event_behind_a_read :
    (Instr.read { opcode := 0x03, sent := [], flash := [0], during := [(2, .tick)] }).wellFormed = false := rfl

theorem test_wellFormed_accepts_boundaries :
    (Instr.read { opcode := 0x03, sent := [], flash := [0], during := [(0, .tick), (1, .tick)] }).wellFormed = true ∧
    (Instr.quietTimerExpiry 31).wellFormed = true ∧ (Instr.readbackBurstEnd [0]).wellFormed = true ∧
      (Instr.readbackBurstEnd (List.replicate 256 0)).wellFormed = true ∧
      (Instr.startupReadEnd (List.replicate 256 0)).wellFormed = true := by decide +kernel

/-! ### Worked numbers of the manual -/

/-- Window 2 of section 2.9: 256 KiB at 0040_0000h, chunks of 16,384 bytes, an image of 150,000 bytes. -/
def windowTwo : WinBody :=
  .loaded { base := 0x400000, size := 0x40000, chunkSize := 16384, guarded := false, fill := 0xFF, quiet := 500 }
    (catalogue 1 150000 0 10 (List.replicate 10 goodChunk)) { whole := 0, last := 0 }

/-- Section 2.9: ten chunks, the last of 2,544 bytes. -/
theorem test_last_chunk_length : chunkCount 150000 16384 = 10 ∧ windowTwo.chunkLen 9 = 2544 := by decide +kernel

/-- Section 2.9, cases A1 to A4. -/
theorem test_landings :
    windowTwo.landing 0x424900 256 = some { chunk := 9, offset := 2304, count := 240, wraps := false } ∧
      windowTwo.landing 0x4249F8 16 = some { chunk := 9, offset := 2552, count := 8, wraps := true } ∧
      windowTwo.landing 0x424AF8 16 = none ∧
      windowTwo.landing 0x404FC0 128 = some { chunk := 1, offset := 4032, count := 128, wraps := true } := by
  decide +kernel

/-- Section 2.9, case A4: the landing bytes. -/
theorem test_landing_ranges : landingRanges 0x404FC0 128 = [(0x404FC0, 0x405000), (0x404F00, 0x404F40)] := by decide +kernel

/-- Section 2.9, case E1: the cover lies in chunk 1 and does not hold all of it. -/
theorem test_erase_cover :
    eraseCover .erase4K 0x405010 0x2000000 = (0x405000, 0x406000) ∧
      windowTwo.chunkMet 1 [(0x405000, 0x406000)] = true ∧ windowTwo.chunkMet 0 [(0x405000, 0x406000)] = false ∧
      windowTwo.chunkCovered 1 (0x405000, 0x406000) = false := by decide +kernel

/-- The value FIPS 180-4 gives for the three bytes of "abc", cut to 16 bytes (R94; log entry 2). -/
theorem test_chunk_digest_of_abc : chunkDigest [0x61, 0x62, 0x63] = 0xBA7816BF8F01CFEA414140DE5DAE2223 := by decide +kernel

/-- Section 11.1: the check of a COMMIT for view 1, bank B. -/
theorem test_record_check :
    recordCheck [0x0A, 0xFF, 0x03, 0x00, 0x00, 0x00, 0x00, 0x00, 0x01, 0x01, 0x00, 0x00] = 0xFFF0 ∧
      recordIntact [0x0A, 0x0F, 0x03, 0x00, 0xF0, 0xFF, 0x00, 0x00, 0x01, 0x01, 0x00, 0x00] = true := by decide +kernel

/-! ### Witnesses: the step and the host's commands -/

theorem witness_StepRunsTheFrontOfTheQueue : lab.pending = [.tick] ∧ step lab = exec .tick { lab with pending := [] } :=
  ⟨rfl, rfl⟩

theorem witness_ResetPinHoldsThePartUntilItsRelease : (after .resetPinAssert lab).part = .held ∧ lab.part ≠ .held := by
  decide +kernel

theorem witness_ClassTableAfterResetIsTheManuals :
    exec (.powerOnReset lab.straps .high) lab = .next (State.resetWith .supply lab.straps .high lab.pending) := rfl

theorem test_release_alone_tells_the_straps :
    (after (.resetPinRelease { lab.straps with rollback := true } .high) lab).strapPins.rollback = true ∧
      (after (.resetPinRelease { lab.straps with rollback := true } .high) lab).straps = lab.straps := by decide +kernel

/-- A host transfer with a 3-byte address. -/
def xfer (opcode : Byte) (addr : Nat) (data flash : List Byte) : HostXfer :=
  { opcode, sent := beBytes 3 addr ++ data, flash }

theorem witness_OpcodeWhileReadyIsLowIsDiscarded :
    State.reset.readyHigh = false ∧ Instr.pass (xfer 0x9F 0 [] [1]) ∈ hostRows (xfer 0x9F 0 [] [1]) ∧
      (after (.pass (xfer 0x9F 0 [] [1, 2])) State.reset).ports = { toHost := [0xFF, 0xFF], toFlash := [] } := by
  decide +kernel

/-- The lab with opcode 99h as a BLOCK opcode. -/
def labBlock : State := lab.setClass 0x99 { cls := .block, addrLen := 0, dummies := 0 }

theorem witness_BlockCommandIsWithheldAtItsOpcode :
    labBlock.readyHigh = true ∧ (labBlock.classOf 0x99).cls = .block ∧ (labBlock.classOf 0x99).addrLen = 0 ∧
      (after (.block (xfer 0x99 0 [] [7])) labBlock).ports.toHost = [0xFF] ∧
      (after (.block (xfer 0x99 0 [] [7])) labBlock).reports.counters.withheld = 1 := by decide +kernel

theorem witness_OtherCommandsAreForwardedAtOnceOrDiscarded :
    lab.readyHigh = true ∧
      ((lab.classOf 0x9F).cls = .pass ∧ (lab.classOf 0x9F).addrLen ≤ [(0 : Byte)].length) ∧
      ((lab.classOf 0x06).cls = .writeEnable ∧ (lab.classOf 0x06).addrLen ≤ ([] : List Byte).length) ∧
      ((lab.classOf 0x05).cls = .status ∧ (lab.classOf 0x05).addrLen ≤ ([] : List Byte).length) ∧
      ((lab.classOf 0x02).cls ≠ .block ∧ [(0x10 : Byte), 0x00].length < (lab.classOf 0x02).addrLen) := by decide +kernel

theorem test_status_clears_busy :
    (after (.status { opcode := 0x05, sent := [], flash := [0x03, 0x02] })
      { lab with bridge := { lab.bridge with busy := true, owner := .host, touched := .each [[(0, 4)]] } }).bridge.busy = false := by
  decide +kernel

theorem witness_WriteEnablePairingFlagFollowsTheHost :
    Instr.status (xfer 0x05 0 [] []) ∈ hostRows (xfer 0x05 0 [] []) ∧ lab.readyHigh = true ∧
      (after (.writeEnable { opcode := 0x06, sent := [], flash := [] }) lab).bridge.pairing = true := by decide +kernel

/-- A PROGRAM collected at an address, with as many data bytes as given. -/
def collectedProgram (addr len : Nat) : Collected :=
  { cls := .program, opcode := 0x02, addr, data := List.replicate len 0x55, len }

theorem witness_ProgramIsWithheldOrIssued :
    (lab.hostKind (xfer 0x02 0x102000 [0x55] []) = .cls .program ∧
      collectProgram (xfer 0x02 0x102000 [0x55] []) (lab.classOf 0x02) lab.flashBytes = collectedProgram 0x102000 1 ∧
      lab.withholdReason (collectedProgram 0x102000 1) = none) ∧
    (lab.hostKind (xfer 0x02 0x120000 [0x55] []) = .cls .program ∧
      collectProgram (xfer 0x02 0x120000 [0x55] []) (lab.classOf 0x02) lab.flashBytes = collectedProgram 0x120000 1 ∧
      lab.withholdReason (collectedProgram 0x120000 1) = some .activeBank) := by decide +kernel

theorem test_program_is_issued :
    (after (.program (xfer 0x02 0x102000 [0x55] [])) lab).ports.toFlash = [⟨0x02, [0x10, 0x20, 0x00, 0x55], 0⟩] := by
  decide +kernel

def collectedErase (cls : CmdClass) (addr : Nat) : Collected := { cls, opcode := 0x20, addr, data := [], len := 0 }

theorem witness_EraseIsWithheldOrIssued :
    (lab.hostKind (xfer 0x20 0x102000 [] []) = .cls .erase4K ∧
      collectErase (xfer 0x20 0x102000 [] []) .erase4K (lab.classOf 0x20) lab.flashBytes = collectedErase .erase4K 0x102000 ∧
      lab.withholdReason (collectedErase .erase4K 0x102000) = none) ∧
    lab.hostKind (xfer 0x52 0x102000 [] []) = .cls .erase32K ∧ lab.hostKind (xfer 0xD8 0x102000 [] []) = .cls .erase64K ∧
    (lab.hostKind { opcode := 0x60, sent := [], flash := [] } = .cls .eraseAll ∧
      (collectErase { opcode := 0x60, sent := [], flash := [] } .eraseAll (lab.classOf 0x60) lab.flashBytes).addr = 0 ∧
      lab.withholdReason (collectedErase .eraseAll 0) = some .eraseAll) := by decide +kernel

/-- One command for each test of R7 and one that passes them all, and the ranges that show the tests apply. -/
theorem witness_FirstWithholdTestGivesTheReason :
    lab.withholdTest (collectedErase .eraseAll 0) .eraseAll ∧ lab.withholdTest (collectedProgram 0x102000 257) .oversize ∧
      lab.withholdTest (collectedProgram 0x120000 1) .activeBank ∧
      lab.withholdTest (collectedProgram 0x20FFFF 1) .viewRange ∧
      lab.withholdTest (collectedProgram 0xFF0000 1) .reportArea ∧
      lab.withholdReason (collectedProgram 0x20FFFF 1) = some .viewRange ∧
      lab.withholdReason (collectedProgram 0xFF0000 1) = some .reportArea ∧
      lab.withholdReason (collectedProgram 0x210000 1) = none := by
  have view : lab.view 0 = some
      { base := 0x200000, bankA := 2, bankB := 3, selected := .a, held := false, pendingCommit := none } := by
    decide +kernel
  refine ⟨⟨rfl, 0, by decide +kernel⟩, ⟨rfl, by decide⟩,
    ⟨0, _, geometry 0x120000 0, 0x120000, view, by decide +kernel, by decide, (0x120000, 0x120001), by decide +kernel, by decide,
      by decide⟩,
    ⟨0, _, 0x20FFFF, view, by decide +kernel, (0x20FFFF, 0x210000), by decide +kernel, by decide, by decide⟩,
    ⟨rfl, 0xFF0000, by decide +kernel, by decide +kernel, (0xFF0000, 0xFF0001), by decide +kernel, by decide, by decide⟩, ?_⟩
  decide +kernel

/-- A flash busy with a host's program on chunk 0. -/
def labBusy : State :=
  { lab with bridge := { lab.bridge with busy := true, owner := .host, touched := .each [[(0x100000, 0x100004)]] } }

/-- The lab with its short last chunk UNCHECKED. -/
def labShort : State := lab.modChunk 0 5 fun _ => chunk .unchecked (some 6) none false none

/-- Reads of a byte of a GOOD chunk, of an ERASED chunk, and of UNCHECKED chunks whose last byte the read has not passed, among them the
last byte itself; a dip in front of byte 0 and of byte 1; a busy flash; a chunk read whole; a read-back start in front of byte 0. -/
theorem witness_ReadDeliversProvenBytesAndFillsUnprovenOnes :
    (ContextLaw lab ∧ (xfer 0x03 0x100000 [] [7]).during = [] ∧ lab.hostKind (xfer 0x03 0x100000 [] [7]) = .cls .read ∧
      lab.isProtected (lab.siteOf 0x100000) = true ∧ lab.stateAt (lab.siteOf 0x100000) = some .good ∧
      lab.isProtected (lab.siteOf 0x102000) = true ∧ lab.stateAt (lab.siteOf 0x102000) = some .erased ∧
      lab.isProtected (lab.siteOf 0x101FFF) = true ∧ lab.stateAt (lab.siteOf 0x101FFF) = some .unchecked ∧
      (lab.siteOf 0x101FFF).site = some (1, (lab.win 0).body.chunkLen 1 - 1)) ∧
    (ContextLaw labBusy ∧ labBusy.hostKind { xfer 0x03 0x100000 [] [7, 7] with during := [(1, .bandChange .low)] } = .cls .read ∧
      labBusy.supply.band ≠ .low ∧ labBusy.supply.state ≠ .dip ∧ labBusy.bridge.busy = true ∧ labBusy.bridge.owner = .host ∧
      labBusy.isProtected (labBusy.siteOf 0x100001) = true ∧ (labBusy.siteOf 0x100001).window = some 0 ∧
      (labBusy.siteOf 0x100001).site = some (0, 1) ∧
      (labBusy.win 0).body.chunkMet 0 (labBusy.bridge.touched.ranges labBusy.flashBytes) = true) ∧
    (labBusy.hostKind (xfer 0x03 0x104000 [] [7]) = .cls .read ∧ (labBusy.siteOf 0x104000).window = some 0 ∧
      (labBusy.siteOf 0x104000).site = some (4, 0) ∧
      labBusy.chunk? 0 4 = some (chunk .unchecked (some 5) none false (some (.stream 1)))) ∧
    (ContextLaw labShort ∧ labShort.hostKind (xfer 0x03 0x105000 [] (List.replicate 100 7)) = .cls .read ∧
      labShort.chunk? 0 5 = some (chunk .unchecked (some 6) none false none) ∧ labShort.bridge.busy = false ∧
      labShort.stream 2 = none ∧ (labShort.win 0).body.chunkLen 5 = 100 ∧
      ∀ k, k < 100 →
        labShort.siteOf (0x105000 + k) = { view := none, addr := 0x105000 + k, window := some 0, site := some (5, k) }) ∧
    (QueueLaw lab ∧ lab.hostKind { xfer 0x03 0x101000 [] [7] with during := [(0, .readbackStart)] } = .cls .read ∧
      lab.scheduler.queue = [{ window := 0, chunk := 1, urgent := false }] ∧
      lab.chunk? 0 1 = some (chunk .unchecked (some 2) none true none) ∧ lab.engine.readback = none ∧
      lab.bridge.busy = false ∧ min 256 ((lab.win 0).body.chunkLen 1) ≤ lab.scheduler.credit) :=
  ⟨⟨lab_contextLaw, by decide +kernel⟩, ⟨contextLaw_of_check (by decide +kernel), by decide +kernel⟩, by decide +kernel,
    ⟨contextLaw_of_check (by decide +kernel), by decide +kernel⟩, lab_queueLaw, by decide +kernel⟩

/-- Reads of an unprotected byte, of no byte, and of bytes of a GOOD, an ERASED and an UNCHECKED chunk; no window's fill is reported. -/
theorem witness_ReadDeliversFlashOrFillAndKeepsTheRest :
    lab.hostKind (xfer 0x03 0x300000 [] [7]) = .cls .read ∧ lab.isProtected (lab.siteOf 0x300000) = false ∧
      (xfer 0x03 0x300000 [] [7]).during = [] ∧ ContextLaw lab ∧ lab.hostKind (xfer 0x03 0x300000 [] []) = .cls .read ∧
      lab.isProtected (lab.siteOf 0x100000) = true ∧ lab.stateAt (lab.siteOf 0x100000) = some .good ∧
      lab.isProtected (lab.siteOf 0x102000) = true ∧ lab.stateAt (lab.siteOf 0x102000) = some .erased ∧
      lab.isProtected (lab.siteOf 0x101FFF) = true ∧ lab.stateAt (lab.siteOf 0x101FFF) = some .unchecked ∧
      (lab.siteOf 0x102000).window = some 0 ∧ (lab.win 0).fillReported = false :=
  ⟨by decide +kernel, by decide +kernel, rfl, lab_contextLaw, by decide +kernel⟩

/-- From the byte below the view into it: the host's own command and then a read in the part's form, at the mapped address; the GOOD
chunk of the bank comes from flash (R4, R33). Behind the bank's image the view gives fill, reported and counted once (R5, R133). -/
theorem test_read_into_a_view :
    (after (.read (xfer 0x03 0x1FFFFF [] [7, 9])) lab).ports =
        { toHost := [7, 9], toFlash := [⟨0x03, [0x1F, 0xFF, 0xFF], 1⟩, ⟨0x03, [0x12, 0x00, 0x00], 1⟩] } ∧
      (let t := after (.read (xfer 0x03 0x201000 [] [7, 9])) lab;
        (t.ports.toHost, t.reports.queue, t.reports.counters.fillCommands, (t.win 2).fillReported) =
          ([0x5A, 0x5A], [.guardFill 2 (some 0) 3 0x5A], 1, true)) := by decide +kernel

/-- A dip behind the first of two bytes of the GOOD chunk under the host's program: flash, then fill (R149). -/
theorem test_dip_within_a_read :
    (after (.read { xfer 0x03 0x100000 [] [7, 7] with during := [(1, .bandChange .low)] }) labBusy).ports.toHost = [7, 0x5A] := by
  decide +kernel

/-- The lab with the end of the read stream of chunk 4 in reach of two bytes, whose digest is the expected one. -/
def labHarvest : State :=
  (lab.setStream 1 (some (stream .read 4 4094))).modChunk 0 4 fun c =>
    { c with expected := some (Running.start.absorb [7, 7]).complete }

/-- All contexts busy, and the short last chunk UNCHECKED with none. -/
def labCrowded : State :=
  { (lab.setStream 2 (some (stream .program 2 256))).modChunk 0 2 fun _ =>
      chunk .filling (some 3) none false (some (.stream 2)) with
    engine := { (lab.setStream 2 (some (stream .program 2 256))).engine with recency := [2, 1, 0] } }.modChunk 0 5 fun _ =>
    chunk .unchecked (some 6) none false none

/-- READs within one UNCHECKED chunk: of an unlinked one at offset 1, at offset 0 with no context FREE and with context 2 the first
FREE one; of one with a read stream at its first byte, at the frontier, and at the frontier up to the chunk's end. -/
theorem witness_ReadStreams :
    ((xfer 0x03 0x105001 [] [7]).during = [] ∧ labShort.hostKind (xfer 0x03 0x105001 [] [7]) = .cls .read ∧
      labShort.siteOf 0x105001 = { view := none, addr := 0x105001, window := some 0, site := some (5, 1) } ∧
      labShort.siteOf 0x105000 = { view := none, addr := 0x105000, window := some 0, site := some (5, 0) } ∧
      labShort.chunk? 0 5 = some (chunk .unchecked (some 6) none false none) ∧ labShort.bridge.busy = false ∧
      labShort.stream 2 = none ∧ ∀ j : Fin 3, j < 2 → (labShort.stream j).isSome = true) ∧
    (labCrowded.hostKind (xfer 0x03 0x105000 [] [7]) = .cls .read ∧ labCrowded.bridge.busy = false ∧
      labCrowded.siteOf 0x105000 = { view := none, addr := 0x105000, window := some 0, site := some (5, 0) } ∧
      labCrowded.chunk? 0 5 = some (chunk .unchecked (some 6) none false none) ∧
      ∀ k, (labCrowded.stream k).isSome = true) ∧
    (lab.siteOf 0x104000 = { view := none, addr := 0x104000, window := some 0, site := some (4, 0) } ∧
      lab.siteOf 0x104100 = { view := none, addr := 0x104100, window := some 0, site := some (4, 256) } ∧
      lab.chunk? 0 4 = some (chunk .unchecked (some 5) none false (some (.stream 1))) ∧
      lab.stream 1 = some (stream .read 4 256) ∧ (lab.win 0).body.chunkLen 4 = 4096) ∧
    (labHarvest.siteOf 0x104FFE = { view := none, addr := 0x104FFE, window := some 0, site := some (4, 4094) } ∧
      labHarvest.siteOf 0x104FFF = { view := none, addr := 0x104FFF, window := some 0, site := some (4, 4095) } ∧
      labHarvest.stream 1 = some (stream .read 4 4094)) ∧
    ContextLaw labShort ∧ ContextLaw labCrowded ∧ ContextLaw lab ∧ ContextLaw labHarvest :=
  ⟨by decide +kernel, by decide +kernel, by decide +kernel, by decide +kernel, contextLaw_of_check (by decide +kernel),
    contextLaw_of_check (by decide +kernel), lab_contextLaw, contextLaw_of_check (by decide +kernel)⟩

/-- R106 and R107: a start at offset 0 with a FREE context, none without one, and on chunk 4 an advance at the frontier, a drop in
front of it, and the verdict at the chunk's end. -/
theorem test_read_streams :
    (let t := after (.read (xfer 0x03 0x105000 [] [7, 7])) labShort;
      (t.stream 2).map (·.frontier) = some 2 ∧ t.engine.recency = [2, 1, 0]) ∧
    (after (.read (xfer 0x03 0x105000 [] [7, 7])) labCrowded).engine = labCrowded.engine ∧
    (let t := after (.read (xfer 0x03 0x104100 [] [7, 7])) lab;
      (t.stream 1).map (·.frontier) = some 258 ∧ t.engine.recency = [1, 0]) ∧
    (let t := after (.read (xfer 0x03 0x104000 [] [7, 7])) lab;
      t.stream 1 = none ∧ t.engine.recency = [0]) ∧
    ((after (.read (xfer 0x03 0x104FFE [] [7, 7])) labHarvest).chunk? 0 4).map (·.state) = some .good := by decide +kernel

/-- Within one READ the chunk that ends in it is harvested, and the chunk behind it becomes CHECKING (R105). -/
theorem test_harvest_then_readback_within_a_read :
    let s := { labHarvest with scheduler := { labHarvest.scheduler with queue := [{ window := 0, chunk := 5, urgent := true }] } }
    let t := after (.read { xfer 0x03 0x104FFE [] [7, 7, 7] with during := [(2, .readbackStart)] })
      (s.modChunk 0 5 fun _ => chunk .unchecked (some 6) none true none)
    (t.chunk? 0 4).map (·.state) = some .good ∧ (t.chunk? 0 5).map (·.state) = some .checking ∧
      t.ports.toHost = [0x5A, 0x5A, 0x5A] := by decide +kernel

/-- From the last byte of the GOOD chunk 0 into chunk 1, which is not proven: flash, then fill. -/
theorem test_read_fills_what_is_not_proven :
    (after (.read (xfer 0x03 0x100FFF [] [7, 7])) lab).ports.toHost = [7, 0x5A] := by decide +kernel

theorem witness_ViewAddressMapsIntoTheSelectedBank :
    WindowLaw lab ∧ ViewLaw lab ∧ lab.viewAt 0x200000 = some 0 ∧ lab.viewAt 0x20FFFF = some 0 ∧
      (lab.view 0).isSome = true ∧ lab.mapAddr 0x20FFFF = 0x12FFFF :=
  ⟨lab_windowLaw, lab_viewLaw, by decide +kernel⟩

/-! ### Witnesses: programs and erases at their forwarding -/

/-- The lab with a command in the buffer. -/
def holding (c : Collected) (s : State := lab) : State := { s with bridge := { s.bridge with collected := some c } }

theorem witness_ProgramThatReachesNoChunkOnlyTouches :
    (let s := holding (collectedProgram 0x300000 1);
      s.bridge.collected = some (collectedProgram 0x300000 1) ∧ s.windowAt (pageBase 0x300000) = none ∧
        s.pageInCommandArea 0x300000 = false) ∧
    (let s := holding (collectedProgram 0x140000 1);
      s.bridge.collected = some (collectedProgram 0x140000 1) ∧ s.windowAt (pageBase 0x140000) = some 4 ∧
        (s.win 4).body.landing 0x140000 1 = none) ∧
    (let s := holding (collectedProgram 0x105100 1);
      s.bridge.collected = some (collectedProgram 0x105100 1) ∧ s.windowAt (pageBase 0x105100) = some 0 ∧
        (s.win 0).body.landing 0x105100 1 = none ∧ (s.win 0).body.isLoaded = true) ∧
    (holding (collectedProgram 0x300000 0)).bridge.collected = some (collectedProgram 0x300000 0) ∧
    lab.bridge.collected = none := by decide +kernel

/-- R12: the 17th command puts the whole flash on the list. -/
theorem test_touched_list_of_sixteen_becomes_the_whole_flash :
    (let s := holding (collectedProgram 0x300000 1);
      (after .programForward { s with
        bridge := { s.bridge with busy := true, touched := .each (List.replicate 16 [(0, 1)]) } }).bridge.touched) = .whole := by
  decide +kernel

/-- A program in the middle of a GOOD chunk, a wrapping one on an ERASED chunk, one on a FILLING chunk outside NORMAL, and one on it
behind its frontier. -/
theorem witness_ProgramOutsideAStreamMakesItsChunkUnchecked :
    (let s := holding (collectedProgram 0x100100 4);
      s.bridge.collected = some (collectedProgram 0x100100 4) ∧ s.windowAt (pageBase 0x100100) = some 0 ∧
        (s.win 0).body.landing 0x100100 4 = some { chunk := 0, offset := 256, count := 4, wraps := false } ∧
        s.chunk? 0 0 = some goodChunk) ∧
    (let s := holding (collectedProgram 0x1020FF 4);
      s.bridge.collected = some (collectedProgram 0x1020FF 4) ∧ s.windowAt (pageBase 0x1020FF) = some 0 ∧
        (s.win 0).body.landing 0x1020FF 4 = some { chunk := 2, offset := 255, count := 4, wraps := true } ∧
        s.chunk? 0 2 = some (chunk .erased (some 3) none false none)) ∧
    (let s := holding (collectedProgram 0x103100 4) (lab.modSupply fun p => { p with state := .dip });
      s.bridge.collected = some (collectedProgram 0x103100 4) ∧ s.windowAt (pageBase 0x103100) = some 0 ∧
        s.supply.state ≠ .normal ∧
        (s.win 0).body.landing 0x103100 4 = some { chunk := 3, offset := 256, count := 4, wraps := false } ∧
        s.chunk? 0 3 = some (chunk .filling (some 4) none false (some (.stream 0)))) ∧
    (let s := holding (collectedProgram 0x103200 4);
      s.bridge.collected = some (collectedProgram 0x103200 4) ∧ s.windowAt (pageBase 0x103200) = some 0 ∧
        (s.win 0).body.landing 0x103200 4 = some { chunk := 3, offset := 512, count := 4, wraps := false } ∧
        s.chunk? 0 3 = some (chunk .filling (some 4) none false (some (.stream 0))) ∧
        (s.stream 0).map (·.frontier) = some 256) := by decide +kernel

theorem test_program_in_a_good_chunk :
    ((after .programForward (holding (collectedProgram 0x100100 4))).win 0).goodCount = 0 ∧
      ((after .programForward (holding (collectedProgram 0x100100 4))).chunk? 0 0).map (·.state) = some .unchecked := by
  decide +kernel

/-- The one chunk of a bank leaves GOOD (R78, R90). -/
theorem test_program_loses_the_image :
    (after .programForward (holding (collectedProgram 0x120100 4))).reports.queue = [.image 2 true 1 1 1 0] := by decide +kernel

/-- The lab with no context FREE: a program stream on chunk 3 and read streams on chunks 4 and 1, or program streams on all three. -/
def labFull (kind : StreamKind) : State :=
  let state : ChunkState := match kind with
    | .program => .filling
    | .read => .unchecked
  let s := (((lab.modChunk 0 1 fun c => { c with state := state, queued := false, link := some (.stream 2) }).modChunk 0 4 fun c =>
    { c with state := state }).setStream 1 (some (stream kind 4 256))).setStream 2 (some (stream kind 1 256))
  { s with
    engine := { s.engine with recency := [2, 1, 0] }
    scheduler := { s.scheduler with queue := [] } }

/-- States whose landing of 100 bytes covers a chunk: the short chunk 5 of the LOADED window, expected or not, and one of an OPEN window. -/
def allBytesDigest : Digest := 0x2B8D064F292DEFD7E5EA933EF9A264E2

theorem allBytesDigest_eq : allBytesDigest = chunkDigest ((List.replicate 100 (0x55 : Byte)).take 100) := by decide +kernel

def labShortErased (matching : Bool) : State :=
  lab.modChunk 0 5 fun _ => chunk .erased (some (if matching then allBytesDigest else 3)) none false none

def labShortOpen : State :=
  lab.setWin 1
    (window
      (.opened (geometry 0x110000 0)
        (catalogue 1 4196 6 0 [chunk .computed none (some 2) false none, chunk .erased none none false none])) 0)

theorem witness_ProgramAtOffsetZeroOfAnErasedChunkStartsAStream :
    (let s := holding (collectedProgram 0x102000 4);
      (s.bridge.collected = some (collectedProgram 0x102000 4) ∧ s.windowAt (pageBase 0x102000) = some 0 ∧
        (s.win 0).body.landing 0x102000 4 = some { chunk := 2, offset := 0, count := 4, wraps := false } ∧
        s.chunk? 0 2 = some (chunk .erased (some 3) none false none) ∧ s.supply.state = .normal ∧
        s.stream 2 = none ∧ (∀ j : Fin 3, j < 2 → (s.stream j).isSome = true) ∧ 4 ≠ (s.win 0).body.chunkLen 2 ∧
        (collectedProgram 0x102000 4).data.length = (collectedProgram 0x102000 4).len) ∧
      ContextLaw s ∧ s.takesContext 2) ∧
    (∀ kind k, (kind, k) ∈ [(StreamKind.read, (1 : Fin 3)), (.program, 0)] →
      let s := holding (collectedProgram 0x102000 4) (labFull kind)
      ContextLaw s ∧ s.takesContext k ∧ s.chunk? 0 2 = some (chunk .erased (some 3) none false none) ∧
        s.windowAt (pageBase 0x102000) = some 0 ∧ (s.stream k).isSome = true) ∧
    (∀ matching : Bool,
      let s := holding (collectedProgram 0x105000 100) (labShortErased matching)
      contextCheck s = true ∧ s.stream 2 = none ∧ s.windowAt (pageBase 0x105000) = some 0 ∧
        (s.win 0).body.landing 0x105000 100 = some { chunk := 5, offset := 0, count := 100, wraps := false } ∧
        s.chunk? 0 5 = some (chunk .erased (some (if matching then allBytesDigest else 3)) none false none) ∧
        (s.win 0).body.chunkLen 5 = 100 ∧
        (s.win 0).body.isLoaded = true) ∧
    (allBytesDigest = chunkDigest ((List.replicate 100 (0x55 : Byte)).take 100) ∧ allBytesDigest ≠ 3) ∧
    (let s := holding (collectedProgram 0x111000 100) labShortOpen;
      contextCheck s = true ∧ s.stream 2 = none ∧ s.windowAt (pageBase 0x111000) = some 1 ∧
        (s.win 1).body.landing 0x111000 100 = some { chunk := 1, offset := 0, count := 100, wraps := false } ∧
        s.chunk? 1 1 = some (chunk .erased none none false none) ∧ (s.win 1).body.chunkLen 1 = 100 ∧
        (s.win 1).body.isLoaded = false) := by
  refine ⟨⟨by decide +kernel, contextLaw_of_check (by decide +kernel), .inl ⟨by decide +kernel, by decide +kernel⟩⟩, ?_,
    by decide +kernel, ⟨allBytesDigest_eq, by decide +kernel⟩, by decide +kernel⟩
  intro kind k h
  have reads : ∀ k : Fin 3, ∀ x ∈ (holding (collectedProgram 0x102000 4) (labFull .program)).stream k, x.kind = .program := by
    decide +kernel
  simp only [List.mem_cons, Prod.mk.injEq, List.not_mem_nil, or_false] at h
  obtain ⟨rfl, rfl⟩ | ⟨rfl, rfl⟩ := h
  · refine ⟨contextLaw_of_check (by decide +kernel), .inr ⟨by decide +kernel, [2], [0], by decide +kernel, .inl ⟨⟨stream .read 4 256, by
      decide +kernel, rfl⟩, ?_⟩⟩, by decide +kernel⟩
    rintro j hj ⟨x, hx, hk⟩
    have first : ∀ x ∈ (holding (collectedProgram 0x102000 4) (labFull .read)).stream 0, x.kind = .program := by decide +kernel
    obtain rfl : j = 0 := by simpa using hj
    rw [first x hx] at hk
    cases hk
  · refine ⟨contextLaw_of_check (by decide +kernel), .inr ⟨by decide +kernel, [2, 1], [], by decide +kernel, .inr ⟨rfl, ?_⟩⟩, by
      decide +kernel⟩
    rintro j ⟨x, hx, hk⟩
    rw [reads j x hx] at hk
    cases hk

theorem test_program_evicts_the_oldest_read_stream :
    let t := after .programForward (holding (collectedProgram 0x102000 4) (labFull .read))
    (t.stream 1).map (·.chunk) = some 2 ∧ (t.chunk? 0 4).map (·.link) = some none ∧ t.reports.counters.evictions = 1 := by
  decide +kernel

theorem test_program_starts_a_stream :
    ((after .programForward (holding (collectedProgram 0x102000 4))).chunk? 0 2).map (·.state) = some .filling ∧
      (after .programForward (holding (collectedProgram 0x102000 4))).engine.recency = [2, 1, 0] := by decide +kernel

/-- Program streams at the frontier 3840 of chunk 3, whose next 256 bytes end it; the digest they give, and the states in which the
chunk's expected digest is that digest, or in which its window is OPEN. -/
def nearlyFull : StreamCtx := stream .program 3 3840

def fullDigest : Digest := (nearlyFull.run.absorb ((List.replicate 256 (0x55 : Byte)).take 256)).complete

def labNearlyFull : State := lab.setStream 0 (some nearlyFull)

def labMatching : State := labNearlyFull.modChunk 0 3 fun c => { c with expected := some fullDigest }

def labOpen : State :=
  (((lab.modChunk 1 0 fun c => { c with state := .filling, observed := none, link := some (.stream 2) }).setStream 2
    (some { stream .program 0 3840 with window := 1 })).modEngine fun e => { e with recency := [2, 1, 0] })

theorem witness_ProgramAtTheFrontierAdvancesOrFinalizesTheStream :
    (let s := holding (collectedProgram 0x103100 4);
      s.bridge.collected = some (collectedProgram 0x103100 4) ∧ s.windowAt (pageBase 0x103100) = some 0 ∧
        (s.win 0).body.landing 0x103100 4 = some { chunk := 3, offset := 256, count := 4, wraps := false } ∧
        s.chunk? 0 3 = some (chunk .filling (some 4) none false (some (.stream 0))) ∧ s.supply.state = .normal ∧
        s.stream 0 = some (stream .program 3 256) ∧ 256 + 4 ≠ (s.win 0).body.chunkLen 3) ∧
    (∀ s ∈ [holding (collectedProgram 0x103F00 256) labNearlyFull, holding (collectedProgram 0x103F00 256) labMatching],
      s.bridge.collected = some (collectedProgram 0x103F00 256) ∧ s.windowAt (pageBase 0x103F00) = some 0 ∧
        (s.win 0).body.landing 0x103F00 256 = some { chunk := 3, offset := 3840, count := 256, wraps := false } ∧
        (s.chunk? 0 3).map (fun c => (c.state, c.link)) = some (.filling, some (.stream 0)) ∧
        s.stream 0 = some nearlyFull ∧ 3840 + 256 = (s.win 0).body.chunkLen 3 ∧ (s.win 0).body.isLoaded = true ∧
        s.reports.queue.length < 16) ∧
    (labMatching.chunk? 0 3).map (fun c => c.expected) = some (some fullDigest) ∧
    (labNearlyFull.chunk? 0 3).map (fun c => c.expected) ≠ some (some fullDigest) ∧
    (let s := holding (collectedProgram 0x110F00 256) labOpen;
      s.bridge.collected = some (collectedProgram 0x110F00 256) ∧ s.windowAt (pageBase 0x110F00) = some 1 ∧
        (s.win 1).body.landing 0x110F00 256 = some { chunk := 0, offset := 3840, count := 256, wraps := false } ∧
        (s.chunk? 1 0).map (fun c => (c.state, c.link)) = some (.filling, some (.stream 2)) ∧
        s.stream 2 = some { stream .program 0 3840 with window := 1 } ∧ (s.win 1).body.isLoaded = false ∧
        3840 + 256 = (s.win 1).body.chunkLen 0) := by decide +kernel

/-- Erases of chunk 2 of the lab: covered fully; met in part, in a window of larger chunks; and outside the image. -/
def largeChunks : Window :=
  window
    (.loaded { geometry 0x150000 0 with chunkSize := 8192 } (catalogue 1 8192 20 1 [goodChunk]) { whole := 1, last := 1 }) 1

def labLarge : State := lab.setWin 5 largeChunks

theorem witness_EraseSendsEachChunkWhereTheTableSays :
    (let s := holding (collectedErase .erase4K 0x102010);
      s.bridge.collected = some (collectedErase .erase4K 0x102010) ∧
        eraseCover .erase4K 0x102010 s.flashBytes = (0x102000, 0x103000) ∧
        overlaps 0x102000 0x103000 (commandBase s.straps) (commandEnd s.straps) = false ∧
        (s.win 0).body.chunkMet 2 [(0x102000, 0x103000)] = true ∧
        (s.win 0).body.chunkCovered 2 (0x102000, 0x103000) = true ∧
        (s.win 0).body.chunkMet 1 [(0x102000, 0x103000)] = false) ∧
    (let s := holding (collectedErase .erase4K 0x151000) labLarge;
      eraseCover .erase4K 0x151000 s.flashBytes = (0x151000, 0x152000) ∧
        (s.win 5).body.chunkMet 0 [(0x151000, 0x152000)] = true ∧
        (s.win 5).body.chunkCovered 0 (0x151000, 0x152000) = false) ∧
    (let s := holding (collectedErase .erase4K 0x110000) (lab.modSupply fun p => { p with state := .settling });
      s.supply.state ≠ .normal ∧ (s.win 1).body.chunkMet 0 [eraseCover .erase4K 0x110000 s.flashBytes] = true ∧
        (s.win 1).body.chunkCovered 0 (eraseCover .erase4K 0x110000 s.flashBytes) = true) ∧
    GoodLaw (holding (collectedErase .erase4K 0x102010)) ∧ ContextLaw (holding (collectedErase .erase4K 0x102010)) :=
  ⟨by decide +kernel, by decide +kernel, by decide +kernel, lab_goodLaw, lab_contextLaw⟩

/-- Erases of the command area with and without the mark of a RESTART, and of the report area with the journal READY and FAILED. -/
theorem witness_EraseOfTheControlRegionResetsItsReaders :
    (∀ restart : Bool,
      let s : State := holding (collectedErase .erase4K 0xFE0000)
        { lab with reports := { lab.reports with marks := [{ addr := 0xFE0001, kind := .void, restart }] } }
      s.bridge.collected = some (collectedErase .erase4K 0xFE0000) ∧
        eraseCover .erase4K 0xFE0000 s.flashBytes = (0xFE0000, 0xFE1000) ∧
        overlaps 0xFE0000 0xFE1000 (commandBase s.straps) (commandEnd s.straps) = true ∧
        s.reports.marks.any (fun m => m.restart && m.inCover (0xFE0000, 0xFE1000)) = restart) ∧
    (∀ journal ∈ [Journal.ready, .failed],
      let s : State := holding (collectedErase .erase4K 0xFF0000) { lab with reports := { lab.reports with journal } }
      s.bridge.collected = some (collectedErase .erase4K 0xFF0000) ∧
        eraseCover .erase4K 0xFF0000 s.flashBytes = (0xFF0000, 0xFF1000) ∧
        overlaps 0xFF0000 0xFF1000 (reportBase s.straps) (reportEnd s.straps) = true ∧
        overlaps 0xFF0000 0xFF1000 (commandBase s.straps) (commandEnd s.straps) = false) := by decide +kernel

theorem test_erase_of_the_report_area_rescans :
    (after .eraseForward (holding (collectedErase .erase4K 0xFF0000))).reports.journal = .rescan := by decide +kernel

theorem witness_EraseCoverIsTheAlignedRange : 0xFFFFFF < flashSize 0 ∧ flashSize 0 = 0x1000000 := by decide

/-! ### Witnesses: supply -/

def withSupply (state : SupplyState) (band : Band) (settle : Option Nat) : State :=
  { lab with
    supply := { lab.supply with state, band, settle, away := some { leftAt := 3, entries := 1 }, latch := false } }

theorem witness_BandChangeFollowsTheSupplyTable :
    lab.part ≠ .held ∧ Band.low ≠ lab.supply.band ∧ Band.mid ≠ lab.supply.band ∧ lab.supply.state = .normal ∧
      Band.high ≠ (withSupply .dip .low none).supply.band ∧ (withSupply .dip .low none).supply.state = .dip ∧
      Band.mid ≠ (withSupply .settling .high (some 4)).supply.band ∧
      Band.high ≠ (withSupply .settling .mid none).supply.band ∧
      (withSupply .settling .mid none).supply.state = .settling := by decide +kernel

theorem test_low_band_enters_dip : (after (.bandChange .low) lab).supply.state = .dip ∧
    (after (.bandChange .low) lab).supply.away = some { leftAt := 7, entries := 1 } := by decide +kernel

/-- The busy flash with two bytes of a record collected, of which the touched list holds the second, or none. -/
def labTainted (hi : Nat) : State :=
  { labBusy with
    bridge := { labBusy.bridge with touched := .each [[(0x100000, 0x100004)], [(0xFE0001, hi)]] }
    parser := { labBusy.parser with phase := .inRecord [0x0D, 0xFF] false } }

theorem witness_DipMarksTheChunksUnderTheTouchedList :
    (labBusy.part ≠ .held ∧ labBusy.supply.band ≠ .low ∧ labBusy.supply.state ≠ .dip ∧ labBusy.bridge.busy = true ∧
      labBusy.bridge.owner = .host ∧
      (labBusy.win 0).body.chunkMet 0 (labBusy.bridge.touched.ranges labBusy.flashBytes) = true ∧
      (labBusy.win 0).body.chunkMet 1 (labBusy.bridge.touched.ranges labBusy.flashBytes) = false) ∧
    ((after (.bandChange .low) labBusy).reports.queue.length < 16 ∧ (after (.bandChange .low) labBusy).reports.dropped = false) ∧
    (withSupply .settling .high (some 4)).supply.state = .settling ∧ (withSupply .settling .high (some 4)).bridge.busy = false ∧
    (let s : State := { labBusy with supply := (withSupply .settling .high (some 4)).supply };
      s.supply.state = .settling ∧ s.supply.band ≠ .low ∧ s.bridge.busy = true ∧ s.bridge.owner = .host) ∧
    (labTainted 0xFE0002).parser.phase = .inRecord [0x0D, 0xFF] false ∧ labBusy.parser.phase = .ready := by decide +kernel

/-- The one chunk met was GOOD, in window 0 (R156). -/
theorem test_dip_report :
    (after (.bandChange .low) labBusy).reports.queue.getLast? = some (.supply false .host 1 7 0 1 1) := by decide +kernel

theorem test_dip_taints_the_record_under_the_touched_list :
    (after (.bandChange .low) (labTainted 0xFE0002)).parser.phase = .inRecord [0x0D, 0xFF] true ∧
      (after (.bandChange .low) (labTainted 0xFE0001)).parser.phase = .inRecord [0x0D, 0xFF] false := by decide +kernel

theorem witness_SettleTimerExpiryReturnsToNormal :
    (withSupply .settling .high (some 1)).supply.state = .settling ∧
      (withSupply .settling .high (some 1)).supply.settle = some 1 ∧
      (withSupply .settling .high (some 1)).reports.queue.length < 16 ∧
      (withSupply .settling .high (some 2)).supply.settle = some 2 ∧ lab.supply.state ≠ .settling ∧
      (let s := (withSupply .settling .high (some 1)).setDipTouched 0;
        (s.win 0).body.isLoaded = true ∧ (s.win 0).dipTouched = true ∧ (s.win 0).cursor < (s.win 0).body.count) := by decide +kernel

/-- Left at 3 ms, back at the tick that counts 8 ms: 5 ms away (R156), by the row and by the tick. -/
theorem test_settle_expiry_raises_supply :
    (after .settleTimerExpiry (withSupply .settling .high (some 1))).reports.queue = [.supply true .nobody 1 3 5 0 0] ∧
      (after .tick (withSupply .settling .high (some 1))).reports.queue = [.supply true .nobody 1 3 5 0 0] := by
  decide +kernel

theorem test_settle_expiry_queues_the_dip_touched_window :
    (after .settleTimerExpiry ((withSupply .settling .high (some 1)).setDipTouched 0)).scheduler.queue.map (fun e => e.chunk) =
      [1, 4] := by decide +kernel

/-! ### Witnesses: records -/

/-- A COMMIT record for view 0, bank B, as a host writes it. -/
def commitRecord : List Byte := [0x0A, 0xFF, 0x03, 0x00, 0xF1, 0xFF, 0x00, 0x00, 0x00, 0x01, 0x00, 0x00]

theorem witness_ProgramOutOfPlaceBreaksTheParser :
    (∀ p ∈ [(0xFE0100, 1), (0xFE01FF, 2)],
      let s := holding (collectedProgram p.1 p.2)
      s.bridge.collected = some (collectedProgram p.1 p.2) ∧ s.windowAt (pageBase p.1) = none ∧
        s.pageInCommandArea p.1 = true ∧ s.parser.phase ≠ .broken ∧ p.1 ≠ s.parser.collectionPoint) ∧
    programWraps 0xFE0100 1 = false ∧ programWraps 0xFE01FF 2 = true ∧
    (holding (collectedProgram 0xFE0000 1) (lab.modParser fun p => { p with phase := .broken })).parser.phase = .broken := by
  decide +kernel

/-- The lab with a program of these bytes at the collection point, with `got` collected behind the cursor. -/
def programmed (cursor : Nat) (got bytes : List Byte) : State :=
  let phase : ParsePhase := if got = [] then .ready else .inRecord got false
  holding { collectedProgram (cursor + got.length) bytes.length with data := bytes }
    (lab.modParser fun p => { p with phase, cursor })

/-- An end mark; headers of 1 and of 273 words; one of 2 words four bytes before the area's end, and one that fits exactly; and a header
split over two programs. -/
theorem witness_HeaderEndsOrBreaks :
    (∀ x ∈ [(0xFE0000, ([] : List Byte), [(0xFF : Byte), 0xFF, 0xFF, 0xFF]), (0xFE0000, [], [0x02, 0xFF, 0x01, 0x00]),
        (0xFE0000, [], [0x02, 0xFF, 0x11, 0x01]), (0xFEFFFC, [], [0x0D, 0xFF, 0x02, 0x00]),
        (0xFE0000, [0x02, 0xFF], [0x01, 0x00])],
      let s := programmed x.1 x.2.1 x.2.2
      s.windowAt (pageBase (x.1 + x.2.1.length)) = none ∧ s.pageInCommandArea (x.1 + x.2.1.length) = true ∧
        programWraps (x.1 + x.2.1.length) x.2.2.length = false ∧ x.1 + x.2.1.length = s.parser.collectionPoint ∧
        (x.2.1 ++ x.2.2).length = 4) ∧
    (programmed 0xFE0000 [] [0x02]).parser.holds [] false ∧
    (programmed 0xFE0000 [0x02, 0xFF] [0x01]).parser.holds [0x02, 0xFF] false ∧
    lab.breaks [0x02, 0xFF, 0x01, 0x00] .length ∧ lab.breaks [0x02, 0xFF, 0x11, 0x01] .length ∧
    (programmed 0xFEFFFC [] [0x0D]).breaks [0x0D, 0xFF, 0x02, 0x00] .overrun ∧
    (programmed 0xFEFFF8 [] [0x0D]).framed [0x0D, 0xFF, 0x02, 0x00] :=
  ⟨by decide +kernel, .inl ⟨rfl, rfl, rfl⟩, .inr rfl, ⟨by decide, .inl ⟨rfl, by decide +kernel⟩⟩, ⟨by decide, .inl ⟨rfl, by decide +kernel⟩⟩,
    ⟨by decide, .inr ⟨rfl, by decide +kernel, by decide +kernel, by decide +kernel⟩⟩,
    by decide +kernel, by decide +kernel, by decide +kernel⟩

/-- R160: what a header of a program does to the parser, and its PARSE report. -/
theorem test_headers_end_or_break :
    (let t := after .programForward (programmed 0xFE0000 [] [0xFF, 0xFF, 0xFF, 0xFF, 0x0D]);
      (t.parser.phase, t.parser.cursor, t.reports.queue) = (.ready, 0xFE0000, [])) ∧
    (let t := after .programForward (programmed 0xFE0000 [0x02, 0xFF] [0x01, 0x00]);
      (t.parser.phase, t.reports.queue) = (.broken, [.parse .length .live 0xFE0002 0xFE0000])) ∧
    (let t := after .programForward (programmed 0xFEFFFC [] [0x0D, 0xFF, 0x02, 0x00]);
      (t.parser.phase, t.reports.queue) = (.broken, [.parse .overrun .live 0xFEFFFC 0xFEFFFC])) := by decide +kernel

theorem witness_WholeRecordInOneProgramIsDispatchedOnce :
    lab.parser.phase = .ready ∧ 8 ≤ commitRecord.length ∧ commitRecord.length = 4 * recordWords commitRecord ∧
      recordWords commitRecord ≤ 272 ∧ lab.parser.cursor + commitRecord.length ≤ commandEnd lab.straps ∧
      (let s := holding { collectedProgram 0xFE0000 12 with data := commitRecord };
        s.bridge.collected = some { collectedProgram 0xFE0000 12 with data := commitRecord } ∧ commitRecord.length = 12 ∧
          s.windowAt (pageBase 0xFE0000) = none ∧ s.pageInCommandArea 0xFE0000 = true ∧ s.parser.phase ≠ .broken ∧
          programWraps 0xFE0000 12 = false ∧ 0xFE0000 = s.parser.collectionPoint) := by decide +kernel

/-- Five bytes of a record, and the seven that make it whole. -/
theorem witness_SplitRecord :
    (programmed 0xFE0000 (commitRecord.take 5) (commitRecord.drop 5)).parser.holds (commitRecord.take 5) false ∧
      commitRecord = commitRecord.take 5 ++ (commitRecord.drop 5).dropLast ++ [0x00] ∧ lab.incomplete (commitRecord.take 3) ∧
      lab.incomplete commitRecord.dropLast ∧ lab.whole commitRecord :=
  ⟨.inr rfl, by decide +kernel, .inl (by decide +kernel),
    .inr ⟨⟨by decide +kernel, by decide +kernel, by decide +kernel⟩, by decide +kernel⟩,
    ⟨by decide +kernel, by decide +kernel, by decide +kernel⟩, by decide +kernel⟩

/-- The second program of a record split in two gives its record's effect, at the record's address. -/
theorem test_split_record_is_taken :
    (let t := after .programForward (programmed 0xFE0000 (commitRecord.take 5) (commitRecord.drop 5));
      ((t.view 0).map (·.selected), t.parser.cursor, t.reports.marks)) =
        (some .b, 0xFE000C, [{ addr := 0xFE0001, kind := .kept, restart := false }]) := by decide +kernel

/-- A COMMIT to bank B, whose image is complete and newer: the selection changes. -/
theorem test_commit_record_changes_the_selection :
    ((after .programForward
      (holding { collectedProgram 0xFE0000 12 with data := commitRecord })).view 0).map (·.selected) = some .b := by
  decide +kernel

/-- An intact ACK of three words, one too many. -/
def longAck : List Byte := [0x0E, 0xFF, 0x03, 0x00, 0xEE, 0x00, 0x00, 0x00, 0x00, 0x00, 0x00, 0x00]

theorem witness_RecordTestsComeInOrder :
    recordIntact (commitRecord.set 4 0) = false ∧ recordIntact commitRecord = true ∧
      recordIntact [0x20, 0xFF, 0x02, 0x00, 0xDD, 0x00, 0x00, 0x00] = true ∧
      RecKind.ofCode (recordKind [0x20, 0xFF, 0x02, 0x00, 0xDD, 0x00, 0x00, 0x00]).toNat = none ∧
      RecKind.ofCode (recordKind [0x0A, 0xFF, 0x02, 0x00, 0xF3, 0x00, 0x00, 0x00]).toNat = some .commit ∧
      recordIntact [0x0A, 0xFF, 0x02, 0x00, 0xF3, 0x00, 0x00, 0x00] = true ∧
      recordWords [0x0A, 0xFF, 0x02, 0x00, 0xF3, 0x00, 0x00, 0x00] ≠
        RecKind.commit.words [0x0A, 0xFF, 0x02, 0x00, 0xF3, 0x00, 0x00, 0x00] ∧
      recordWords commitRecord = RecKind.commit.words commitRecord ∧ RecKind.ofCode (recordKind commitRecord).toNat = some .commit ∧
      commitRecord[1]? = some 0xFF ∧ dispositionOf 0xFF ≠ .void ∧ (commitRecord.set 1 0)[1]? = some 0 ∧ dispositionOf 0 = .void ∧
      RecKind.ofCode (recordKind longAck).toNat = some .ack ∧ recordIntact longAck = true ∧
      recordWords longAck ≠ RecKind.ack.words longAck ∧ longAck[1]? = some 0xFF ∧
      recordIntact [0x0E, 0xFF, 0x02, 0x00, 0xEF, 0x00, 0x00, 0x00] = true ∧
      recordWords [0x0E, 0xFF, 0x02, 0x00, 0xEF, 0x00, 0x00, 0x00] = 2 := by decide +kernel

/-- The shape of a ruling. -/
def shape : Ruling → Nat
  | .taken _ => 0
  | .pended _ => 1
  | .refused _ _ => 2
  | .commitRefused _ => 3

/-- The lab with view 0 as given. -/
def withView (selected : Bank) (held : Bool) (pendingCommit : Option PendingCommit) : State :=
  lab.setView 0 (some { base := 0x200000, bankA := 2, bankB := 3, selected, held, pendingCommit })

/-- An intact COMMIT of view 0 to bank A or B, with a disposition. -/
def commitTo (bank disposition : Byte) : List Byte :=
  let bytes : List Byte := [0x0A, 0xFF, 0x03, 0x00, 0x00, 0x00, 0x00, 0x00, 0x00, bank, 0x00, 0x00]
  bytes.take 1 ++ [disposition] ++ (bytes.drop 2).take 2 ++ leBytes 2 (recordCheck bytes) ++ bytes.drop 6

/-- A COMMIT taken live, one that pends, and one that a commit check refuses; a one-shot record and a RESTART taken live. -/
theorem witness_LiveRecords :
    (∀ bank ∈ [(0 : Byte), 1],
      recordIntact (commitTo bank 0xFF) = true ∧ RecKind.ofCode (recordKind (commitTo bank 0xFF)).toNat = some .commit) ∧
      shape (lab.rule 0xFE0000 (commitTo 1 0xFF) false) = 0 ∧
      shape ((withView .a true none).rule 0xFE0000 (commitTo 1 0xFF) false) = 1 ∧
      shape ((withView .b false none).rule 0xFE0000 (commitTo 0 0xFF) false) = 3 ∧
      shape (lab.rule 0xFE0000 [0x0E, 0xFF, 0x02, 0x00, 0xEF, 0x00, 0x00, 0x00] false) = 0 ∧
      RecKind.ofCode (recordKind [0x0E]).toNat = some .ack ∧
      shape (lab.rule 0xFE0000 [0x0F, 0xFF, 0x02, 0x00, 0xEE, 0x00, 0x00, 0x00] false) = 0 ∧
      RecKind.ofCode (recordKind [0x0F]).toNat = some .restart := by decide +kernel

/-- A standing record at replay: taken as kept, taken and refused as fresh. -/
theorem witness_ReplayedRecords :
    (∀ d ∈ [(0xFF : Byte), 0x0F],
      (commitTo 0 d)[1]? = some d ∧ recordIntact (commitTo 0 d) = true ∧
        recordWords (commitTo 0 d) = RecKind.commit.words (commitTo 0 d)) ∧
      dispositionOf 0xFF = .fresh ∧ dispositionOf 0x0F = .kept ∧
      shape ((withView .b false none).dispatch .commit .replayKept 0xFE0000 (commitTo 0 0x0F)) = 0 ∧
      shape (lab.dispatch .commit .replayFresh 0xFE0000 (commitTo 0 0xFF)) = 0 ∧
      shape ((withView .b false none).dispatch .commit .replayFresh 0xFE0000 (commitTo 0 0xFF)) = 3 ∧
      shape ((lab.setView 0 none).dispatch .commit .replayFresh 0xFE0000 (commitTo 0 0xFF)) = 2 := by decide +kernel

/-- A one-shot record of wrong length is refused with RANGE at replay too (R178). -/
theorem test_replay_refuses_a_long_one_shot :
    (lab.replayRecord longAck).reports.queue = [.recordRefused 0x0E .range .replay 0xFE0000] ∧
      (lab.replayRecord longAck).parser.refused = 1 := by decide +kernel

theorem witness_RefusedRecordIsVoidedReportedAndPassed :
    lab.rule lab.parser.cursor commitRecord true = .refused lab .supply ∧ lab.reports.queue.length < 16 := by
  refine ⟨?_, by decide +kernel⟩
  have intact : recordIntact commitRecord = true := by decide +kernel
  simp [State.rule, intact]

theorem test_disposition_bytes :
    dispositionOf 0xFF = .fresh ∧ dispositionOf 0x0F = .kept ∧ dispositionOf 0xF0 = .void ∧ dispositionOf 0x00 = .void ∧
      dispositionOf 0x8F = .fresh ∧ dispositionOf 0xFE = .void := by decide

/-! ### Witnesses: internal operations -/

/-- The lab with a mark and a report waiting. -/
def waitingMark : Mark := { addr := 0xFE0001, kind := .kept, restart := false }

def labMark (restart : Bool := false) : State :=
  { lab with reports := { lab.reports with marks := [{ waitingMark with restart }] } }

def labReport : State :=
  { lab with reports := { lab.reports with queue := [.parse .wrap .live 0 0], dropped := true } }

def withOp (op : PortOp) (s : State) : State := { s with bridge := { s.bridge with portOp := some op } }

def startingState (op : PortOp) : State := withOp op { lab with part := .starting }

theorem witness_EndMarkEndsReplayAndThePartRuns :
    (startingState (.startupRead .replay)).bridge.portOp = some (.startupRead .replay) ∧
      (startingState (.startupRead .replay)).parser.phase = .ready ∧ (List.replicate 252 (0x00 : Byte)).length = 252 := by
  decide +kernel

/-- A replay whose cursor stands at an address. -/
def replaying (cursor : Nat) : State := (startingState (.startupRead .replay)).modParser fun p => { p with cursor }

/-- Bytes that end a read without a record, a whole record that reaches the area's end, an end mark, and a broken header. -/
theorem witness_ReplayFraming :
    (replaying 0xFEFFF8).bridge.portOp = some (.startupRead .replay) ∧ (replaying 0xFEFFF8).parser.holds [] false ∧
      (replaying 0xFE0000).incomplete [0x02] ∧
      (replaying 0xFEFFF8).whole [0x0E, 0xFF, 0x02, 0x00, 0xEF, 0x00, 0x00, 0x00] ∧
      (replaying 0xFE0000).breaks [0x02, 0xFF, 0x01, 0x00] .length ∧
      (replaying 0xFEFFFC).breaks [0x02, 0xFF, 0x02, 0x00] .overrun :=
  ⟨rfl, .inl ⟨rfl, rfl, rfl⟩, .inl (by decide), ⟨⟨by decide +kernel, by decide +kernel, by decide +kernel⟩, by decide +kernel⟩,
    ⟨by decide, .inl ⟨rfl, by decide +kernel⟩⟩, ⟨by decide, .inr ⟨rfl, by decide +kernel, by decide +kernel, by decide +kernel⟩⟩⟩

/-- R168, R169: an ACK, skipped, up to the area's end; a header of one word; and a read that ends inside a record. -/
theorem test_replay_ends :
    ((after (.startupReadEnd ([0x0E, 0xFF, 0x02, 0x00, 0xEF, 0x00, 0x00, 0x00] ++ List.replicate 248 0))
        (replaying 0xFEFFF8)).reports.queue = [.start lab.cause lab.straps .areaEnd 0 0 1 0xFF0000]) ∧
    (let t := after (.startupReadEnd ([0x02, 0xFF, 0x01, 0x00] ++ List.replicate 252 0)) (replaying 0xFE0000);
      (t.part, t.reports.queue) =
        (.running, [.parse .length .replay 0 0xFE0000, .start lab.cause lab.straps .broken 0 0 0 0xFE0000])) ∧
    (let t := after (.startupReadEnd ([0x02, 0xFF, 0x41, 0x00] ++ List.replicate 252 0)) (replaying 0xFE0000);
      (t.part, t.parser.collectionPoint, t.reports.queue) = (.starting, 0xFE0100, [])) := by decide +kernel

theorem witness_StatusPollClearsTheBusyRecord :
    let s : State := { labMark with bridge := { lab.bridge with busy := true, owner := .internal } }
    s.portFree = true ∧ s.bridge.busy = true ∧
      ({ s with bridge := { s.bridge with busy := false } } : State).anyReady = true ∧ lab.bridge.busy = false := by
  decide +kernel

theorem test_poll_clears_busy :
    (after (.statusPoll false 0x02)
      { labMark with bridge := { lab.bridge with busy := true, owner := .internal } }).bridge.busy = false := by
  decide +kernel

theorem witness_MarkProgramStartsUnderItsConditions :
    labMark.reports.marks = [waitingMark] ∧ labMark.portFree = true ∧ labMark.bridge.busy = false ∧
      labMark.bridge.pairing = false ∧ labMark.part ≠ .held ∧ labMark.supply.state = .normal ∧
      labMark.reports.journal ≠ .failed ∧ lab.reports.marks = [] ∧ labMark.turnIsInternal false ∧
      ¬labMark.turnIsInternal true := by
  refine ⟨by decide +kernel, by decide +kernel, by decide +kernel, by decide +kernel, by decide +kernel, by decide +kernel,
    by decide +kernel, by decide +kernel, .inr (.inl rfl), ?_⟩
  unfold State.turnIsInternal
  decide +kernel

theorem test_mark_program :
    (after (.markProgram false) labMark).ports.toFlash = [⟨0x06, [], 0⟩, ⟨0x02, [0xFE, 0x00, 0x01, 0x0F], 0⟩] := by
  decide +kernel

theorem witness_ReportProgramWritesTheSlotAtTheIndex :
    labReport.reports.queue = [.parse .wrap .live 0 0] ∧ labReport.reports.marks = [] ∧ labReport.portFree = true ∧
      labReport.bridge.busy = false ∧ labReport.bridge.pairing = false ∧ labReport.part ≠ .held ∧
      labReport.supply.state = .normal ∧ labReport.reports.journal = .ready ∧ labMark.reports.marks ≠ [] ∧
      lab.reports.queue = [] := by decide +kernel

theorem test_report_program_clears_dropped : (after (.reportProgram false) labReport).reports.dropped = false := by
  decide +kernel

/-- A poll of a mark program, of a RESTART's mark program and of a report program; the transaction end of one. -/
theorem witness_InternalProgramCompletesAtAClearPoll :
    (withOp (.program .mark .programming 0) labMark).bridge.portOp = some (.program .mark .programming 0) ∧
    lab.bridge.portOp ≠ some (.program .mark .programming 0) ∧
    (∀ restart : Bool,
      let s := withOp (.program .mark .polling 0) { labMark restart with bridge := { lab.bridge with busy := true } }
      s.bridge.busy = true ∧ s.bridge.portOp = some (.program .mark .polling 0) ∧
        s.reports.marks = [{ waitingMark with restart }]) ∧
    (let s := withOp (.program .report .polling 0) { labReport with bridge := { lab.bridge with busy := true } };
      s.bridge.busy = true ∧ s.bridge.portOp = some (.program .report .polling 0)) := by decide +kernel

theorem test_report_is_written :
    (after (.internalProgramPoll 0x00)
      (withOp (.program .report .polling 0) { labReport with bridge := { lab.bridge with busy := true } })).reports.index = 4 := by
  decide +kernel

theorem test_transaction_end_is_busy :
    (after .internalProgramTransactionEnd (withOp (.program .mark .programming 3) labMark)).bridge.owner = .internal := by
  decide +kernel

theorem witness_TwentiethTickFailsTheInternalProgram :
    ((withOp (.program .mark .polling 19) labMark).bridge.portOp = some (.program .mark .polling 19) ∧
      ∀ m ∈ (withOp (.program .mark .polling 19) labMark).reports.marks, m.restart = false) ∧
    ((withOp (.program .mark .polling 19) (labMark true)).bridge.portOp = some (.program .mark .polling 19) ∧
      ∃ m ∈ (withOp (.program .mark .polling 19) (labMark true)).reports.marks, m.restart = true) ∧
    (withOp (.program .mark .polling 18) labMark).bridge.portOp = some (.program .mark .polling 18) := by decide +kernel

theorem test_timeout_fails_the_journal :
    (after .internalProgramTimeout (withOp (.program .mark .polling 19) labMark)).reports.journal = .failed := by decide +kernel

/-- A scan and a replay read are due, and in the running lab neither is. -/
def labStarting (journal : Journal) : State :=
  { lab with part := .starting, reports := { lab.reports with journal } }

theorem witness_StartupReadAsksForTheNextBytes :
    (∀ s ∈ [labStarting .scanning, labStarting .ready, lab],
      s.markReady = false ∧ s.reportReady = false ∧ s.portFree = true ∧ s.bridge.busy = false ∧
        s.bridge.pairing = false ∧ s.part ≠ .held ∧ s.internalTurn false = true) ∧
    (labStarting .scanning).reports.journal = .scanning ∧
    ((labStarting .ready).part = .starting ∧ (labStarting .ready).reports.journal ≠ .scanning ∧
      (labStarting .ready).reports.journal ≠ .rescan) ∧
    (lab.part ≠ .starting ∧ lab.reports.journal ≠ .scanning ∧ lab.reports.journal ≠ .rescan) ∧
    (labMark.markReady = true ∧ labReport.reportReady = true ∧ labBusy.bridge.busy = true ∧
      (startingState (.startupRead .scan)).portFree = false ∧ lab.internalTurn true = false) := by decide +kernel

/-- R16 and R18: a scan read that is due waits for a free port and for a flash that is not busy (log entry 5). -/
theorem test_startup_read_waits :
    ∀ s ∈ [withOp (.startupRead .scan) (labStarting .scanning),
        { labStarting .scanning with bridge := { lab.bridge with busy := true } }],
      after (.startupRead false) s = s := by decide +kernel

theorem test_startup_read :
    (after (.startupRead false) (labStarting .ready)).ports.toFlash = [⟨0x03, [0xFE, 0x00, 0x00], 256⟩] := by decide +kernel

/-- A read whose third slot is the first unwritten one, and reads without one in the middle and at the end of the area. -/
def slots (written : Nat) : List Byte := List.replicate (32 * written) 0x01 ++ List.replicate (32 * (8 - written)) 0xFF

theorem witness_ScanFindsTheFirstUnwrittenSlot :
    (startingState (.startupRead .scan)).bridge.portOp = some (.startupRead .scan) ∧ (slots 2).length = 256 ∧
      slotUnwritten (slots 2) 2 = true ∧ (∀ i, i < 2 → slotUnwritten (slots 2) i = false) ∧
      (∀ j, j < 8 → slotUnwritten (slots 8) j = false) ∧
      (startingState (.startupRead .scan)).reports.scanSlot + 8 < 2048 ∧
      2048 ≤ ((startingState (.startupRead .scan)).modReports fun r => { r with scanSlot := 2040 }).reports.scanSlot + 8 ∧
      lab.bridge.portOp ≠ some (.startupRead .scan) ∧ (List.replicate 255 (0xFF : Byte)).length ≠ 256 := by
  decide +kernel

theorem test_scan_finds_slot_two :
    (after (.startupReadEnd (slots 2)) (startingState (.startupRead .scan))).reports.index = 2 := by decide +kernel

/-! ### Witnesses: read-back and time -/

theorem witness_ReadbackStartTakesTheHeadEntry :
    QueueLaw lab ∧ ContextLaw lab ∧ lab.scheduler.queue = [{ window := 0, chunk := 1, urgent := false }] ∧
      lab.chunk? 0 1 = some (chunk .unchecked (some 2) none true none) ∧ lab.part = .running ∧ lab.engine.readback = none ∧
      lab.bridge.busy = false ∧ min 256 ((lab.win 0).body.chunkLen 1) ≤ lab.scheduler.credit :=
  ⟨lab_queueLaw, lab_contextLaw, by decide +kernel⟩

theorem test_readback_start :
    ((after .readbackStart lab).chunk? 0 1).map (·.state) = some .checking ∧
      (after .readbackStart { lab with scheduler := { lab.scheduler with credit := 255 } }).engine.readback = none := by
  decide +kernel

def readback (next : Nat) (inFlight : Option Nat) (urgent : Bool) : ReadbackCtx :=
  { window := 0, chunk := 1, next, inFlight, run := Running.start, urgent }

/-- The lab with a read-back of chunk 1 under way. -/
def labReadback (r : ReadbackCtx) (credit : Nat := 8192) (expected : Digest := 2) : State :=
  ({ lab with scheduler := { lab.scheduler with queue := [], credit } }.modChunk 0 1 fun c =>
    { c with state := .checking, queued := false, expected := some expected, link := some .readback }).setReadback (some r)

theorem witness_BurstReadsTheChunkAndSpendsItsCredit :
    let s := labReadback (readback 256 none false)
    s.engine.readback = some (readback 256 none false) ∧ 256 = min 256 ((s.win 0).body.chunkLen 1 - 256) ∧
      s.markReady = false ∧ s.reportReady = false ∧ s.startupReady = false ∧ s.bridge.portOp = none ∧
      s.bridge.collected = none ∧ s.bridge.busy = false ∧ s.bridge.pairing = false ∧ s.part = .running ∧
      256 ≤ s.scheduler.credit ∧ (labReadback (readback 256 none false) 255).scheduler.credit < 256 := by decide +kernel

/-- A burst is not due without a read-back, with a burst in flight, with a busy flash, behind a mark, and with a host command
waiting before the claim count is 2 (R16, R18, R111). -/
theorem witness_BurstIsNotDue :
    lab.engine.readback = none ∧
      (labReadback (readback 256 (some 256) false)).engine.readback = some (readback 256 (some 256) false) ∧
      labBusy.bridge.busy = true ∧ labMark.markReady = true ∧ lab.bridge.claim ≠ 2 ∧
      (let s := { labReadback (readback 256 none false) with bridge := { lab.bridge with claim := 1 } };
        after (.readbackBurst true) s = s) := by decide +kernel

theorem test_burst_spends_credit :
    (after (.readbackBurst false) (labReadback (readback 256 none false))).scheduler.credit = 7936 ∧
      (after (.readbackBurst false) (labReadback (readback 256 none false))).ports.toFlash =
        [⟨0x03, [0x10, 0x11, 0x00], 256⟩] := by decide +kernel

/-- The last burst of a chunk, with a digest that is the expected one and one that is not; and a burst in the middle. -/
def lastDigest : Digest := (Running.start.absorb (List.replicate 256 0xFF)).complete

theorem witness_BurstEndAdvancesOrGivesTheVerdict :
    let s := labReadback (readback 3840 (some 256) false)
    s.engine.readback = some (readback 3840 (some 256) false) ∧
      (readback 3840 (some 256) false).inFlight = some (List.replicate 256 (0xFF : Byte)).length ∧
      3840 + 256 = (s.win 0).body.chunkLen 1 ∧ (s.win 0).body.isLoaded = true ∧
      (s.chunk? 0 1).map (fun c => c.state) = some .checking ∧
      ((labReadback (readback 3840 (some 256) false) 0 lastDigest).chunk? 0 1).map (fun c => c.expected) = some (some lastDigest) ∧
      (2 : Digest) ≠ lastDigest ∧ 256 + 256 ≠ (s.win 0).body.chunkLen 1 ∧ s.reports.queue.length < 16 ∧
      lab.engine.readback = none ∧ (readback 3840 (some 256) false).inFlight ≠ some (List.replicate 255 (0xFF : Byte)).length := by
  decide +kernel

theorem test_burst_end_proves_the_chunk :
    ((after (.readbackBurstEnd (List.replicate 256 0xFF))
      (labReadback (readback 3840 (some 256) false) 0 lastDigest)).chunk? 0 1).map (·.state) = some .good := by decide +kernel

/-- The last burst of the one chunk of an image for which a CHECK waits. -/
def labLast : State :=
  (lab.setWin 5
    { window
        (.loaded (geometry 0x150000 0)
          (catalogue 1 4096 20 1 [chunk .checking (some lastDigest) none false (some .readback)]) { whole := 1, last := 1 }) 0 with
      checkReportWanted := true }).setReadback
    (some { readback 3840 (some 256) false with window := 5, chunk := 0 })

/-- IMAGE (verified) and then CHECK_DONE, which clears the flag (R72, R90, R123). -/
theorem test_last_verdict_completes_the_image :
    (let t := after (.readbackBurstEnd (List.replicate 256 0xFF)) labLast;
      (t.reports.queue, (t.win 5).checkReportWanted)) =
        ([.image 5 false 1 1 1 1, .checkDone 5 1 1 0 0], false) := by decide +kernel

theorem test_bad_chunks_are_reported :
    ((after (.readbackBurstEnd (List.replicate 256 0xFF)) (labReadback (readback 3840 (some 256) false))).reports.queue.contains
      (.chunkBad 0 .readback 1 4096)) = true ∧
      ((after .programForward (holding (collectedProgram 0x103F00 256) labNearlyFull)).reports.queue.contains
        (.chunkBad 0 .stream 3 4096)) = true := by decide +kernel

theorem witness_TickIsSharedByEveryTimer :
    (after .resetPinAssert lab).part = .held ∧
    (∀ timer ∈ [18, 19],
      let s := withOp (.program .mark .polling timer) labMark
      s.part ≠ .held ∧ s.bridge.portOp = some (.program .mark .polling timer) ∧
        ∀ m ∈ s.reports.marks, m.restart = false) ∧
    (∀ n ∈ [1, 2],
      let s := withSupply .settling .high (some n)
      s.part ≠ .held ∧ s.bridge.portOp = none ∧ s.supply.state = .settling ∧ s.supply.settle = some n) := by
  decide +kernel

theorem test_tick_adds_credit :
    (after .tick { lab with scheduler := { lab.scheduler with credit := 0 } }).scheduler.credit = 2048 ∧
      (after .tick lab).scheduler.credit = 8192 := by decide +kernel

def withQuiet (n : Nat) : State := lab.modWin 0 fun v => { v with quiet := some n }

theorem witness_QuietTimerExpiryQueuesTheWindow :
    ((withQuiet 1).win 0).quiet = some 1 ∧ ((withQuiet 2).win 0).quiet = some 2 ∧ (lab.win 0).quiet = none ∧
      ((withQuiet 1).win 0).body.isLoaded = true ∧ ((withQuiet 1).win 0).cursor < ((withQuiet 1).win 0).body.count := by
  decide +kernel

theorem test_quiet_expiry_queues_chunk_four :
    (after (.quietTimerExpiry 0) (withQuiet 1)).scheduler.queue.map (fun e => e.chunk) = [1, 4] := by decide +kernel

/-! ### Witnesses: check queue and record owners -/

/-- A LOADED window of 70 UNCHECKED chunks, the first `queued` of them queued, and the queue that holds these. -/
def manyChunks (queued : Nat) : Window :=
  window
    (.loaded { geometry 0x150000 0 with size := 0x50000 }
      (catalogue 1 286720 20 70 ((List.range 70).map fun i => chunk .unchecked (some 1) none (decide (i < queued)) none))
      { whole := 2, last := 2 }) 0

def labMany (urgent : Nat) : State :=
  { lab.setWin 6 (manyChunks 64) with
    scheduler :=
      { lab.scheduler with
        queue := (List.range 64).map fun i => { window := 6, chunk := i, urgent := decide (i < urgent) } } }

/-- With the queue full of urgent entries the window keeps check-wanted (R121). -/
theorem test_quiet_expiry_at_a_full_queue :
    (let t := after (.quietTimerExpiry 0) ((labMany 64).modWin 0 fun v => { v with quiet := some 1 });
      (t.queueFull, (t.win 0).checkWanted, (t.win 0).quiet)) = (true, true, none) := by decide +kernel

theorem labMany_queueLaw (urgent : Nat) (sorted : (labMany urgent).scheduler.queue.Pairwise fun a b => b.urgent = true → a.urgent = true)
    (stands : ∀ e ∈ (labMany urgent).scheduler.queue,
      ((labMany urgent).win e.window).body.isLoaded = true ∧
        ∃ c ∈ (labMany urgent).chunk? e.window e.chunk, c.state = .unchecked ∧ c.queued = true)
    (once : ((labMany urgent).scheduler.queue.map fun e => (e.window, e.chunk)).Nodup) : QueueLaw (labMany urgent) :=
  ⟨by simp [labMany, Config.queueEntries], once, stands, sorted⟩

theorem witness_CheckAddsGoWhereTheirClassSays :
    (QueueLaw lab ∧ (lab.win 0).body.isLoaded = true ∧ lab.addable 0 4 = true ∧ lab.scheduler.queue.length < 64) ∧
    (QueueLaw (labMany 64) ∧ (labMany 64).addable 6 64 = true ∧ (labMany 64).scheduler.queue.length = 64 ∧
      ∀ e ∈ (labMany 64).scheduler.queue, e.urgent = true) ∧
    (QueueLaw (labMany 3) ∧ (labMany 3).addable 6 64 = true ∧
      (labMany 3).scheduler.queue.getLast? = some { window := 6, chunk := 63, urgent := false }) :=
  ⟨⟨lab_queueLaw, by decide +kernel⟩,
    ⟨labMany_queueLaw 64 (by decide +kernel) (by decide +kernel) (by decide +kernel), by decide +kernel⟩,
    ⟨labMany_queueLaw 3 (by decide +kernel) (by decide +kernel) (by decide +kernel), by decide +kernel⟩⟩

/-- A record of three words that names a window, a view or an opcode in its first field. -/
def shortRecord (kind first second : Byte) : List Byte :=
  [kind, 0xFF, 0x03, 0x00, 0x00, 0x00, 0x00, 0x00, first, second, 0x00, 0x00]

/-- The taken state of a ruling. -/
def taken : Ruling → Option State
  | .taken s => some s
  | .pended _ => none
  | .refused _ _ => none
  | .commitRefused _ => none

/-- CHECK records for windows 32, 0 (with an UNCHECKED chunk), 2 (settled) and 4 (not LOADED), and with priority 2. -/
theorem witness_CheckRecord :
    field (shortRecord 0x06 32 0) 8 1 = 32 ∧ field (shortRecord 0x06 0 2) 9 1 = 2 ∧ field (shortRecord 0x06 0 1) 8 1 = (0 : Fin 32).val ∧
      field (shortRecord 0x06 0 1) 9 1 = 1 ∧ (lab.win 4).body.isLoaded = false ∧ (lab.win 0).body.isLoaded = true ∧
      (∃ cat ∈ (lab.win 0).body.cat?, ∃ x ∈ cat.chunks, x.state = .unchecked) ∧ (lab.win 2).body.isLoaded = true ∧
      ∀ cat ∈ (lab.win 2).body.cat?, ∀ x ∈ cat.chunks, x.state = .good := by decide +kernel

/-- R122: an urgent CHECK puts the unqueued UNCHECKED chunk 4 in front of the normal entry, a normal one behind it. -/
theorem test_check_takes_its_class_from_the_record :
    (taken (lab.takeCheck (shortRecord 0x06 0 1))).map (·.scheduler.queue) =
        some [{ window := 0, chunk := 4, urgent := true }, { window := 0, chunk := 1, urgent := false }] ∧
      (taken (lab.takeCheck (shortRecord 0x06 0 0))).map (·.scheduler.queue) =
        some [{ window := 0, chunk := 1, urgent := false }, { window := 0, chunk := 4, urgent := false }] := by decide +kernel

theorem test_check_reports_a_settled_window :
    (after .programForward (holding { collectedProgram 0xFE0000 12 with
      data := (shortRecord 0x06 2 0).set 4 0xF4 })).reports.queue = [.checkDone 2 1 1 0 0] := by decide +kernel

/-- OPCLASS records: opcode 99h becomes a READ with 4 address bytes and 15 dummies, and one with 2 address bytes. -/
def opclassRecord (addrLen dummies : Byte) : List Byte :=
  [0x01, 0xFF, 0x03, 0x00, 0x00, 0x00, 0x00, 0x00, 0x99, 0x00, addrLen, dummies]

theorem witness_OpclassReplacesOneEntry :
    recordWords (opclassRecord 4 15) = 3 ∧ (opclassRecord 4 15).length = 12 ∧
      CmdClass.ofCode (field (opclassRecord 4 15) 9 1) = some .read ∧ field (opclassRecord 4 15) 10 1 = 4 ∧
      field (opclassRecord 4 15) 11 1 = 15 ∧ field (opclassRecord 2 0) 10 1 = 2 ∧ field (opclassRecord 4 16) 11 1 = 16 ∧
      10 ≤ field ((opclassRecord 0 0).set 9 10) 9 1 ∧ recordWords ((opclassRecord 0 0).set 9 10) = 3 := by
  decide +kernel

/-- No OPCLASS record for ERASE_ALL is taken, whatever its address length (R3; log entry 33). -/
theorem test_opclass_eraseAll_is_refused :
    (taken (lab.takeOpclass ((opclassRecord 0 0).set 9 5))).isNone = true ∧
      (taken (lab.takeOpclass ((opclassRecord 3 0).set 9 5))).isNone = true ∧
      (taken (lab.takeOpclass ((opclassRecord 0 0).set 9 6))).isSome = true := by decide +kernel

/-- A WINDOW record: window 5, chunk size code 2, GUARDED, 64 KiB, quiet interval 500 ms. -/
def windowRecord (base : Nat) : List Byte :=
  [0x02, 0xFF, 0x06, 0x00, 0x00, 0x00, 0x00, 0x00, 0x05, 0x02, 0x01, 0x00] ++ leBytes 4 base ++ leBytes 4 0x10000 ++
    leBytes 2 500 ++ leBytes 2 0

theorem witness_WindowRecordIsTakenExactlyUnderItsChecks :
    field (windowRecord 0x160000) 8 1 = (5 : Fin 32).val ∧ field (windowRecord 0x160000) 12 4 = 0x160000 ∧
      field (windowRecord 0x160000) 16 4 = 0x10000 ∧
      ((taken (lab.takeWindow (windowRecord 0x160000))).map fun t => (t.win 5).body.geom?) =
        some (some
          { base := 0x160000, size := 0x10000, chunkSize := 16384, guarded := true, fill := 0, quiet := 500 }) ∧
      (taken (lab.takeWindow (windowRecord 0x130000))).isNone = true ∧
      (taken (lab.takeWindow (windowRecord 0x168000))).isNone = true := by decide +kernel

/-- The reason of a refusal. -/
def refusal : Ruling → Option Reason
  | .refused _ reason => some reason
  | .taken _ => none
  | .pended _ => none
  | .commitRefused _ => none

/-- WINDOW records for windows 32 and 31, for a LOADED window, and over another window, a view and the command area. -/
theorem witness_WindowRefusals :
    32 ≤ field ((windowRecord 0x160000).set 8 32) 8 1 ∧ field ((windowRecord 0x160000).set 8 31) 8 1 = (31 : Fin 32).val ∧
      (lab.win 0).body.cat? ≠ none ∧ (lab.win 5).body.cat? = none ∧ (lab.view 0).map (·.bankA) = some 2 ∧
      (lab.win 3).body.covers 0x130000 = true ∧
      (lab.view 0).any (fun view => lab.viewCovers view 0x200000) = true ∧
      (commandBase lab.straps ≤ 0xFE0000 ∧ 0xFE0000 < reportEnd lab.straps) := by decide +kernel

/-- R25: RANGE before STATE before OVERLAP. -/
theorem test_window_refusals :
    [(windowRecord 0x160000).set 8 32, (windowRecord 0x160000).set 8 31, (windowRecord 0x168000).set 8 0,
        (windowRecord 0x130000).set 8 0, windowRecord 0x130000, windowRecord 0x200000, windowRecord 0xFE0000].map
      (fun bytes => refusal (lab.takeWindow bytes)) =
      [some .range, none, some .range, some .state, some .overlap, some .overlap, some .overlap] := by decide +kernel

/-- DROP records for windows 32, 9 (VACANT), 2 (a bank), 4 (DEFINED) and 0 (LOADED), and a LOADED window with a complete image that is
no bank. -/
theorem witness_DropRecord :
    32 ≤ field (shortRecord 0x05 32 0) 8 1 ∧ (lab.win 9).body = .vacant ∧ (lab.view 0).map (·.bankA) = some 2 ∧
      field (shortRecord 0x05 4 0) 8 1 = (4 : Fin 32).val ∧
      (∀ w ∈ [(4 : Fin 32), 0], (lab.win w).body ≠ .vacant ∧ ∀ v, ∀ view ∈ lab.view v, view.bankA ≠ w ∧ view.bankB ≠ w) ∧
      (lab.win 4).body.cat? = none ∧ (lab.win 0).body.cat? ≠ none ∧
      (labLarge.win 5).body.isLoaded = true ∧ (labLarge.win 5).goodCount = (labLarge.win 5).body.count := by decide +kernel

theorem test_drop_loses_the_image :
    (taken (labLarge.takeDrop (shortRecord 0x05 5 0))).map (fun t => (t.reports.queue, (t.win 5).body)) =
      some ([.image 5 true 1 1 1 0], .vacant) := by decide +kernel

/-- A MANIFEST for window 4: target 1, version 9, an image of 8,193 bytes. -/
def manifestRecord : List Byte :=
  [0x03, 0xFF, 0x09, 0x00, 0x00, 0x00, 0x00, 0x00, 0x04, 0x00, 0x01, 0x00] ++ leBytes 4 9 ++ leBytes 4 8193 ++
    List.replicate 16 0

theorem witness_ManifestOpensACatalogueThatKnowsNothing :
    field manifestRecord 8 1 = (4 : Fin 32).val ∧
      ((taken (lab.takeManifest manifestRecord)).map fun t => (t.win 4).body.count) = some 3 := by decide +kernel

/-- The manifest record for another window and length. -/
def manifestFor (window : Byte) (len : Nat) : List Byte :=
  [0x03, 0xFF, 0x09, 0x00, 0x00, 0x00, 0x00, 0x00, window, 0x00, 0x01, 0x00] ++ leBytes 4 9 ++ leBytes 4 len ++
    List.replicate 16 0

/-- The lab with a catalogue on the rest of the pool. -/
def labPoolFull : State :=
  lab.setWin 8
    (window (.opened (geometry 0x170000 0) (catalogue 1 0 10 0 (List.replicate 4086 Chunk.fresh))) 0)

/-- A pool index below 4096 is allocated to another window than window 4. -/
theorem labPoolFull_full (i : Nat) (h : i < 4096) :
    ∃ u c, u ≠ (4 : Fin 32) ∧ (labPoolFull.win u).body.cat? = some c ∧ c.runStart ≤ i ∧ i < c.runStart + c.chunks.length := by
  have runs : ∀ run ∈ [((0 : Fin 32), 0, 6), (1, 6, 2), (2, 8, 1), (3, 9, 1), (8, 10, 4086)],
      run.1 ≠ (4 : Fin 32) ∧
        ((labPoolFull.win run.1).body.cat?.map fun c => (c.runStart, c.chunks.length)) = some run.2 := by decide +kernel
  have find : ∃ run ∈ [((0 : Fin 32), 0, 6), (1, 6, 2), (2, 8, 1), (3, 9, 1), (8, 10, 4086)],
      run.2.1 ≤ i ∧ i < run.2.1 + run.2.2 := by
    simp only [List.mem_cons, List.not_mem_nil, or_false, exists_eq_or_imp, exists_eq_left]
    omega
  obtain ⟨run, mem, lo, hi⟩ := find
  obtain ⟨other, cat⟩ := runs run mem
  obtain ⟨c, hc, he⟩ := Option.map_eq_some_iff.1 cat
  have start : c.runStart = run.2.1 := congrArg Prod.fst he
  have count : c.chunks.length = run.2.2 := congrArg Prod.snd he
  exact ⟨run.1, c, other, hc, by omega, by omega⟩

/-- MANIFEST records for a window out of range, a VACANT window, lengths out of range, a selected bank, and a full pool; in the lab the
lowest free run of three starts at 10. -/
theorem witness_ManifestRecord :
    32 ≤ field (manifestFor 32 1) 8 1 ∧ (lab.win 9).body = .vacant ∧ field (manifestFor 4 0) 16 4 = 0 ∧
      field (manifestFor 4 65537) 16 4 = 65537 ∧ (lab.win 4).body.geom? = some (geometry 0x140000 0) ∧
      field (manifestFor 4 65536) 16 4 = 65536 ∧ (lab.view 0).map (·.current) = some 2 ∧
      (lab.win 2).body.geom? = some (geometry 0x120000 0) ∧ field (manifestFor 4 8193) 8 1 = (4 : Fin 32).val ∧
      (8193 + 4096 - 1) / 4096 = 3 ∧
      (∀ v, ∀ view ∈ lab.view v, view.current ≠ 4) ∧ (∀ v, ∀ view ∈ labPoolFull.view v, view.current ≠ 4) ∧
      (∀ u : Fin 32, u ≠ 4 → ∀ c ∈ (lab.win u).body.cat?, c.runStart + c.chunks.length ≤ 10) ∧
      (∀ q < 10, ∃ u : Fin 32, u ≠ 4 ∧ ∃ c ∈ (lab.win u).body.cat?, c.runStart ≤ q ∧ q < c.runStart + c.chunks.length) ∧
      (∀ p, p + 3 ≤ 4096 → ∃ u c i, u ≠ (4 : Fin 32) ∧ (labPoolFull.win u).body.cat? = some c ∧ c.runStart ≤ i ∧
        i < c.runStart + c.chunks.length ∧ p ≤ i ∧ i < p + 3) := by
  have last : (∀ u : Fin 32, u ≠ 4 → ∀ c ∈ (lab.win u).body.cat?, c.runStart + c.chunks.length ≤ 10) := by decide +kernel
  refine ⟨by decide +kernel, by decide +kernel, by decide +kernel, by decide +kernel, by decide +kernel, by decide +kernel,
    by decide +kernel, by decide +kernel, by decide +kernel, rfl, by decide +kernel, by decide +kernel, last, by decide +kernel, fun p h => ?_⟩
  obtain ⟨u, c, other, hc, lo, hi⟩ := labPoolFull_full p (by omega)
  exact ⟨u, c, p, other, hc, lo, hi, by omega, by omega⟩

/-- R52: the full pool refuses. R54, R143: a MANIFEST on the staged bank loses its image and drops the pending commit. -/
theorem test_manifest_records :
    shape (labPoolFull.takeManifest (manifestFor 4 8193)) = 2 ∧
      ((taken ((withView .a true (some { bank := .b, recordAddr := 0xFE0000, recordStands := true })).takeManifest
        (manifestFor 3 8193))).map fun t => (t.reports.queue, t.reports.marks, (t.view 0).map (·.pendingCommit))) =
        some ([.image 3 true 1 2 1 0, .commit 0 .dropped (some .state) .b 3 2 1 2 0xFE0000],
          [{ addr := 0xFE0001, kind := .void, restart := false }], some none) := by decide +kernel

/-- An OPEN window whose one chunk still lacks the digest 1, and the DIGESTS record that brings it. -/
def labAwaiting : State :=
  lab.setWin 7
    (window (.opened (geometry 0x160000 5)
      { catalogue 1 4096 30 0 [Chunk.fresh] with list := chunkDigest (digestBytes 1) }) 0)

def digestsRecord (window : Byte) (d : Digest) : List Byte :=
  [0x04, 0xFF, 0x07, 0x00, 0x00, 0x00, 0x00, 0x00, window, 0x01, 0x00, 0x00] ++ digestBytes d

theorem witness_OnlyAMatchingListDigestLoadsAWindow :
    field (digestsRecord 7 1) 8 1 = (7 : Fin 32).val ∧ (labAwaiting.win 7).body.isLoaded = false ∧
      ((taken (labAwaiting.takeDigests (digestsRecord 7 1))).map fun t => (t.win 7).body.isLoaded) = some true ∧
      ((taken (labAwaiting.takeDigests (digestsRecord 7 2))).map fun t => (t.win 7).body.isLoaded) = some false ∧
      (lab.win 2).body.isLoaded = true ∧ (taken (lab.takeDigests (digestsRecord 2 1))).isSome = true := by decide +kernel

/-- The OPEN window with one digest of two present, and one that waits for the first of two. -/
def labHalf (present : Bool) : State :=
  lab.setWin 7
    (window (.opened (geometry 0x160000 5)
      { catalogue 1 8192 30 (if present then 1 else 0)
          [chunk .computed none (some 1) false none, chunk .unchecked (if present then some 3 else none) none false none] with
        list := chunkDigest (digestBytes 1 ++ digestBytes 3) }) 0)

/-- DIGESTS records out of range, for a window without a catalogue, beyond the last chunk, equal and conflicting in a LOADED window,
conflicting in an OPEN one, one that leaves a digest missing, and ones that complete the list, matching and not. -/
theorem witness_DigestsRecord :
    32 ≤ field (digestsRecord 32 1) 8 1 ∧ field ((digestsRecord 7 1).set 9 0) 9 1 < 1 ∧ 64 < field ((digestsRecord 7 1).set 9 65) 9 1 ∧
      (lab.win 4).body.cat? = none ∧ field (digestsRecord 7 1) 9 1 = 1 ∧ field (digestsRecord 7 1) 10 2 = 0 ∧
      ((lab.win 2).body.cat?.map fun c => c.chunks.length) = some 1 ∧ field ((digestsRecord 2 1).set 10 1) 10 2 = 1 ∧
      (List.range 1).map (fun j => digestOf (((digestsRecord 7 1).drop (12 + 16 * j)).take 16)) = [1] ∧
      (lab.chunk? 2 0).map (fun c => c.expected) = some (some 1) ∧
      (∀ present : Bool,
        ((labHalf present).win 7).body.isLoaded = false ∧
          ((labHalf present).chunk? 7 1).map (fun c => c.expected) = some (if present then some 3 else none) ∧
          ((labHalf present).win 7).body.cat?.map (fun c => (c.chunks.length, c.received)) =
            some (2, if present then 1 else 0)) ∧
      (∀ v, ∀ view ∈ (labHalf true).view v, view.pendingCommit = none) := by decide +kernel

theorem witness_DigestsRecord_goodLaw : GoodLaw lab ∧ (taken (lab.takeDigests (digestsRecord 2 1))).isSome = true :=
  ⟨lab_goodLaw, by decide +kernel⟩

/-- R56, R58, R61: one digest stored; the list complete and matching, with the COMPUTED chunk GOOD; complete and not matching; conflict. -/
theorem test_digests_records :
    ((taken ((labHalf false).takeDigests (digestsRecord 7 1))).map fun t => (t.win 7).body.code) = some 2 ∧
      ((taken ((labHalf true).takeDigests (digestsRecord 7 1))).bind fun t => (t.chunk? 7 0).map (·.state)) = some .good ∧
      ((taken ((labHalf true).takeDigests (digestsRecord 7 2))).map fun t => t.reports.queue) =
        some [.catalogue 7 (some .list) 1 2 1 0] ∧
      ((taken ((labHalf true).takeDigests ((digestsRecord 7 1).set 10 1))).map fun t => t.reports.queue) =
        some [.catalogue 7 (some .conflict) 1 2 1 0] := by decide +kernel

theorem witness_SelectionChangesOnlyToACompleteImage :
    ((taken (lab.takeCommit .live 0xFE0000 commitRecord)).bind fun t => (t.view 0).map (·.selected)) = some .b ∧
      (lab.view 0).map (·.selected) = some .a := by decide +kernel

/-- The pending commit of bank B. -/
def pendingB : PendingCommit := { bank := .b, recordAddr := 0xFE0000, recordStands := true }

/-- Bank B passes its commit checks over bank A, and each check is the first to fail once; COMMIT and RELEASE records for views out of
range, absent, IDLE, and HELD with and without a pending commit; each report of R145 exists. -/
theorem witness_CommitAndRelease :
    (lab.commitPasses 3 2 ∧ (withView .a true (some pendingB)).commitPasses 3 2 ∧
      (withView .a true none).commitPasses 3 2) ∧
    (lab.commitFails 4 2 .state ∧ (lab.modWin 3 fun v => { v with goodCount := 0 }).commitFails 3 2 .incomplete ∧
      (lab.modWin 3 fun v =>
        { v with body := v.body.modCat fun c => { c with target := 5 } }).commitFails 3 2 .target ∧
      (withView .b false none).commitFails 2 3 .version) ∧
    (8 ≤ field (shortRecord 0x0A 8 0) 8 1 ∧ 2 ≤ field (shortRecord 0x0A 0 2) 9 1 ∧ (lab.setView 0 none).view 0 = none ∧
      field (shortRecord 0x0A 0 1) 8 1 = (0 : Fin 8).val ∧
      (∀ bank ∈ [((0 : Byte), Bank.a), (1, .b)], (field (shortRecord 0x0A 0 bank.1) 9 1, bank.2) ∈ [(0, Bank.a), (1, .b)])) ∧
    ∀ (s : State) (v : Fin 8) (view : View) (outcome : CommitOutcome) (reason : Option Reason) (bank : Bank) (addr : Nat),
      ∃ r, s.isCommitReport v view outcome reason bank addr r := by
  refine ⟨⟨?_, ?_, ?_⟩, ⟨?_, ?_, ?_, ?_⟩, by decide +kernel, fun s v view outcome reason bank addr => ?_⟩
  · refine ⟨_, _, _, rfl, rfl, fun g c e h => ?_⟩
    cases h
    exact ⟨rfl, .inr (by decide)⟩
  · refine ⟨_, _, _, rfl, rfl, fun g c e h => ?_⟩
    cases h
    exact ⟨rfl, .inr (by decide)⟩
  · refine ⟨_, _, _, rfl, rfl, fun g c e h => ?_⟩
    cases h
    exact ⟨rfl, .inr (by decide)⟩
  · intro g c e h
    cases h
  · exact ⟨_, _, _, rfl, by decide +kernel⟩
  · exact ⟨_, _, _, _, _, _, rfl, rfl, rfl, by decide⟩
  · exact ⟨_, _, _, _, _, _, rfl, rfl, rfl, rfl, rfl, by decide⟩
  · by_cases loaded : ∃ g c e, (s.win (view.window bank)).body = .loaded g c e
    · obtain ⟨g, c, e, h⟩ := loaded
      refine ⟨_, c.target, c.version, rfl, fun g' c' e' h' => ?_, fun h' => absurd h (h' g c e)⟩
      cases h.symm.trans h'
      exact ⟨rfl, rfl⟩
    · exact ⟨_, 0, 0, rfl, fun g c e h => absurd ⟨g, c, e, h⟩ loaded, fun _ => ⟨rfl, rfl⟩⟩

/-- R139 to R142: RELEASE applies the pending commit, or drops it when its image is not complete any more. -/
theorem test_release_applies_or_drops :
    ((taken ((withView .a true (some pendingB)).takeRelease (shortRecord 0x0C 0 0))).map fun t =>
        (t.reports.queue, t.reports.marks, (t.view 0).map (·.selected))) =
        some ([.commit 0 .taken none .b 3 2 1 2 0xFE0000],
          [{ addr := 0xFE0001, kind := .kept, restart := false }], some .b) ∧
      ((taken (((withView .a true (some pendingB)).modWin 3 fun v => { v with goodCount := 0 }).takeRelease
        (shortRecord 0x0C 0 0))).map fun t =>
          (t.reports.queue, t.reports.marks, (t.view 0).map (·.selected))) =
        some ([.commit 0 .dropped (some .incomplete) .b 3 2 1 2 0xFE0000],
          [{ addr := 0xFE0001, kind := .void, restart := false }], some .a) := by decide +kernel

/-- A VIEW record: view 1 over windows 0 and 1. -/
def viewRecord (base : Nat) : List Byte :=
  [0x08, 0xFF, 0x04, 0x00, 0x00, 0x00, 0x00, 0x00, 0x01, 0x00, 0x01, 0x00] ++ leBytes 4 base

/-- A VIEW record that fits; VIEW, UNVIEW and HOLD records for views out of range, absent, HELD and IDLE. -/
theorem witness_ViewRecords :
    (field (viewRecord 0x300000) 8 1 = (1 : Fin 8).val ∧ field (viewRecord 0x300000) 9 1 = (0 : Fin 32).val ∧
      field (viewRecord 0x300000) 10 1 = (1 : Fin 32).val ∧ field (viewRecord 0x300000) 12 4 = 0x300000 ∧
      lab.view 1 = none ∧ (∀ u, ∀ view ∈ lab.view u, ∀ w ∈ [(0 : Fin 32), 1], view.bankA ≠ w ∧ view.bankB ≠ w) ∧
      (lab.win 0).body.geom? = some (geometry 0x100000 5) ∧ (lab.win 1).body.geom? = some (geometry 0x110000 0) ∧
      0x300000 + (geometry 0x100000 5).size ≤ lab.flashBytes) ∧
    (∀ p, 0x300000 ≤ p → p < 0x310000 →
      (∀ u, (lab.win u).body.covers p = false) ∧ (∀ u view, lab.view u = some view → lab.viewCovers view p = false) ∧
        ¬(commandBase lab.straps ≤ p ∧ p < reportEnd lab.straps)) ∧
    (8 ≤ field (shortRecord 0x09 8 0) 8 1 ∧ 32 ≤ field ((viewRecord 0).set 9 32) 9 1 ∧ field (viewRecord 0x300001) 12 4 % 65536 ≠ 0 ∧
      field (shortRecord 0x09 0 0) 8 1 = (0 : Fin 8).val ∧ (lab.view 0).map (·.held) = some false) := by
  refine ⟨by decide +kernel, fun p lo hi => ⟨fun u => ?_, fun u view h => ?_, ?_⟩, by decide +kernel⟩
  · have below : ∀ u : Fin 32, ∀ g ∈ (lab.win u).body.geom?, g.base + g.size ≤ 0x300000 := by decide +kernel
    cases h : (lab.win u).body.geom? with
    | none => simp [WinBody.covers, h]
    | some g =>
      have := below u g h
      simp only [WinBody.covers, h, Geometry.covers, Bool.and_eq_false_iff, decide_eq_false_iff_not]
      omega
  · have below : ∀ u : Fin 8, ∀ view ∈ lab.view u, view.base + lab.viewSize view ≤ 0x300000 := by decide +kernel
    have := below u view h
    simp only [State.viewCovers, Bool.and_eq_false_iff, decide_eq_false_iff_not]
    omega
  · have : commandBase lab.straps = 0xFE0000 := by decide +kernel
    omega

/-- R129: a base out of range; a present view, one of whose windows stands twice; a VACANT window; a bank of another view; one window
twice, over a view; and two windows over a view. -/
theorem test_view_refusals :
    [viewRecord 0x300001, ((viewRecord 0x300000).set 8 0).set 10 0, (viewRecord 0x300000).set 10 9, (viewRecord 0x300000).set 9 2,
        (viewRecord 0x200000).set 10 0, viewRecord 0x200000].map (fun bytes => refusal (lab.takeView bytes)) =
      [some .range, some .state, some .state, some .state, some .range, some .overlap] := by decide +kernel

theorem test_view_records :
    ((taken (lab.takeView (viewRecord 0x300000))).bind fun t => t.view 1) =
        some { base := 0x300000, bankA := 0, bankB := 1, selected := .a, held := false, pendingCommit := none } ∧
      (taken (lab.takeView (viewRecord 0x200000))).isNone = true ∧
      ((taken (lab.takeHold (shortRecord 0x0B 0 0))).bind fun t => (t.view 0).map (·.held)) = some true ∧
      ((taken (lab.takeUnview (shortRecord 0x09 0 0))).map fun t => t.view 0) = some none := by decide +kernel

def fullQueue : State := { lab with reports := { lab.reports with queue := List.replicate 16 (.parse .wrap .live 0 0) } }

theorem witness_SnapshotAndAckActOnCountersAndAlert :
    recordWords [0x0D, 0xFF, 0x02, 0x00] = 2 ∧ lab.reports.queue.length < 16 ∧ 16 ≤ fullQueue.reports.queue.length ∧
      recordWords [0x07, 0xFF, 0x03, 0x00] = 3 := by
  decide +kernel

/-- BUDGET with a rate of 65,535 and a cap of 0: both are clamped, and the credit with them (R127). -/
theorem test_budget_clamps :
    (taken (lab.takeBudget [0x07, 0xFF, 0x03, 0x00, 0, 0, 0, 0, 0xFF, 0xFF, 0, 0])).map
        (fun t => (t.scheduler.rate, t.scheduler.cap, t.scheduler.credit)) = some (16384, 256, 256) := by decide +kernel

/-! ### Witnesses: the laws, each with a step -/

theorem lab_steps : ∃ t, step lab = .next t := ⟨_, rfl⟩

theorem witness_ReportQueuesAndWriteIndexStayInBounds : PortLaw lab ∧ ReportLaw lab ∧ ∃ t, step lab = .next t :=
  ⟨lab_portLaw, lab_reportLaw, lab_steps⟩

theorem witness_CheckQueueNamesOnlyUncheckedQueuedChunks : QueueLaw lab ∧ ∃ t, step lab = .next t :=
  ⟨lab_queueLaw, lab_steps⟩

theorem witness_WindowsViewsAndControlRegionStayApart : WindowLaw lab ∧ ViewLaw lab ∧ ∃ t, step lab = .next t :=
  ⟨lab_windowLaw, lab_viewLaw, lab_steps⟩

theorem witness_PoolRunsStayDisjoint : PoolLaw lab ∧ ∃ t, step lab = .next t := ⟨lab_poolLaw, lab_steps⟩

theorem witness_GoodCountIsTheNumberOfGoodChunks : GoodLaw lab ∧ ∃ t, step lab = .next t := ⟨lab_goodLaw, lab_steps⟩

theorem witness_EachContextHoldsExactlyItsChunk : QueueLaw lab ∧ ContextLaw lab ∧ ∃ t, step lab = .next t :=
  ⟨lab_queueLaw, lab_contextLaw, lab_steps⟩

theorem witness_CreditSupplyHoldsAndParserStayInOrder :
    (∃ t, step lab = .next t) ∧ CreditLaw lab ∧ ClaimLaw lab ∧ SupplyLaw lab ∧ HoldLaw lab ∧ ParserLaw lab :=
  ⟨lab_steps, lab_creditLaw, Nat.zero_le _, lab_supplyLaw, lab_holdLaw, lab_parserLaw⟩

end Sys2Proof.Tests
end

section
/-! What every step keeps of the laws of credit, claims, supply, pending commits, replay reads and the parser (O60): each law as
something an operation keeps from itself, once for each operation. -/

namespace Sys2Proof.Machine

/-! ### Each law kept from itself -/

/-- An operation keeps each of the five laws from that law alone. -/
structure KeepsOrder (s t : State) : Prop where
  credit : CreditLaw s → CreditLaw t
  claim : ClaimLaw s → ClaimLaw t
  supply : SupplyLaw s → SupplyLaw t
  hold : HoldLaw s → HoldLaw t
  parser : ParserLaw s → ParserLaw t

theorem KeepsOrder.refl (s : State) : KeepsOrder s s := ⟨id, id, id, id, id⟩

theorem KeepsOrder.trans {s t u : State} (h : KeepsOrder s t) (k : KeepsOrder t u) : KeepsOrder s u where
  credit := k.credit ∘ h.credit
  claim := k.claim ∘ h.claim
  supply := k.supply ∘ h.supply
  hold := k.hold ∘ h.hold
  parser := k.parser ∘ h.parser

theorem KeepsOrder.foldl {α : Type} (f : State → α → State) (hf : ∀ s a, KeepsOrder s (f s a)) (l : List α) (s : State) :
    KeepsOrder s (l.foldl f s) := by
  induction l generalizing s with
  | nil => exact .refl s
  | cons a l ih => exact (hf s a).trans (ih _)

/-- Two schedulers with one rate, cap and credit stand alike to the law of R125. -/
theorem CreditLaw.of_eq {s t : State} (hr : t.scheduler.rate = s.scheduler.rate) (hc : t.scheduler.cap = s.scheduler.cap)
    (hk : t.scheduler.credit = s.scheduler.credit) (h : CreditLaw s) : CreditLaw t := by
  unfold CreditLaw
  rw [hr, hc, hk]
  exact h

theorem HoldLaw.of_eq {s t : State} (hp : t.part = s.part) (hv : t.views = s.views)
    (hc : t.bridge.collected = s.bridge.collected) (ho : t.bridge.portOp = s.bridge.portOp) (h : HoldLaw s) : HoldLaw t := by
  have view : ∀ v, t.view v = s.view v := fun v => by simp only [State.view, hv]
  simpa only [HoldLaw, hp, hc, ho, view] using h

theorem SupplyLaw.of_eq {s t : State} (h : t.supply = s.supply) (l : SupplyLaw s) : SupplyLaw t := by
  simpa only [SupplyLaw, h] using l

theorem ParserLaw.of_eq {s t : State} (hs : t.straps = s.straps) (hp : t.parser = s.parser) (h : ParserLaw s) :
    ParserLaw t := by
  simpa only [ParserLaw, hs, hp] using h

/-- Work of the blocks that know about chunks touches nothing that the five laws speak of. -/
theorem ChunkWork.order {s t : State} (h : ChunkWork s t) : KeepsOrder s t where
  credit := .of_eq (by rw [h.scheduler]) (by rw [h.scheduler]) (by rw [h.scheduler])
  claim := by simp only [ClaimLaw, h.bridge, imp_self]
  supply := .of_eq h.supply
  hold := .of_eq h.part h.views (by rw [h.bridge]) (by rw [h.bridge])
  parser := .of_eq h.straps h.parser

theorem State.refill_order (s : State) : KeepsOrder s s.refill := s.refill_queueWork.chunks.order

theorem State.raise_order (s : State) (r : Report) : KeepsOrder s (s.raise r) := (s.raise_work r).order

/-- Work on the reports, the ports or the windows touches nothing that the five laws speak of. -/
theorem State.modReports_order (s : State) (f : ReportWriter → ReportWriter) : KeepsOrder s (s.modReports f) :=
  ⟨id, id, id, id, id⟩

theorem State.issue_order (s : State) (b : List FlashTxn) : KeepsOrder s (s.issue b) := ⟨id, id, id, id, id⟩

theorem State.drive_order (s : State) (a : List Byte) (b : List FlashTxn) : KeepsOrder s (s.drive a b) := ⟨id, id, id, id, id⟩

theorem State.modWin_order (s : State) (w : Fin 32) (f : Window → Window) : KeepsOrder s (s.modWin w f) :=
  ⟨id, id, id, id, id⟩

/-- A write of the bridge keeps the laws if the claim count stays or is within its limit, no command comes into the buffer and no
replay read on the port. -/
theorem State.modBridge_order (s : State) (f : Bridge → Bridge)
    (hc : (f s.bridge).claim = s.bridge.claim ∨ (f s.bridge).claim ≤ Config.claimLimit)
    (hb : (f s.bridge).collected = s.bridge.collected ∨ (f s.bridge).collected = none)
    (ho : (f s.bridge).portOp = s.bridge.portOp ∨ (f s.bridge).portOp ≠ some (.startupRead .replay)) :
    KeepsOrder s (s.modBridge f) where
  credit := id
  claim h := hc.elim (fun e => (show (f s.bridge).claim ≤ _ by rw [e]; exact h)) id
  supply := id
  hold := by
    rintro ⟨commits, idle, replay⟩
    refine ⟨commits, fun hp => ⟨?_, (idle hp).2⟩, fun hr => ?_⟩
    · exact hb.elim (fun e => e.trans (idle hp).1) id
    · exact ho.elim (fun e => replay (e.symm.trans hr)) fun n => absurd hr n
  parser := id

theorem State.settleClaim_order (s : State) : KeepsOrder s s.settleClaim := by
  unfold State.settleClaim
  split
  · exact .refl s
  · exact s.modBridge_order _ (.inr (Nat.zero_le _)) (.inl rfl) (.inl rfl)

theorem State.tickClaim_order (s : State) : KeepsOrder s s.tickClaim := by
  unfold State.tickClaim
  split
  · exact s.modBridge_order _ (.inr (Nat.min_le_left _ _)) (.inl rfl) (.inl rfl)
  · exact .refl s

theorem State.takeOpcode_order (s : State) : KeepsOrder s s.takeOpcode :=
  s.modBridge_order _ (.inl rfl) (.inl rfl) (.inl rfl)

theorem State.emptyBuffer_order (s : State) : KeepsOrder s s.emptyBuffer :=
  s.modBridge_order _ (.inl rfl) (.inr rfl) (.inl rfl)

theorem State.busyWithHost_order (s : State) (ranges : List (Nat × Nat)) : KeepsOrder s (s.busyWithHost ranges) :=
  s.modBridge_order _ (.inl rfl) (.inl rfl) (.inl rfl)

theorem State.endOp_order (s : State) : KeepsOrder s s.endOp :=
  s.modBridge_order _ (.inl rfl) (.inl rfl) (.inr (by simp))

theorem State.watchStatus_order (s : State) (byte : Byte) : KeepsOrder s (s.watchStatus byte) := by
  unfold State.watchStatus
  split
  · exact s.modBridge_order _ (.inl rfl) (.inl rfl) (.inl rfl)
  · exact .refl s

/-! ### Supply, time and read-back -/

/-- A dip strikes chunks and taints the record being collected; its bytes stand. -/
theorem State.dipStrike_order (s : State) : KeepsOrder s s.dipStrike.st := by
  have taint : ∀ (t : State) (ranges : List (Nat × Nat)), KeepsOrder t (t.modParser (Parser.dipTaint ranges)) := by
    refine fun t ranges => ⟨id, id, id, id, ?_⟩
    rintro ⟨low, high, aligned, fits⟩
    have cursor : (t.modParser (Parser.dipTaint ranges)).parser.cursor = t.parser.cursor := by
      simp only [State.modParser, Parser.dipTaint]; split <;> rfl
    refine ⟨by rwa [cursor], by rwa [cursor], by rwa [cursor], fun bytes b hb => ?_⟩
    rw [cursor]
    simp only [State.modParser, Parser.dipTaint] at hb
    split at hb
    · next old oldTaint hph =>
      cases hb
      exact fits _ _ hph
    · exact fits _ _ hb
    · exact fits _ _ hb
  unfold State.dipStrike
  split
  · exact (s.dipMark_work (s.bridge.touched.ranges s.flashBytes)).order.trans (taint _ (s.bridge.touched.ranges s.flashBytes))
  · exact .refl s

theorem State.dipStrike_supply (s : State) : s.dipStrike.st.supply = s.supply := by
  unfold State.dipStrike
  split
  · simp only [State.modParser_supply]
    exact (s.dipMark_work _).supply
  · rfl

/-- A write of the Supply Monitor keeps the laws if its own law holds behind it. -/
theorem State.modSupply_order (s : State) (f : Supply → Supply) (h : SupplyLaw s → SupplyLaw (s.modSupply f)) :
    KeepsOrder s (s.modSupply f) := ⟨id, id, h, id, id⟩

/-- A write of the Supply Monitor that is undone before the end need not keep its law in between. -/
theorem KeepsOrder.behind_modSupply {s t : State} {f : Supply → Supply} (h : KeepsOrder (s.modSupply f) t) (l : SupplyLaw t) :
    KeepsOrder s t := ⟨h.credit, h.claim, fun _ => l, h.hold, h.parser⟩

/-- An entry to DIP starts the away record, or counts in the one that stands outside NORMAL (R149). -/
theorem State.enterDip_order (fresh : Bool) (s : State) (h : fresh = false → s.supply.state ≠ .normal) :
    KeepsOrder s (s.enterDip fresh) := by
  have dipped : KeepsOrder s (s.dipStrike.st.modSupply (Supply.enterDip fresh s.scheduler.ms)) := by
    refine s.dipStrike_order.trans (State.modSupply_order _ _ fun law => ⟨fun n hn => by simp [State.modSupply, Supply.enterDip] at hn, ?_⟩)
    cases fresh with
    | true => simp [State.modSupply, Supply.enterDip]
    | false =>
      have away := law.2
      rw [s.dipStrike_supply] at away
      have present := away.2 (h rfl)
      simp [State.modSupply, Supply.enterDip, s.dipStrike_supply, present]
  simp only [State.enterDip]
  split
  · exact dipped.trans (State.raise_order _ _)
  · exact dipped

theorem State.convertDip_work (s : State) (w : Fin 32) : ChunkWork s (s.convertDip w) := by
  unfold State.convertDip
  split
  · exact s.modWin_work w _ (fun _ => rfl) fun _ => rfl
  · exact .refl s

/-- An entry to NORMAL stops the settle timer and ends the away record (R154). -/
theorem State.enterNormal_supply (now : Word32) (s : State) :
    (s.enterNormal now).supply = { s.supply with state := .normal, settle := none, away := none } := by
  simp only [State.enterNormal, State.modSupply_supply, State.raise_supply]
  rw [(State.refill_queueWork _).chunks.supply, (ChunkWork.foldl _ State.convertDip_work allWindows _).supply]
  rfl

theorem State.enterNormal_order (now : Word32) (s : State) : KeepsOrder s (s.enterNormal now) := by
  have law : SupplyLaw (s.enterNormal now) := by
    simp [SupplyLaw, State.enterNormal_supply]
  have work : ∀ t : State, KeepsOrder t ((allWindows.foldl State.convertDip t).refill) := fun t =>
    (ChunkWork.foldl _ State.convertDip_work allWindows t).order.trans (State.refill_order _)
  simp only [State.enterNormal] at law ⊢
  exact (((work _).trans (State.raise_order _ _)).trans (State.modSupply_order _ _ fun _ => law)).behind_modSupply law

theorem State.bandEvent_order (band : Band) (s : State) : KeepsOrder s (s.bandEvent band) := by
  have held : KeepsOrder s (s.modSupply fun p => { p with band := band }) := s.modSupply_order _ id
  simp only [State.bandEvent]
  split
  · exact .refl s
  · split
    · exact held.trans (State.enterDip_order true _ (by simp))
    · exact held
    · exact held
    · next hst _ =>
      refine held.trans (State.modSupply_order _ _ fun law => ⟨fun n hn => ?_, ?_⟩)
      · cases hn; exact ⟨rfl, by decide, by decide⟩
      · have away := law.2
        simp only [State.modSupply, hst] at away ⊢
        simpa using away
    · exact held
    · exact held
    · next hst _ => exact held.trans (State.enterDip_order false _ fun _ => by simp [State.modSupply, hst])
    · refine held.trans (State.modSupply_order _ _ fun law => ⟨fun n hn => (by cases hn), law.2⟩)
    · next hst _ =>
      refine held.trans (State.modSupply_order _ _ fun law => ⟨fun n hn => ?_, law.2⟩)
      cases hn; exact ⟨hst, by decide, by decide⟩

theorem State.changeBand_order (band : Band) (s : State) : KeepsOrder s (s.changeBand band) := by
  unfold State.changeBand
  split
  · exact .refl s
  · exact ((s.bandEvent_order band).trans (State.refill_order _)).trans (State.settleClaim_order _)

theorem State.tickQuiet_order (s : State) (w : Fin 32) : KeepsOrder s (s.tickQuiet w) := by
  unfold State.tickQuiet
  split
  · exact .refl s
  · split
    · exact s.modWin_order w _
    · exact s.modWin_order w _

theorem State.tickSettle_order (s : State) : KeepsOrder s s.tickSettle := by
  unfold State.tickSettle
  split
  · next n hst hset =>
    split
    · exact s.enterNormal_order _
    · refine s.modSupply_order _ fun law => ⟨fun m hm => ?_, law.2⟩
      have old := law.1 n hset
      simp only [State.modSupply, Option.some.injEq] at hm
      exact ⟨hst, by omega⟩
  all_goals exact .refl s

/-- A tick adds to the credit up to the cap (R125). -/
theorem State.tickScheduler_order (s : State) : KeepsOrder s (s.modScheduler Scheduler.tick) :=
  ⟨fun ⟨_, low, high, rate⟩ => ⟨Nat.min_le_left _ _, low, high, rate⟩, id, id, id, id⟩

theorem State.tickTimers_order (s : State) : KeepsOrder s s.tickTimers :=
  (((s.tickClaim_order.trans (State.tickScheduler_order _)).trans
    (KeepsOrder.foldl _ State.tickQuiet_order allWindows _)).trans (State.tickSettle_order _)).trans (State.refill_order _)

theorem State.takeHead_order (s : State) : KeepsOrder s s.takeHead := by
  unfold State.takeHead
  split
  · split
    · exact (((((s.setQueue_work _).trans (State.endDigesting_work _ _ _)).trans (State.moveChunk_work _ _ _ _ _)).trans
        (State.modChunk_work _ _ _ _)).trans (State.setReadback_work _ _)).order.trans
          ((State.refill_order _).trans (State.settleClaim_order _))
    · exact .refl s
  · exact .refl s

/-- A burst spends credit and never adds to it (R126). -/
theorem State.issueBurst_order (s : State) (r : ReadbackCtx) : KeepsOrder s (s.issueBurst r) := by
  have claimed : KeepsOrder s ((s.setReadback (some { r with inFlight := some (s.burstLen r) })).modBridge fun b =>
      { b with claim := 0 }) :=
    (s.setReadback_work _).order.trans (State.modBridge_order _ _ (.inr (Nat.zero_le _)) (.inl rfl) (.inl rfl))
  refine ⟨?_, claimed.claim, claimed.supply, claimed.hold, claimed.parser⟩
  rintro ⟨within, low, high, rate⟩
  have spent : ∀ (u : Bool) (b : Nat), creditAfter u s.scheduler.credit b ≤ s.scheduler.credit := by
    intro u b
    unfold creditAfter
    split <;> exact Nat.sub_le _ _
  exact ⟨(spent _ _).trans within, low, high, rate⟩

theorem State.endBurst_order (s : State) (r : ReadbackCtx) (bytes : List Byte) : KeepsOrder s (s.endBurst r bytes) := by
  refine .trans ?_ (State.settleClaim_order _)
  split
  · exact ((((s.setReadback_work _).trans (State.unlink_work _ _ _)).trans (State.verdict_work _ _ _ _ _)).trans
      (State.closeEvent_work _ _ _)).order
  · exact (s.setReadback_work _).order

/-! ### Resets -/

theorem commandBase_le_commandEnd (p : Straps) : commandBase p ≤ commandEnd p := Nat.le_add_right _ _

/-- The five laws together. -/
structure InOrder (s : State) : Prop where
  credit : CreditLaw s
  claim : ClaimLaw s
  supply : SupplyLaw s
  hold : HoldLaw s
  parser : ParserLaw s

theorem KeepsOrder.of_inOrder {s t : State} (h : InOrder t) : KeepsOrder s t :=
  ⟨fun _ => h.credit, fun _ => h.claim, fun _ => h.supply, fun _ => h.hold, fun _ => h.parser⟩

theorem InOrder.step {s t : State} (h : InOrder s) (k : KeepsOrder s t) : InOrder t :=
  ⟨k.credit h.credit, k.claim h.claim, k.supply h.supply, k.hold h.hold, k.parser h.parser⟩

theorem State.cleared_view (cause : ResetCause) (pins : Straps) (band : Band) (q : List Instr) (v : Fin 8) :
    (State.cleared cause pins band q).view v = none := by
  simp [State.cleared, State.view, Vector.get_eq_getElem]

/-- A cleared part has the laws, whether it starts or is held by its reset pin. -/
theorem State.cleared_inOrder (cause : ResetCause) (pins : Straps) (band : Band) (q : List Instr) (part : PartState) :
    InOrder { State.cleared cause pins band q with part := part } where
  credit := by simp [CreditLaw, State.cleared, Config.capMin, Config.capReset, Config.capMax, Config.rateReset, Config.rateMax]
  claim := Nat.zero_le _
  supply := ⟨fun n hn => (by cases hn), by simp [State.cleared]⟩
  hold := by
    have absent : ∀ v, ({ State.cleared cause pins band q with part := part } : State).view v = none :=
      fun v => State.cleared_view cause pins band q v
    refine ⟨fun v view pc h => ?_, fun _ => ⟨rfl, fun v view h => ?_⟩, fun h => by cases h⟩
    all_goals rw [absent v] at h; cases h
  parser := ⟨le_refl _, commandBase_le_commandEnd pins, by simp [State.cleared], fun _ _ h => by cases h⟩

theorem State.resetWith_inOrder (cause : ResetCause) (pins : Straps) (band : Band) (q : List Instr) :
    InOrder (State.resetWith cause pins band q) := by
  have cleared : InOrder (State.cleared cause pins band q) := State.cleared_inOrder cause pins band q .starting
  simp only [State.resetWith]
  split
  · exact cleared
  · exact cleared.step (State.enterDip_order true _ (by simp))

theorem State.restartIf_order (s : State) (now : Bool) : KeepsOrder s (s.restartIf now) := by
  unfold State.restartIf
  split
  · exact .of_inOrder (State.resetWith_inOrder _ _ _ _)
  · exact .refl s

end Sys2Proof.Machine
end

section
/-! What a record of the command area, and the bytes that bring it, keep of the laws of O60: at their owners the credit and the views,
in the parser its record and cursor. -/

namespace Sys2Proof.Machine

/-! ### Views -/

/-- Where a record comes from (R168). -/
def Mode.origin : Mode → Origin
  | .live => .live
  | .replayKept | .replayFresh => .replay

/-- A view's share of the law of pending commits (R128): a pending commit stands only while HELD and names the bank that is not
selected; at replay the view is IDLE. -/
def View.orderly (o : Origin) (view : View) : Prop :=
  (∀ pc, view.pendingCommit = some pc → view.held = true ∧ pc.bank ≠ view.selected) ∧ (o = .replay → view.held = false)

def State.viewsOrderly (o : Origin) (s : State) : Prop := ∀ v view, s.view v = some view → view.orderly o

theorem View.orderly_of_no_pending {o : Origin} {view : View} (h : view.pendingCommit = none)
    (idle : o = .replay → view.held = false) : view.orderly o :=
  ⟨fun _ hp => absurd (h.symm.trans hp) nofun, idle⟩

/-- A view that is not HELD has no pending commit (R128). -/
theorem View.orderly.no_pending {o : Origin} {view : View} (h : view.orderly o) (idle : view.held = false) :
    view.pendingCommit = none := by
  by_contra hc
  obtain ⟨pc, hp⟩ := Option.ne_none_iff_exists'.1 hc
  exact absurd (idle.symm.trans (h.1 pc hp).1) nofun

/-- What an owner's work keeps: the law of the credit, and that of the views (R125, R128). -/
structure OwnerOrder (o : Origin) (s t : State) : Prop where
  credit : CreditLaw s → CreditLaw t
  views : s.viewsOrderly o → t.viewsOrderly o

variable {o : Origin}

theorem OwnerOrder.refl (s : State) : OwnerOrder o s s := ⟨id, id⟩

theorem OwnerOrder.trans {s t u : State} (h : OwnerOrder o s t) (k : OwnerOrder o t u) : OwnerOrder o s u :=
  ⟨k.credit ∘ h.credit, k.views ∘ h.views⟩

theorem OwnerOrder.foldl {α : Type} (f : State → α → State) (hf : ∀ s a, OwnerOrder o s (f s a)) (l : List α) (s : State) :
    OwnerOrder o s (l.foldl f s) := by
  induction l generalizing s with
  | nil => exact .refl s
  | cons a l ih => exact (hf s a).trans (ih _)

theorem ChunkWork.owner {s t : State} (h : ChunkWork s t) : OwnerOrder o s t where
  credit := h.order.credit
  views := by
    have view : ∀ v, t.view v = s.view v := fun v => by simp only [State.view, h.views]
    simp only [State.viewsOrderly, view, imp_self]

theorem State.modWin_owner (s : State) (w : Fin 32) (f : Window → Window) : OwnerOrder o s (s.modWin w f) := ⟨id, id⟩

theorem State.modReports_owner (s : State) (f : ReportWriter → ReportWriter) : OwnerOrder o s (s.modReports f) := ⟨id, id⟩

theorem State.modSupply_owner (s : State) (f : Supply → Supply) : OwnerOrder o s (s.modSupply f) := ⟨id, id⟩

theorem State.modParser_owner (s : State) (f : Parser → Parser) : OwnerOrder o s (s.modParser f) := ⟨id, id⟩

theorem State.raise_owner (s : State) (r : Report) : OwnerOrder o s (s.raise r) := (s.raise_work r).owner

theorem State.requestMark_owner (s : State) (m : Mark) : OwnerOrder o s (s.requestMark m) := by
  unfold State.requestMark
  split
  · exact .refl s
  · exact s.modReports_owner _

theorem State.markCommit_owner (s : State) (pc : PendingCommit) (k : MarkKind) : OwnerOrder o s (s.markCommit pc k) := by
  unfold State.markCommit
  split
  · exact s.requestMark_owner _
  · exact .refl s

/-- A view written behind an owner's work keeps the law if the view has its share of it. -/
theorem OwnerOrder.setView {s t : State} (k : OwnerOrder o s t) (v : Fin 8) (x : Option View)
    (h : s.viewsOrderly o → ∀ view, x = some view → view.orderly o) : OwnerOrder o s (t.setView v x) := by
  refine ⟨k.credit, fun law u view hu => ?_⟩
  rw [State.view_setView] at hu
  split at hu
  · exact h law view hu
  · exact k.views law u view hu

theorem State.setView_owner (s : State) (v : Fin 8) (x : Option View)
    (h : s.viewsOrderly o → ∀ view, x = some view → view.orderly o) : OwnerOrder o s (s.setView v x) :=
  (OwnerOrder.refl s).setView v x h

theorem State.dropPending_owner (s : State) (v : Fin 8) (view : View) (pc : PendingCommit) (r : Reason)
    (h : s.viewsOrderly o → o = .replay → view.held = false) : OwnerOrder o s (s.dropPending v view pc r) := by
  refine ((s.setView_owner v _ fun law y hy => ?_).trans (State.markCommit_owner _ _ _)).trans (State.raise_owner _ _)
  cases hy
  exact View.orderly_of_no_pending rfl (h law)

theorem State.dropStagedCommit_owner (w : Fin 32) (s : State) (v : Fin 8) : OwnerOrder o s (s.dropStagedCommit w v) := by
  unfold State.dropStagedCommit
  split
  · next view hv =>
    split
    · split
      · exact s.dropPending_owner _ _ _ _ fun law => (law v view hv).2
      · exact .refl s
    · exact .refl s
  · exact .refl s

/-! ### Catalogues -/

theorem State.teardown_owner (s : State) (w : Fin 32) (next : WinBody) : OwnerOrder o s (s.teardown w next) := by
  simp only [State.teardown]
  refine OwnerOrder.trans ?_ (State.modWin_owner _ _ _)
  refine OwnerOrder.trans ?_ (State.modQueue_work _ _).owner
  refine OwnerOrder.trans ?_ (State.freeWindowContexts_work _ w).owner
  refine OwnerOrder.trans ?_ (OwnerOrder.foldl _ (State.dropStagedCommit_owner w) allViews _)
  split
  · split
    · exact s.raise_owner _
    · exact .refl s
  all_goals exact .refl s

theorem State.openCatalogue_owner (s : State) (w : Fin 32) (g : Geometry) (c : Catalogue) :
    OwnerOrder o s (s.openCatalogue w g c) := by
  unfold State.openCatalogue
  split
  · exact s.teardown_owner _ _
  · exact s.modWin_owner _ _

theorem State.enterLoaded_owner (s : State) (w : Fin 32) (g : Geometry) (c : Catalogue) :
    OwnerOrder o s (s.enterLoaded w g c) :=
  ((((s.modWin_owner w _).trans (ChunkWork.foldl _ (State.loadCompare_work w c _) _ _).owner).trans
    (State.raise_owner _ _)).trans (ChunkWork.foldl _ (State.raiseLoadBad_work w) _ _).owner).trans
    (State.reportImage_work _ _ _).owner

theorem State.reject_owner (s : State) (w : Fin 32) (g : Geometry) (c : Catalogue) (r : Reason) :
    OwnerOrder o s (s.reject w g c r) := (s.teardown_owner w _).trans (State.raise_owner _ _)

theorem State.offerOpen_owner (s : State) (w : Fin 32) (g : Geometry) (c : Catalogue) (i : Nat) (ds : List Digest) :
    OwnerOrder o s (s.offerOpen w g c i ds) := by
  simp only [State.offerOpen]
  split
  · exact s.reject_owner _ _ _ _
  · split
    · split
      · exact (s.modWin_owner w _).trans (State.enterLoaded_owner _ _ _ _)
      · exact (s.modWin_owner w _).trans (State.reject_owner _ _ _ _ _)
    · exact s.modWin_owner w _

/-! ### The owners' rulings -/

/-- A refusal leaves the state it was made in. -/
theorem OwnerOrder.refused (s : State) (r : Reason) : OwnerOrder o s (Ruling.refused s r).st := .refl s

theorem OwnerOrder.taken {s t : State} (h : OwnerOrder o s t) : OwnerOrder o s (Ruling.taken t).st := h

theorem State.takeOpclass_owner (s : State) (bytes : List Byte) : OwnerOrder o s (s.takeOpclass bytes).st := by
  unfold State.takeOpclass
  split
  · exact .refl s
  · split
    · exact .refl s
    · exact ⟨id, id⟩

theorem State.takeWindow_owner (s : State) (bytes : List Byte) : OwnerOrder o s (s.takeWindow bytes).st := by
  simp only [State.takeWindow]
  repeat' split
  all_goals first | exact .refused s _ | exact .taken (s.modWin_owner _ _)

theorem State.takeManifest_owner (s : State) (bytes : List Byte) : OwnerOrder o s (s.takeManifest bytes).st := by
  simp only [State.takeManifest]
  repeat' split
  all_goals first | exact .refused s _ | exact .taken (s.openCatalogue_owner _ _ _)

theorem State.takeDigests_owner (s : State) (bytes : List Byte) : OwnerOrder o s (s.takeDigests bytes).st := by
  simp only [State.takeDigests]
  repeat' split
  all_goals first | exact .refused s _ | exact .taken (s.offerOpen_owner _ _ _ _ _) | exact .taken (.refl s)

theorem State.takeDrop_owner (s : State) (bytes : List Byte) : OwnerOrder o s (s.takeDrop bytes).st := by
  simp only [State.takeDrop]
  split
  · exact .refused s _
  · next w _ =>
    split
    · exact .refused s _
    · split
      · exact .refused s _
      · refine .taken (OwnerOrder.trans ?_ (State.modWin_owner _ _ _))
        split
        · exact s.teardown_owner _ _
        · exact s.modWin_owner _ _

theorem State.takeCheck_owner (s : State) (bytes : List Byte) : OwnerOrder o s (s.takeCheck bytes).st := by
  have check : ∀ w urgent, OwnerOrder o s (s.check w urgent) := fun w urgent =>
    ((QueueWork.foldl _ (State.checkChunk_queueWork w urgent) _ s).chunks.owner.trans (State.modWin_owner _ _ _)).trans
      (State.completionTest_work _ _).owner
  simp only [State.takeCheck]
  repeat' split
  all_goals first | exact .refused s _ | exact check _ _

/-- BUDGET clamps what it takes, so that the credit stays within the cap and the cap within its bounds (R127). -/
theorem State.takeBudget_owner (s : State) (bytes : List Byte) : OwnerOrder o s (s.takeBudget bytes).st := by
  refine ⟨fun _ => ?_, id⟩
  have field_cap : field bytes 10 2 < 65536 := field_lt bytes 10 2
  refine ⟨Nat.min_le_right _ _, Nat.le_max_right _ _, max_le ?_ (by decide), Nat.min_le_right _ _⟩
  show field bytes 10 2 ≤ 65535
  omega

theorem State.takeView_owner (s : State) (bytes : List Byte) : OwnerOrder o s (s.takeView bytes).st := by
  simp only [State.takeView]
  split
  · split
    · exact .refused s _
    · refine s.setView_owner _ _ fun _ y hy => ?_
      cases hy
      exact View.orderly_of_no_pending rfl fun _ => rfl
  · exact .refused s _

theorem State.takeUnview_owner (s : State) (bytes : List Byte) : OwnerOrder o s (s.takeUnview bytes).st := by
  simp only [State.takeUnview]
  repeat' split
  all_goals first | exact .refused s _ | exact s.setView_owner _ _ fun _ _ h => nomatch h

/-- HOLD finds an IDLE view, which has no pending commit; it is no record of replay (R134, R168). -/
theorem State.takeHold_owner (s : State) (bytes : List Byte) : OwnerOrder .live s (s.takeHold bytes).st := by
  simp only [State.takeHold]
  split
  · exact .refused s _
  · next v _ =>
    split
    · exact .refused s _
    · next view hv =>
      split
      · exact .refused s _
      · next idle =>
        refine s.setView_owner _ _ fun law y hy => ?_
        cases hy
        exact View.orderly_of_no_pending ((law v view hv).no_pending (by simpa using idle)) nofun

theorem State.release_owner (s : State) (v : Fin 8) (view : View) : OwnerOrder o s (s.release v view) := by
  simp only [State.release]
  split
  · refine s.setView_owner _ _ fun _ y hy => ?_
    cases hy
    exact View.orderly_of_no_pending rfl fun _ => rfl
  · split
    · exact s.dropPending_owner _ _ _ _ fun _ _ => rfl
    · refine ((s.setView_owner _ _ fun _ y hy => ?_).trans (State.markCommit_owner _ _ _)).trans (State.raise_owner _ _)
      cases hy
      exact View.orderly_of_no_pending rfl fun _ => rfl

theorem State.takeRelease_owner (s : State) (bytes : List Byte) : OwnerOrder o s (s.takeRelease bytes).st := by
  simp only [State.takeRelease]
  repeat' split
  all_goals first | exact .refused s _ | exact s.release_owner _ _

/-- A COMMIT pends only on a HELD view and for the bank that is not selected; on an IDLE view it selects at once (R137 to R144). -/
theorem State.commit_owner (mode : Mode) (addr : Nat) (s : State) (v : Fin 8) (view : View) (bank : Bank)
    (hv : s.view v = some view) : OwnerOrder mode.origin s (s.commit mode addr v view bank).st := by
  have drop : ∀ pc r, OwnerOrder mode.origin s (s.dropPending v view pc r) := fun pc r =>
    s.dropPending_owner _ _ _ _ fun law => (law v view hv).2
  have select : view.held = false ∨ mode.origin = .replay →
      OwnerOrder mode.origin s (s.setView v (some { view with selected := bank })) := by
    intro h
    refine s.setView_owner _ _ fun law y hy => ?_
    cases hy
    have idle : view.held = false := h.elim id (law v view hv).2
    exact View.orderly_of_no_pending ((law v view hv).no_pending idle) fun _ => idle
  simp only [State.commit]
  split
  · split
    · exact drop _ _
    · exact .refl s
  · next other =>
    split
    · next kept => exact select (.inr (by rw [kept]; rfl))
    · split
      · exact s.raise_owner _
      · split
        · next held =>
          refine .trans (OwnerOrder.setView ?_ v _ fun law y hy => ?_) (State.raise_owner _ _)
          · split
            · exact drop _ _
            · exact .refl s
          · cases hy
            refine ⟨fun pc hp => ?_, fun replay => absurd (held.symm.trans ((law v view hv).2 replay)) nofun⟩
            cases hp
            exact ⟨held, other⟩
        · next idle => exact (select (.inl (by simpa using idle))).trans (State.raise_owner _ _)

theorem State.takeCommit_owner (mode : Mode) (addr : Nat) (s : State) (bytes : List Byte) :
    OwnerOrder mode.origin s (s.takeCommit mode addr bytes).st := by
  simp only [State.takeCommit]
  split
  · split
    · exact .refused s _
    · next hv => exact s.commit_owner mode addr _ _ _ hv
  · exact .refused s _

theorem State.takeSnapshot_owner (s : State) : OwnerOrder o s s.takeSnapshot.st := by
  simp only [State.takeSnapshot]
  split
  · exact .taken (((s.raise_owner _).trans (State.modCounters_work _ _).owner).trans (State.modSupply_owner _ _))
  · exact .taken (s.raise_owner _)

theorem State.takeAck_owner (s : State) : OwnerOrder o s s.takeAck.st := by
  refine .taken (.trans ?_ (OwnerOrder.foldl _ (fun s w => s.modWin_owner w _) allWindows _))
  split
  · exact .refl s
  · exact s.modReports_owner _

/-- Every owner keeps the credit within its cap and the views in order; at replay only the standing kinds are dispatched (R168). -/
theorem State.dispatch_owner (s : State) (k : RecKind) (mode : Mode) (addr : Nat) (bytes : List Byte)
    (h : mode.origin = .live ∨ k.standing = true) : OwnerOrder mode.origin s (s.dispatch k mode addr bytes).st := by
  cases k with
  | opclass => exact s.takeOpclass_owner _
  | window => exact s.takeWindow_owner _
  | manifest => exact s.takeManifest_owner _
  | digests => exact s.takeDigests_owner _
  | drop => exact s.takeDrop_owner _
  | check => exact s.takeCheck_owner _
  | budget => exact s.takeBudget_owner _
  | view => exact s.takeView_owner _
  | unview => exact s.takeUnview_owner _
  | commit => exact s.takeCommit_owner _ _ _
  | hold => rw [h.resolve_right nofun]; exact s.takeHold_owner _
  | release => exact s.takeRelease_owner _
  | snapshot => exact s.takeSnapshot_owner
  | ack => exact s.takeAck_owner
  | restart => exact .refl s

theorem State.ruleRecord_owner (s : State) (k : RecKind) (mode : Mode) (addr : Nat) (bytes : List Byte)
    (h : mode.origin = .live ∨ k.standing = true) : OwnerOrder mode.origin s (s.ruleRecord k mode addr bytes).st := by
  unfold State.ruleRecord
  split
  · exact s.dispatch_owner _ _ _ _ h
  · exact .refused s _

theorem State.ruleRecord_record (s : State) (k : RecKind) (mode : Mode) (addr : Nat) (bytes : List Byte) :
    RecordWork s (s.ruleRecord k mode addr bytes).st := by
  unfold State.ruleRecord
  split
  · exact s.dispatch_record _ _ _ _
  · exact .refl s

theorem State.rule_owner (s : State) (addr : Nat) (bytes : List Byte) (taint : Bool) :
    OwnerOrder .live s (s.rule addr bytes taint).st := by
  unfold State.rule
  split
  · exact .refused s _
  · split
    · exact .refused s _
    · split
      · exact .refused s _
      · exact s.ruleRecord_owner _ .live _ _ (.inl rfl)

/-! ### A record and the bytes that bring it -/

/-- Work of a record's owner, its mark and its report: what a record does before the parser goes on behind it (R161). -/
structure Handled (o : Origin) (s t : State) : Prop where
  record : RecordWork s t
  owner : OwnerOrder o s t

theorem Handled.refl (s : State) : Handled o s s := ⟨.refl s, .refl s⟩

theorem Handled.trans {s t u : State} (h : Handled o s t) (k : Handled o t u) : Handled o s u :=
  ⟨h.record.trans k.record, h.owner.trans k.owner⟩

theorem State.raise_handled (s : State) (r : Report) : Handled o s (s.raise r) := ⟨s.raise_record r, s.raise_owner r⟩

theorem State.requestMark_handled (s : State) (m : Mark) : Handled o s (s.requestMark m) :=
  ⟨s.requestMark_record m, s.requestMark_owner m⟩

theorem State.markRecord_handled (s : State) (addr : Nat) (k : MarkKind) : Handled o s (s.markRecord addr k) :=
  s.requestMark_handled _

theorem State.refuseRecord_handled (s : State) (addr : Nat) (bytes : List Byte) (r : Reason) (from' : Origin) :
    Handled o s (s.refuseRecord addr bytes r from') := (s.markRecord_handled addr .void).trans (State.raise_handled _ _)

/-- A record while the part runs is handled, and then the parser goes on behind it (R161). -/
theorem State.liveRecord_handled (s : State) (bytes : List Byte) (taint : Bool) :
    ∃ t, Handled .live s t ∧ (s.liveRecord bytes taint).st = t.nextRecord bytes := by
  have ruled : Handled .live s (s.rule s.parser.cursor bytes taint).st := ⟨s.rule_record _ _ _, s.rule_owner _ _ _⟩
  simp only [State.liveRecord, State.markRestart]
  split <;> rename_i hr <;> rw [hr] at ruled <;> simp only [Ruling.st] at ruled ⊢
  · exact ⟨_, ruled.trans (State.refuseRecord_handled _ s.parser.cursor bytes _ .live), rfl⟩
  · exact ⟨_, ruled.trans (State.markRecord_handled _ s.parser.cursor .void), rfl⟩
  · exact ⟨_, ruled, rfl⟩
  · next t =>
    split <;> dsimp only
    · exact ⟨_, ruled.trans (t.requestMark_handled { addr := s.parser.cursor + 1, kind := .void, restart := true }), rfl⟩
    · next k _ _ => exact ⟨_, ruled.trans (t.markRecord_handled s.parser.cursor (if k.standing then .kept else .void)), rfl⟩
    · exact ⟨_, ruled, rfl⟩

/-- A count of replay leaves the parser's record and cursor alone (R169). -/
def Parser.countsOnly (f : Parser → Parser) : Prop := ∀ p, (f p).cursor = p.cursor

theorem State.refuseAtReplay_handled (s : State) (addr : Nat) (bytes : List Byte) (r : Reason) :
    ∃ t f, Handled .replay s t ∧ Parser.countsOnly f ∧ s.refuseAtReplay addr bytes r = t.modParser f :=
  ⟨_, Parser.countRefused, s.refuseRecord_handled addr bytes r .replay, fun _ => rfl, rfl⟩

theorem State.replayRuling_handled (s : State) (addr : Nat) (bytes : List Byte) (r : Ruling) (h : Handled .replay s r.st) :
    ∃ t f, Handled .replay s t ∧ Parser.countsOnly f ∧ State.replayRuling addr bytes r = t.modParser f := by
  cases r with
  | taken u => exact ⟨_, Parser.countTaken, h.trans (u.markRecord_handled addr .kept), fun _ => rfl, rfl⟩
  | pended u => exact ⟨u, Parser.countTaken, h, fun _ => rfl, rfl⟩
  | refused u reason =>
    exact ⟨_, Parser.countRefused, h.trans (u.refuseRecord_handled addr bytes reason .replay), fun _ => rfl, rfl⟩
  | commitRefused u => exact ⟨_, Parser.countRefused, h.trans (u.markRecord_handled addr .void), fun _ => rfl, rfl⟩

theorem State.replayStanding_handled (s : State) (k : RecKind) (kept : Bool) (addr : Nat) (bytes : List Byte)
    (hk : k.standing = true) :
    ∃ t f, Handled .replay s t ∧ Parser.countsOnly f ∧ s.replayStanding k kept addr bytes = t.modParser f := by
  have ruled : ∀ mode : Mode, mode.origin = .replay → Handled .replay s (s.ruleRecord k mode addr bytes).st := by
    intro mode hm
    have owner := s.ruleRecord_owner k mode addr bytes (.inr hk)
    rw [hm] at owner
    exact ⟨s.ruleRecord_record _ _ _ _, owner⟩
  unfold State.replayStanding
  split
  · have kept := ruled .replayKept rfl
    split
    · next t ht =>
      rw [ht] at kept
      exact ⟨t, Parser.countTaken, kept, fun _ => rfl, rfl⟩
    · exact s.replayRuling_handled _ _ _ kept
  · exact s.replayRuling_handled _ _ _ (ruled .replayFresh rfl)

/-- A record at replay is handled and counted, and then the parser goes on behind it (R168, R169). -/
theorem State.replayRecord_handled (s : State) (bytes : List Byte) :
    ∃ t f, Handled .replay s t ∧ Parser.countsOnly f ∧ s.replayRecord bytes = (t.modParser f).nextRecord bytes := by
  have next : ∀ u, (∃ t f, Handled .replay s t ∧ Parser.countsOnly f ∧ u = t.modParser f) →
      ∃ t f, Handled .replay s t ∧ Parser.countsOnly f ∧ u.nextRecord bytes = (t.modParser f).nextRecord bytes := by
    rintro _ ⟨t, f, h, hf, rfl⟩
    exact ⟨t, f, h, hf, rfl⟩
  refine next _ ?_
  split
  · exact ⟨s, Parser.countSkipped, .refl s, fun _ => rfl, rfl⟩
  · split
    · exact s.refuseAtReplay_handled _ _ _
    · split
      · exact s.refuseAtReplay_handled _ _ _
      · split
        · exact s.refuseAtReplay_handled _ _ _
        · split
          · next hk => exact s.replayStanding_handled _ _ _ _ hk
          · exact ⟨_, Parser.countSkipped, s.markRecord_handled s.parser.cursor .void, fun _ => rfl, rfl⟩

/-- What bytes of the command area do: the work of the records they complete, and a parser that keeps its own law. -/
structure FeedOrder (o : Origin) (s t : State) : Prop where
  part : t.part = s.part
  straps : t.straps = s.straps
  bridge : t.bridge = { s.bridge with classes := t.bridge.classes }
  supply : t.supply = { s.supply with latch := t.supply.latch }
  owner : OwnerOrder o s t
  parser : ParserLaw s → ParserLaw t

theorem FeedOrder.refl (s : State) : FeedOrder o s s := ⟨rfl, rfl, rfl, rfl, .refl s, id⟩

theorem FeedOrder.trans {s t u : State} (h : FeedOrder o s t) (k : FeedOrder o t u) : FeedOrder o s u where
  part := k.part.trans h.part
  straps := k.straps.trans h.straps
  bridge := by rw [k.bridge, h.bridge]
  supply := by rw [k.supply, h.supply]
  owner := h.owner.trans k.owner
  parser := k.parser ∘ h.parser

theorem Handled.feed {s t : State} (h : Handled o s t) : FeedOrder o s t :=
  ⟨h.record.part, h.record.straps, h.record.bridge, h.record.supply, h.owner, .of_eq h.record.straps h.record.parser⟩

/-- Live bytes come to a part that runs and replayed bytes to one that does not; so what they do keeps the five laws. -/
theorem FeedOrder.order {s t : State} (h : FeedOrder o s t) (hp : HoldLaw s → (o = .live ↔ s.part = .running)) :
    KeepsOrder s t where
  credit := h.owner.credit
  claim law := by unfold ClaimLaw; rw [h.bridge]; exact law
  supply law := by unfold SupplyLaw; rw [h.supply]; exact law
  hold law := by
    obtain ⟨commits, idle, replay⟩ := law
    have origin := hp ⟨commits, idle, replay⟩
    have before : s.viewsOrderly o := fun v view hv =>
      ⟨fun pc => commits v view pc hv, fun ho => (idle fun run => by rw [ho] at origin; exact absurd (origin.2 run) nofun).2 v view hv⟩
    have behind := h.owner.views before
    refine ⟨fun v view pc hv => (behind v view hv).1 pc, fun hn => ?_, fun hr => ?_⟩
    · rw [h.part] at hn
      have stopped := idle hn
      refine ⟨by rw [h.bridge]; exact stopped.1, fun v view hv => (behind v view hv).2 ?_⟩
      cases o with
      | live => exact absurd (origin.1 rfl) hn
      | replay => rfl
    · rw [h.bridge] at hr
      rw [h.part]
      exact replay hr
  parser := h.parser

/-- A write of the parser that keeps its law. -/
theorem State.modParser_feed (s : State) (f : Parser → Parser) (h : ParserLaw s → ParserLaw (s.modParser f)) :
    FeedOrder o s (s.modParser f) := ⟨rfl, rfl, rfl, rfl, s.modParser_owner f, h⟩

/-- A parser that holds no bytes has its law with its cursor (R159). -/
theorem State.modParser_idle_feed (s : State) (f : Parser → Parser) (hc : (f s.parser).cursor = s.parser.cursor)
    (hp : ∀ bytes taint, (f s.parser).phase ≠ .inRecord bytes taint) : FeedOrder o s (s.modParser f) := by
  refine s.modParser_feed f fun ⟨low, high, aligned, _⟩ => ?_
  rw [← hc] at low high aligned
  exact ⟨low, high, aligned, fun bytes taint h => absurd h (hp bytes taint)⟩

/-- What the parser knows of the bytes it has collected, the last one just taken (R159, R160): behind a header they are no more than
the record, which fits the area. -/
def State.collecting (s : State) (bytes : List Byte) : Prop :=
  1 ≤ bytes.length ∧ (4 < bytes.length → s.framed bytes ∧ bytes.length ≤ 4 * recordWords bytes)

/-- The length in a header stands once its four bytes are there (R157). -/
theorem recordWords_append (bytes more : List Byte) (h : 4 ≤ bytes.length) :
    recordWords (bytes ++ more) = recordWords bytes := by
  simp only [recordWords, field]
  rw [List.drop_append_of_le_length (by omega), List.take_append_of_le_length (by rw [List.length_drop]; omega)]

/-- A handled record lets the cursor advance by its length, and the parser is READY there (R161). -/
theorem Handled.next {s t : State} (h : Handled o s t) {f : Parser → Parser} (hf : Parser.countsOnly f) (bytes : List Byte)
    (hb : ParserLaw s → s.parser.cursor + 4 * recordWords bytes ≤ commandEnd s.straps) :
    FeedOrder o s ((t.modParser f).nextRecord bytes) := by
  have counted : FeedOrder o s ((t.modParser f).modParser fun p =>
      { p with phase := .ready, cursor := p.cursor + 4 * recordWords bytes }) := by
    refine ⟨h.record.part, h.record.straps, h.record.bridge, h.record.supply,
      (h.owner.trans (State.modParser_owner _ _)).trans (State.modParser_owner _ _), fun law => ?_⟩
    have fits := hb law
    obtain ⟨low, high, aligned, _⟩ := law
    have cursor : (f t.parser).cursor = s.parser.cursor := by rw [hf, h.record.parser]
    refine ⟨?_, ?_, ?_, fun _ _ hp => nomatch hp⟩ <;>
      simp only [State.modParser, cursor, h.record.straps]
    · omega
    · exact fits
    · omega
  have refill := State.refill_queueWork ((t.modParser f).modParser fun p =>
    { p with phase := .ready, cursor := p.cursor + 4 * recordWords bytes })
  exact counted.trans (Handled.feed ⟨refill.chunks.record, refill.chunks.owner⟩)

/-- The state that a byte of the command area leaves. -/
def FeedResult.st : FeedResult → State
  | .more s => s
  | .endMark s => s
  | .broke s => s
  | .restart s => s

theorem State.breakParser_feed (s : State) (cause : ParseCause) (from' : Origin) (first : Nat) :
    FeedOrder o s (s.breakParser cause from' first) :=
  (s.modParser_idle_feed (fun p => { p with phase := .broken }) rfl fun _ _ h => by cases h).trans (State.raise_handled _ _).feed

/-- The bytes collected so far, or the record they complete, keep the parser in its law (R159, R160). -/
theorem State.collected_feed (s : State) (first : Nat) (bytes : List Byte) (taint : Bool)
    (h : ParserLaw s → s.collecting bytes) : FeedOrder o s (s.collected o first bytes taint).st := by
  have held : (ParserLaw s → 4 ≤ bytes.length → s.framed bytes ∧ bytes.length < 4 * recordWords bytes) →
      FeedOrder o s (s.modParser fun p => { p with phase := .inRecord bytes taint }) := by
    refine fun hb => s.modParser_feed _ fun law => ⟨law.1, law.2.1, law.2.2.1, fun b t hp => ?_⟩
    cases hp
    refine ⟨(h law).1, fun h4 => ?_⟩
    obtain ⟨⟨least, most, fits⟩, more⟩ := hb law h4
    exact ⟨least, most, more, fits⟩
  unfold State.collected
  simp only
  split
  · next h4 =>
    split
    · exact s.modParser_idle_feed (fun p => { p with phase := .ready }) rfl fun _ _ hp => by cases hp
    · split
      · exact s.breakParser_feed _ _ _
      · next length =>
        split
        · exact s.breakParser_feed _ _ _
        · next overrun =>
          simp only [Config.recordMinWords, Config.recordMaxWords, not_or, Nat.not_lt] at length overrun
          exact held fun _ _ => ⟨⟨length.1, length.2, overrun⟩, by omega⟩
  · next not4 =>
    split
    · next whole =>
      have fits : ParserLaw s → s.parser.cursor + 4 * recordWords bytes ≤ commandEnd s.straps :=
        fun law => ((h law).2 whole.1).1.2.2
      cases o with
      | live =>
        obtain ⟨t, ht, e⟩ := s.liveRecord_handled bytes taint
        have fed : FeedOrder .live s (s.liveRecord bytes taint).st := by
          rw [e]
          exact ht.next (f := id) (fun _ => rfl) bytes fits
        simp only
        split
        · exact fed
        · exact fed
      | replay =>
        obtain ⟨t, f, ht, hf, e⟩ := s.replayRecord_handled bytes
        simp only [FeedResult.st, e]
        exact ht.next hf bytes fits
    · next part =>
      refine held fun law h4 => ?_
      obtain ⟨framed, most⟩ := (h law).2 (by omega)
      exact ⟨framed, by omega⟩

/-- One byte of the command area keeps the parser in its law (R160). -/
theorem State.feed_order (s : State) (first : Nat) (b : Byte) : FeedOrder o s (s.feed o first b).st := by
  unfold State.feed
  simp only
  split
  · exact .refl s
  · exact s.collected_feed _ _ _ fun _ => ⟨le_refl _, fun h => absurd h (by simp)⟩
  · next bytes taint hp =>
    refine s.collected_feed _ _ _ fun law => ⟨by simp, fun h => ?_⟩
    rw [List.length_append, List.length_singleton] at h ⊢
    obtain ⟨_, fits⟩ := law.2.2.2 bytes taint hp
    obtain ⟨least, most, more, inside⟩ := fits (by omega)
    rw [State.framed, recordWords_append _ _ (by omega)]
    exact ⟨⟨least, most, inside⟩, by omega⟩

theorem State.feedLive_order (first : Nat) (bytes : List Byte) (s : State) :
    FeedOrder .live s (s.feedLive first bytes).st := by
  induction bytes generalizing s with
  | nil => exact .refl s
  | cons b bs ih =>
    have step : FeedOrder .live s (s.feed .live first b).st := s.feed_order first b
    unfold State.feedLive
    split <;> rename_i hf <;> rw [hf] at step
    · exact step.trans (ih _)
    · exact step
    · exact step
    · exact step

theorem State.feedReplay_order (bytes : List Byte) (s : State) : FeedOrder .replay s (s.feedReplay bytes).1 := by
  induction bytes generalizing s with
  | nil => exact .refl s
  | cons b bs ih =>
    have step : FeedOrder .replay s (s.feed .replay 0 b).st := s.feed_order 0 b
    unfold State.feedReplay
    split <;> rename_i hf <;> rw [hf] at step
    · split
      · exact step
      · exact step.trans (ih _)
    · exact step
    · exact step
    · exact step

end Sys2Proof.Machine
end

section
/-! Each step of the part keeps the five laws of O60: the host's commands, forwarding, internal programs, start-up reads and time. -/

namespace Sys2Proof.Machine

/-! ### The host's commands -/

/-- The row that names a transfer does not matter: the entry of its opcode governs it (R2). -/
theorem exec_of_hostRow {x : HostXfer} {i : Instr} (h : i ∈ hostRows x) (s : State) : exec i s = .next (s.hostCommand x) := by
  have agree : ∀ (k : HostKind) (t : State), (s.hostKind x = k → t = s.hostCommand x) →
      Host.Outcome.next (φ := Fault) (ρ := Refusal) (if s.hostKind x = k then t else s.hostCommand x) =
        .next (s.hostCommand x) := by
    intro k t ht
    split
    · next hk => rw [ht hk]
    · rfl
  simp only [hostRows, List.mem_cons, List.not_mem_nil, or_false] at h
  rcases h with rfl | rfl | rfl | rfl | rfl | rfl | rfl | rfl | rfl | rfl | rfl | rfl <;>
    exact agree _ _ fun hk => by simp only [State.hostCommand, hk]

/-- A transfer of a class is clocked while ready is high, and its opcode's entry names the class (R2, R11). -/
theorem State.hostKind_cls {s : State} {x : HostXfer} {c : CmdClass} (h : s.hostKind x = .cls c) :
    s.readyHigh = true ∧ (s.classOf x.opcode).cls = c := by
  unfold State.hostKind at h
  split at h
  · cases h
  · next hr =>
    refine ⟨by simpa using hr, ?_⟩
    split at h
    · next hb => cases h; exact hb
    · split at h
      · cases h; rfl
      · cases h

theorem State.hostKind_cls_running {s : State} {x : HostXfer} {c : CmdClass} (h : s.hostKind x = .cls c) :
    s.part = .running := ((s.readyHigh_iff).1 (State.hostKind_cls h).1).1

theorem State.withhold_work (s : State) (cls : CmdClass) (r : Reason) (opcode : Byte) (addr : Nat) :
    ChunkWork s (s.withhold cls r opcode addr) := (s.raise_work _).trans (State.modCounters_work _ fun c => { c with withheld := countUp c.withheld })

/-- A command comes into the buffer of a part that runs only (R6, R11). -/
theorem State.releaseSelect_order (s : State) (c : Collected) (addrLen : Nat) (h : s.part = .running) :
    KeepsOrder s (s.releaseSelect c addrLen) := by
  unfold State.releaseSelect
  split
  · exact ((s.withhold_work _ _ _ _).order.trans (State.drive_order _ _ _)).trans (State.settleClaim_order _)
  · have taken : KeepsOrder s (s.modBridge fun b => { b with collected := some c }) :=
      ⟨id, id, id, fun law => ⟨law.1, fun hn => absurd h hn, law.2.2⟩, id⟩
    exact (taken.trans (State.drive_order _ _ _)).trans (State.settleClaim_order _)

theorem State.statusCommand_order (s : State) (x : HostXfer) : KeepsOrder s (s.statusCommand x) :=
  ((s.takeOpcode_order.trans (State.drive_order _ _ _)).trans
    (KeepsOrder.foldl _ State.watchStatus_order x.flash _)).trans (State.settleClaim_order _)

theorem State.writeEnableCommand_order (s : State) (x : HostXfer) : KeepsOrder s (s.writeEnableCommand x) :=
  ((s.takeOpcode_order.trans (State.drive_order _ _ _)).trans
    (State.modBridge_order _ _ (.inl rfl) (.inl rfl) (.inl rfl))).trans (State.settleClaim_order _)

/-! ### Reading -/

theorem ReadRun.close_order (r : ReadRun) : KeepsOrder r.st r.close.st := r.close_work.1.order

theorem ReadRun.account_order (r : ReadRun) (b : ByteSite) : KeepsOrder r.st (r.account b).st := by
  unfold ReadRun.account
  split
  · split
    · simp only [State.signalFill]
      split
      · exact .refl _
      · exact (State.raise_order _ _).trans (State.modWin_order _ _ _)
    · exact .refl _
  · exact .refl _

theorem ReadRun.byte_order (r : ReadRun) (x : Nat) (byte : Byte) : KeepsOrder r.st (r.byte x byte).st :=
  (r.cut_work (r.st.siteOf x)).1.order.trans
    (ReadRun.account_order
      { r.cut (r.st.siteOf x) with
        last := some (r.st.siteOf x)
        offer := (r.cut (r.st.siteOf x)).grow (r.st.siteOf x) byte
        out := (r.cut (r.st.siteOf x)).out ++ [(r.cut (r.st.siteOf x)).st.delivered (r.st.siteOf x) byte] } (r.st.siteOf x))

theorem State.duringRead_order (s : State) (e : DuringRead) : KeepsOrder s (s.duringRead e) := by
  cases e with
  | tick => exact s.tickTimers_order.trans (State.settleClaim_order _)
  | bandChange band => exact s.changeBand_order band
  | readbackStart => exact s.takeHead_order

theorem ReadRun.between_order (r : ReadRun) (x : Nat) (events : List DuringRead) :
    KeepsOrder r.st (r.between x events).st := by
  cases events with
  | nil => exact .refl _
  | cons e es => exact (r.cut_work (r.st.siteOf x)).1.order.trans (KeepsOrder.foldl _ State.duringRead_order (e :: es) _)

theorem ReadRun.bytes_order (a flashBytes : Nat) (during : List (Nat × DuringRead)) (data : List Byte) :
    ∀ (k : Nat) (r : ReadRun), KeepsOrder r.st (ReadRun.bytes a flashBytes during k data r).st := by
  induction data with
  | nil => exact fun k r => r.between_order _ _
  | cons b bs ih =>
    exact fun k r => ((r.between_order _ _).trans (ReadRun.byte_order _ _ _)).trans (ih _ _)

theorem ReadRun.finish_order (r : ReadRun) : KeepsOrder r.st r.finish := by
  unfold ReadRun.finish
  split
  · exact r.close_order
  · exact r.close_order.trans (State.modCounters_work _ _).order

theorem State.readCommand_order (s : State) (x : HostXfer) : KeepsOrder s (s.readCommand x) :=
  (((s.takeOpcode_order.trans (ReadRun.bytes_order _ _ _ _ 0
    { st := s.takeOpcode, last := none, offer := none, out := [], filled := [] })).trans (ReadRun.finish_order _)).trans
    (State.drive_order _ _ _)).trans (State.settleClaim_order _)

/-- Every command of the host keeps the five laws, whatever its class. -/
theorem State.hostCommand_order (s : State) (x : HostXfer) : KeepsOrder s (s.hostCommand x) := by
  have issue : ∀ {c : CmdClass} (d : Collected) (n : Nat), s.hostKind x = .cls c →
      KeepsOrder s (s.takeOpcode.releaseSelect d n) := fun d n h =>
    s.takeOpcode_order.trans (State.releaseSelect_order _ d n (State.hostKind_cls_running (s := s) h))
  unfold State.hostCommand
  split <;> rename_i hk
  · exact s.drive_order _ _
  · exact (s.takeOpcode_order.trans (State.drive_order _ _ _)).trans (State.settleClaim_order _)
  · exact s.readCommand_order x
  · exact issue _ _ hk
  · exact issue _ _ hk
  · exact issue _ _ hk
  · exact issue _ _ hk
  · exact issue _ _ hk
  · exact s.statusCommand_order x
  · exact s.writeEnableCommand_order x
  · exact (s.takeOpcode_order.trans (State.drive_order _ _ _)).trans (State.settleClaim_order _)
  · exact ((s.takeOpcode_order.trans (State.withhold_work _ _ _ _ _).order).trans (State.drive_order _ _ _)).trans
      (State.settleClaim_order _)

/-! ### Forwarding -/

theorem State.restartQuiet_order (s : State) (w : Fin 32) : KeepsOrder s (s.restartQuiet w) := by
  unfold State.restartQuiet
  split
  · exact s.modWin_order _ _
  · exact .refl s

/-- Bytes of the command area come behind `t` to a part that runs by the law of `s`. -/
theorem KeepsOrder.feedLive {s t u : State} (h : KeepsOrder s t) (run : HoldLaw s → t.part = .running)
    (k : FeedOrder .live t u) : KeepsOrder s u where
  credit := k.owner.credit ∘ h.credit
  claim law := by unfold ClaimLaw; rw [k.bridge]; exact h.claim law
  supply law := by unfold SupplyLaw; rw [k.supply]; exact h.supply law
  hold law := (k.order fun _ => by simp [run law]).hold (h.hold law)
  parser := k.parser ∘ h.parser

theorem State.commandProgram_feed (s : State) (addr : Nat) (data : List Byte) :
    FeedOrder .live s (s.commandProgram addr data).st := by
  unfold State.commandProgram
  split
  · exact .refl s
  · split
    · exact s.breakParser_feed _ _ _
    · split
      · exact s.breakParser_feed _ _ _
      · exact s.feedLive_order _ _

theorem KeepsOrder.landProgram {s t : State} (h : KeepsOrder s t) (run : HoldLaw s → t.part = .running) (c : Collected) :
    KeepsOrder s (t.landProgram c).st := by
  unfold State.landProgram
  split
  · next w _ =>
    obtain ⟨u, work, e⟩ := t.programWindow_work w c
    simp only [e]
    exact h.trans (work.order.trans (u.restartQuiet_order w))
  · split
    · exact h.feedLive run (t.commandProgram_feed _ _)
    · exact h

/-- While a command is collected the part runs (R6, R11, R128). -/
theorem HoldLaw.running {s : State} (law : HoldLaw s) {c : Collected} (hc : s.bridge.collected = some c) :
    s.part = .running := by
  by_contra hn
  exact absurd ((law.2.1 hn).1.symm.trans hc) nofun

theorem State.forwardProgram_order (s : State) (c : Collected) (hc : s.bridge.collected = some c) :
    KeepsOrder s (s.forwardProgram c) := by
  unfold State.forwardProgram
  split
  · exact s.emptyBuffer_order.trans (State.settleClaim_order _)
  · have busy : KeepsOrder s (s.emptyBuffer.busyWithHost (c.touched s.flashBytes)) :=
      s.emptyBuffer_order.trans (State.busyWithHost_order _ _)
    have landed := busy.landProgram (fun law => law.running hc) c
    exact ((landed.trans (State.refill_order _)).trans (State.settleClaim_order _)).trans (State.restartIf_order _ _)

/-- An erase of the command area puts the parser at the area's start and changes of the views only what stands of their commits'
records (R162). -/
theorem State.eraseCommandArea_order (s : State) (cover : Nat × Nat) : KeepsOrder s (s.eraseCommandArea cover).st := by
  have lose : ∀ (t : State) (v : Fin 8), KeepsOrder t (t.loseRecord cover v) := by
    intro t v
    have share : ∀ view : View, (view.loseRecord cover).held = view.held ∧
        (view.loseRecord cover).selected = view.selected ∧
        ∀ pc, (view.loseRecord cover).pendingCommit = some pc → ∃ old, view.pendingCommit = some old ∧ pc.bank = old.bank := by
      intro view
      unfold View.loseRecord
      split
      · next old ho =>
        split
        · exact ⟨rfl, rfl, fun pc hp => ⟨old, ho, by cases hp; rfl⟩⟩
        · exact ⟨rfl, rfl, fun pc hp => ⟨pc, hp, rfl⟩⟩
      · exact ⟨rfl, rfl, fun pc hp => ⟨pc, hp, rfl⟩⟩
    have before : ∀ u y, (t.loseRecord cover v).view u = some y → ∃ x, t.view u = some x ∧ (y = x ∨ y = x.loseRecord cover) := by
      intro u y hy
      rw [State.loseRecord, State.view_setView] at hy
      split at hy
      · next e =>
        subst e
        obtain ⟨x, hx, rfl⟩ := Option.map_eq_some_iff.1 hy
        exact ⟨x, hx, .inr rfl⟩
      · exact ⟨y, hy, .inl rfl⟩
    refine ⟨id, id, id, fun ⟨commits, idle, replay⟩ => ⟨fun u y pc hy hp => ?_, fun hn => ⟨(idle hn).1, fun u y hy => ?_⟩, replay⟩, id⟩
    · obtain ⟨x, hx, rfl | rfl⟩ := before u y hy
      · exact commits u _ pc hx hp
      · obtain ⟨held, selected, bank⟩ := share x
        obtain ⟨old, ho, eb⟩ := bank pc hp
        rw [held, selected, eb]
        exact commits u x old hx ho
    · obtain ⟨x, hx, rfl | rfl⟩ := before u y hy
      · exact (idle hn).2 u _ hx
      · rw [(share x).1]
        exact (idle hn).2 u x hx
  have parser : KeepsOrder s (s.modParser fun p => { p with phase := .ready, cursor := commandBase s.straps }) := by
    refine ⟨id, id, id, id, fun _ => ⟨le_refl _, commandBase_le_commandEnd _, ?_, fun _ _ hp => by cases hp⟩⟩
    simp [State.modParser]
  exact (parser.trans (State.modReports_order _ _)).trans (KeepsOrder.foldl _ lose allViews _)

theorem State.forwardErase_order (s : State) (c : Collected) : KeepsOrder s (s.forwardErase c) := by
  have touch : ∀ (cover : Nat × Nat) (t : State) (w : Fin 32), KeepsOrder t (t.eraseTouches cover w) := by
    intro cover t w
    unfold State.eraseTouches
    split
    · exact t.restartQuiet_order w
    · exact .refl t
  have windows : ∀ (cover : Nat × Nat) (t : State), KeepsOrder t (t.eraseWindows cover) := fun cover t =>
    (t.eraseWindow_foldl_work cover).order.trans (KeepsOrder.foldl _ (touch cover) allWindows _)
  have command : ∀ (cover : Nat × Nat) (t : State), KeepsOrder t (t.eraseMeetsCommand cover).st := by
    intro cover t
    unfold State.eraseMeetsCommand
    split
    · exact t.eraseCommandArea_order cover
    · exact .refl t
  have report : ∀ (cover : Nat × Nat) (t : State), KeepsOrder t (t.eraseMeetsReport cover) := by
    intro cover t
    unfold State.eraseMeetsReport State.eraseReportArea
    split
    · split
      · exact .refl t
      · exact t.modReports_order _
    · exact .refl t
  have busy : KeepsOrder s (s.emptyBuffer.busyWithHost (c.touched s.flashBytes)) :=
    s.emptyBuffer_order.trans (State.busyWithHost_order _ _)
  exact ((((((busy.trans (windows _ _)).trans (command _ _)).trans (report _ _)).trans (State.refill_order _)).trans
    (State.settleClaim_order _))).trans (State.restartIf_order _ _)

/-! ### Internal programs and start-up reads -/

/-- An internal operation starts with the claim count at 0; a replay read starts only while the part is STARTING (R16, R168). -/
theorem State.startOp_order (s : State) (op : PortOp) (txns : List FlashTxn)
    (h : op = .startupRead .replay → s.part = .starting) : KeepsOrder s (s.startOp op txns) := by
  refine ⟨id, fun _ => Nat.zero_le _, id, fun ⟨commits, idle, _⟩ => ⟨commits, idle, fun hr => ?_⟩, id⟩
  exact h (Option.some.inj hr)

theorem State.startReport_order (s : State) (r : Report) : KeepsOrder s (s.startReport r) :=
  (s.startOp_order (.program .report .programming 0)
    (s.programTxns (slotAddr s.straps s.reports.index) (r.slot s.reports.dropped s.scheduler.ms)) nofun).trans
    (State.modReports_order _ _)

theorem State.endProgramTransaction_order (s : State) (kind : ProgramKind) (timer : Nat) :
    KeepsOrder s (s.endProgramTransaction kind timer) :=
  (s.modBridge_order (fun b => { b with busy := true, owner := .internal, portOp := some (.program kind .polling timer) })
    (.inl rfl) (.inl rfl) (.inr (by simp))).trans (State.settleClaim_order _)

theorem State.completeProgram_order (s : State) (kind : ProgramKind) : KeepsOrder s (s.completeProgram kind).st := by
  cases kind with
  | mark => exact s.endOp_order.trans ⟨id, id, id, id, id⟩
  | report => exact s.endOp_order.trans ⟨id, id, id, id, id⟩

theorem State.pollProgram_order (s : State) (kind : ProgramKind) (byte : Byte) : KeepsOrder s (s.pollProgram kind byte) := by
  have watched : KeepsOrder s ((s.issue [statusTxn]).watchStatus byte) := (s.issue_order _).trans (State.watchStatus_order _ _)
  simp only [State.pollProgram]
  split
  · exact watched.trans (State.settleClaim_order _)
  · exact ((watched.trans (State.completeProgram_order _ _)).trans (State.settleClaim_order _)).trans (State.restartIf_order _ _)

theorem State.timeOut_order (s : State) : KeepsOrder s s.timeOut.st := s.endOp_order.trans ⟨id, id, id, id, id⟩

theorem State.tickProgram_order (s : State) : KeepsOrder s s.tickProgram.st := by
  unfold State.tickProgram
  split
  · split
    · exact s.timeOut_order
    · next kind phase timer _ _ =>
      exact s.modBridge_order (fun b => { b with portOp := some (.program kind phase (timer + 1)) }) (.inl rfl) (.inl rfl)
        (.inr (by simp))
  all_goals exact .refl s

/-- The end of replay brings the part to RUNNING, with its views IDLE (R167). -/
theorem State.endReplay_order (s : State) (ended : ReplayEnd) (h : s.bridge.portOp = none) :
    KeepsOrder s (s.endReplay ended) :=
  ⟨id, id, id, fun law => ⟨law.1, fun hn => absurd rfl hn, fun hr => absurd (h.symm.trans hr) nofun⟩, id⟩

/-- The bytes of a replay read come while the part is STARTING (R167, R168). -/
theorem State.startupBytes_order (s : State) (purpose : ReadPurpose) (bytes : List Byte)
    (h : s.bridge.portOp = some (.startupRead purpose)) : KeepsOrder s (s.endOp.startupBytes purpose bytes) := by
  cases purpose with
  | scan => exact s.endOp_order.trans (State.modReports_order _ _)
  | replay =>
    have fed := State.feedReplay_order bytes s.endOp
    have replayed : KeepsOrder s (s.endOp.feedReplay bytes).1 := by
      refine ⟨fed.owner.credit ∘ s.endOp_order.credit, fun law => ?_, fun law => ?_, fun law => ?_,
        fed.parser ∘ s.endOp_order.parser⟩
      · unfold ClaimLaw; rw [fed.bridge]; exact s.endOp_order.claim law
      · unfold SupplyLaw; rw [fed.supply]; exact s.endOp_order.supply law
      · have starting : s.part = .starting := law.2.2 h
        refine (fed.order fun _ => ⟨nofun, fun run => ?_⟩).hold (s.endOp_order.hold law)
        exact absurd (starting.symm.trans run) nofun
    have free : (s.endOp.feedReplay bytes).1.bridge.portOp = none := by rw [fed.bridge]; rfl
    simp only [State.startupBytes, State.replayBytes]
    split <;> rename_i hf <;> rw [hf] at replayed free
    · exact replayed.trans (State.endReplay_order _ _ free)
    · exact replayed

/-! ### The step -/

/-- Each step keeps the five laws, each from itself. -/
theorem exec_order (i : Instr) (s t : State) (h : exec i s = .next t) : KeepsOrder s t := by
  have host : ∀ {x : HostXfer}, i ∈ hostRows x → KeepsOrder s t := by
    intro x hi
    rw [exec_of_hostRow hi] at h
    cases h
    exact s.hostCommand_order x
  cases i with
  | read x | program x | erase4K x | erase32K x | erase64K x | eraseAll x | status x | writeEnable x | pass x | block x
  | commandDiscard x | opcodeWhileNotReady x => exact host (x := x) (by simp [hostRows])
  | programForward =>
    simp only [exec, execProgramForward] at h
    split at h
    · next c hc =>
      split at h <;> cases h
      · exact s.forwardProgram_order c hc
      · exact .refl s
    · cases h; exact .refl s
  | eraseForward =>
    simp only [exec, execEraseForward] at h
    split at h
    · split at h <;> cases h
      · exact .refl s
      · exact s.forwardErase_order _
    · cases h; exact .refl s
  | statusPoll waiting byte =>
    simp only [exec, execStatusPoll] at h
    split at h <;> cases h
    · exact ((s.issue_order _).trans (State.watchStatus_order _ _)).trans (State.settleClaim_order _)
    · exact .refl s
  | markProgram waiting =>
    simp only [exec, execMarkProgram] at h
    split at h
    · split at h <;> cases h
      · exact s.startOp_order _ _ nofun
      · exact .refl s
    · cases h; exact .refl s
  | reportProgram waiting =>
    simp only [exec, execReportProgram] at h
    split at h
    · split at h <;> cases h
      · exact s.startReport_order _
      · exact .refl s
    · cases h; exact .refl s
  | internalProgramTransactionEnd =>
    simp only [exec, execInternalProgramTransactionEnd] at h
    split at h <;> cases h
    · exact s.endProgramTransaction_order _ _
    all_goals exact .refl s
  | internalProgramPoll byte =>
    simp only [exec, execInternalProgramPoll] at h
    split at h <;> cases h
    · exact s.pollProgram_order _ _
    all_goals exact .refl s
  | internalProgramTimeout =>
    simp only [exec, execInternalProgramTimeout] at h
    split at h
    · split at h <;> cases h
      · exact (s.timeOut_order.trans (State.settleClaim_order _)).trans (State.restartIf_order _ _)
      · exact .refl s
    all_goals cases h; exact .refl s
  | startupRead waiting =>
    simp only [exec, execStartupRead] at h
    split at h
    · next purpose hp =>
      split at h <;> cases h
      · refine s.startOp_order _ _ fun e => ?_
        cases e
        unfold State.readRequested at hp
        split at hp
        · cases hp
        · split at hp
          · assumption
          · cases hp
      · exact .refl s
    · cases h; exact .refl s
  | startupReadEnd bytes =>
    simp only [exec, execStartupReadEnd] at h
    split at h
    · next hp =>
      split at h <;> cases h
      · exact (s.startupBytes_order _ _ hp).trans (State.settleClaim_order _)
      · exact .refl s
    all_goals cases h; exact .refl s
  | readbackStart => cases h; exact s.takeHead_order
  | readbackBurst waiting =>
    simp only [exec, execReadbackBurst] at h
    split at h
    · split at h <;> cases h
      · exact s.issueBurst_order _
      · exact .refl s
    · cases h; exact .refl s
  | readbackBurstEnd bytes =>
    simp only [exec, execReadbackBurstEnd] at h
    split at h
    · split at h <;> cases h
      · exact s.endBurst_order _ _
      · exact .refl s
    · cases h; exact .refl s
  | tick =>
    simp only [exec, execTick] at h
    split at h <;> obtain rfl := Host.Outcome.next.inj h
    · exact .refl s
    · exact ((s.tickTimers_order.trans (State.tickProgram_order _)).trans (State.settleClaim_order _)).trans
        (State.restartIf_order _ _)
  | quietTimerExpiry window =>
    simp only [exec, execQuietTimerExpiry] at h
    split at h
    · cases h; exact .refl s
    · split at h
      · split at h <;> obtain rfl := Host.Outcome.next.inj h
        · exact ((s.modWin_order _ _).trans (State.refill_order _)).trans (State.settleClaim_order _)
        · exact .refl s
      · cases h; exact .refl s
  | bandChange band =>
    simp only [exec, execBandChange] at h
    split at h <;> cases h
    · exact .refl s
    · exact s.changeBand_order band
  | settleTimerExpiry =>
    simp only [exec, execSettleTimerExpiry] at h
    split at h
    · split at h <;> obtain rfl := Host.Outcome.next.inj h
      · exact (s.enterNormal_order _).trans (State.settleClaim_order _)
      · exact .refl s
    all_goals cases h; exact .refl s
  | powerOnReset pins band => cases h; exact .of_inOrder (State.resetWith_inOrder _ _ _ _)
  | resetPinAssert => cases h; exact .of_inOrder (State.cleared_inOrder _ _ _ _ .held)
  | resetPinRelease pins band =>
    simp only [exec, execResetPinRelease] at h
    split at h <;> cases h
    · exact .of_inOrder (State.resetWith_inOrder _ _ _ _)
    · exact ⟨id, id, id, id, id⟩

/-- Settles O60. -/
theorem creditSupplyHoldsAndParserStayInOrder : Obligations.CreditSupplyHoldsAndParserStayInOrder := by
  intro s t h
  have kept : KeepsOrder s t := by
    unfold step at h
    split at h
    · cases h; exact .refl s
    · next c rest _ =>
      have run := exec_order c { s with pending := rest } t h
      exact ⟨run.credit, run.claim, run.supply, run.hold, run.parser⟩
  exact ⟨kept.credit, kept.claim, kept.supply, kept.hold, kept.parser⟩

end Sys2Proof.Machine
end

section
/-! The bridge: the step, the class table after a reset, the ready line, and what a command of the host becomes (O1, O5 to O12). -/

namespace Sys2Proof.Machine

/-- Settles O1. -/
theorem stepRunsTheFrontOfTheQueue : Obligations.StepRunsTheFrontOfTheQueue := by
  intro c rest s h
  simp only [step, h]

/-! ### The class table after a reset -/

/-- Every reset leaves the bridge as it clears it; a dip at the reset changes only the claim count, if anything (R1, R166). -/
theorem State.resetWith_event (cause : ResetCause) (pins : Straps) (band : Band) (q : List Instr) :
    EventWork (State.cleared cause pins band q) (State.resetWith cause pins band q) := by
  unfold State.resetWith
  simp only
  split
  · exact .refl _
  · exact State.enterDip_event true _

theorem State.resetWith_classOf (cause : ResetCause) (pins : Straps) (band : Band) (q : List Instr) (op : Byte) :
    (State.resetWith cause pins band q).classOf op = ClassEntry.atReset op.toNat := by
  unfold State.classOf
  rw [(State.resetWith_event cause pins band q).bridge]
  simp [State.cleared, Vector.get_eq_getElem]

/-- Settles O5. -/
theorem classTableAfterResetIsTheManuals : Obligations.ClassTableAfterResetIsTheManuals := by
  intro pins band s t h
  obtain rfl := Host.Outcome.next.inj h
  simp only [State.resetWith_classOf]
  refine ⟨rfl, rfl, rfl, rfl, rfl, rfl, rfl, rfl, rfl, rfl, rfl, rfl, rfl, rfl, rfl, ?_⟩
  decide

/-! ### The ready line -/

theorem State.readyHigh_eq_false_iff (s : State) :
    s.readyHigh = false ↔
      s.part ≠ .running ∨ s.internalInFlight = true ∨ s.bridge.collected.isSome = true ∨
        (s.bridge.claim = 2 ∧ s.anyReady = true) := by
  rw [← Bool.not_eq_true, State.readyHigh_iff]
  simp only [State.portFree, Config.claimLimit, Bool.and_eq_true, Bool.not_eq_true', Option.isNone_iff_eq_none,
    Option.isSome_iff_ne_none]
  cases s.internalInFlight with
  | true => simp
  | false => simp; tauto

theorem State.hostKind_of_not_ready {s : State} (x : HostXfer) (h : s.readyHigh = false) : s.hostKind x = .notReady := by
  simp [State.hostKind, h]

/-- Settles O6. -/
theorem opcodeWhileReadyIsLowIsDiscarded : Obligations.OpcodeWhileReadyIsLowIsDiscarded := by
  refine ⟨State.readyHigh_eq_false_iff, fun x s i hi h => ?_⟩
  rw [exec_of_hostRow hi]
  simp only [State.hostCommand, State.hostKind_of_not_ready x h]
  rfl

/-! ### Commands that pass, are withheld or are discarded -/

theorem State.hostKind_block {s : State} {x : HostXfer} (hr : s.readyHigh = true) (h : (s.classOf x.opcode).cls = .block) :
    s.hostKind x = .cls .block := by
  simp [State.hostKind, hr, h]

/-- With all address bytes clocked the transfer is a command of its class (R2). -/
theorem State.hostKind_of_addressed {s : State} {x : HostXfer} {c : CmdClass} (hr : s.readyHigh = true)
    (h : (s.classOf x.opcode).cls = c) (ha : (s.classOf x.opcode).addrLen ≤ x.sent.length) : s.hostKind x = .cls c := by
  subst h
  by_cases hb : (s.classOf x.opcode).cls = .block
  · rw [State.hostKind_block hr hb, hb]
  · simp [State.hostKind, hr, HostXfer.addressed, ha, hb]

/-- Settles O7. -/
theorem blockCommandIsWithheldAtItsOpcode : Obligations.BlockCommandIsWithheldAtItsOpcode := by
  intro x s hr hb
  refine ⟨fun h0 => by simp [HostXfer.addr, formAddress, h0, beNat], ?_⟩
  rw [exec_of_hostRow (x := x) (by simp [hostRows])]
  simp only [State.hostCommand, State.hostKind_block hr hb, State.blockCommand, State.withhold]
  by_cases hq : s.reports.queue.length < 16 <;>
    simp [State.takeOpcode, State.raise, State.countWithheld, State.modCounters, State.modReports, State.modBridge,
      State.drive, Config.reportEntries, hq]

/-- The status bytes of a STATUS command: the first with bit 0 clear clears a busy record, and the rest find it clear (R13). -/
theorem State.watchStatus_foldl (bytes : List Byte) (s : State) :
    bytes.foldl (fun s byte => s.watchStatus byte) s =
      if s.bridge.busy = true ∧ ∃ b ∈ bytes, b.getLsbD 0 = false then
        { s with bridge := { s.bridge with busy := false, owner := .nobody, touched := .each [] } }
      else s := by
  induction bytes generalizing s with
  | nil => simp
  | cons b bs ih =>
    rw [List.foldl_cons, State.watchStatus_eq, ih]
    by_cases clears : s.bridge.busy = true ∧ b.getLsbD 0 = false
    · have some : s.bridge.busy = true ∧ ∃ c ∈ b :: bs, c.getLsbD 0 = false := ⟨clears.1, b, List.mem_cons_self, clears.2⟩
      rw [if_pos clears, if_neg (fun h => absurd h.1 nofun), if_pos some]
    · rw [if_neg clears]
      have same : (s.bridge.busy = true ∧ ∃ c ∈ bs, c.getLsbD 0 = false) ↔
          (s.bridge.busy = true ∧ ∃ c ∈ b :: bs, c.getLsbD 0 = false) := by
        simp only [List.mem_cons, exists_eq_or_imp]
        tauto
      simp only [same]

/-- Settles O8. -/
theorem otherCommandsAreForwardedAtOnceOrDiscarded : Obligations.OtherCommandsAreForwardedAtOnceOrDiscarded := by
  intro x s hr
  refine ⟨fun hc ha => ?_, fun hc ha => ?_, fun hc ha => ?_, fun hc ha => ?_⟩
  · rw [exec_of_hostRow (x := x) (by simp [hostRows])]
    simp only [State.hostCommand, State.hostKind_of_addressed hr hc ha]
    rfl
  · rw [exec_of_hostRow (x := x) (by simp [hostRows])]
    simp only [State.hostCommand, State.hostKind_of_addressed hr hc ha, State.writeEnableCommand]
    rw [State.settleClaim_of_pairing _ (by rfl)]
    rfl
  · rw [exec_of_hostRow (x := x) (by simp [hostRows])]
    simp only [State.hostCommand, State.hostKind_of_addressed hr hc ha, State.statusCommand, State.watchStatus_foldl]
    congr 2
    by_cases clears : s.bridge.busy = true ∧ ∃ b ∈ x.flash, b.getLsbD 0 = false
    · rw [if_pos clears, if_pos (show (s.takeOpcode.forwardRaw x).bridge.busy = true ∧ _ from clears)]
      rfl
    · rw [if_neg clears, if_neg (show ¬((s.takeOpcode.forwardRaw x).bridge.busy = true ∧ _) from clears)]
      rfl
  · rw [exec_of_hostRow (x := x) (by simp [hostRows])]
    have kind : s.hostKind x = .discard := by simp [State.hostKind, hr, hc, HostXfer.addressed, ha]
    simp only [State.hostCommand, kind]
    rfl

/-! ### The frame of a READ -/

theorem ReadRun.account_event (r : ReadRun) (b : ByteSite) :
    EventWork r.st (r.account b).st ∧ (r.account b).out = r.out := by
  unfold ReadRun.account
  split
  · split
    · refine ⟨?_, rfl⟩
      simp only [State.signalFill]
      split
      · exact .refl _
      · exact (State.raise_work _ _).event.trans (State.modWin_event _ _ _ rfl)
    · exact ⟨.refl _, rfl⟩
  · exact ⟨.refl _, rfl⟩

theorem ReadRun.byte_event (r : ReadRun) (x : Nat) (byte : Byte) : EventWork r.st (r.byte x byte).st :=
  (r.cut_work (r.st.siteOf x)).1.event.trans
    (ReadRun.account_event
      { r.cut (r.st.siteOf x) with
        last := some (r.st.siteOf x)
        offer := (r.cut (r.st.siteOf x)).grow (r.st.siteOf x) byte
        out := (r.cut (r.st.siteOf x)).out ++ [(r.cut (r.st.siteOf x)).st.delivered (r.st.siteOf x) byte] }
      (r.st.siteOf x)).1

/-- The bytes of a READ, with what falls into it, leave alone all but what time, a dip, a read-back's start and fill change (R4, R5). -/
theorem ReadRun.bytes_event (a flashBytes : Nat) (during : List (Nat × DuringRead)) (data : List Byte) :
    ∀ (k : Nat) (r : ReadRun), EventWork r.st (ReadRun.bytes a flashBytes during k data r).st := by
  induction data with
  | nil => exact fun k r => (r.between_event _ _).1
  | cons b bs ih => exact fun k r => ((r.between_event _ _).1.trans (ReadRun.byte_event _ _ _)).trans (ih _ _)

theorem ReadRun.finish_event (r : ReadRun) : EventWork r.st r.finish := by
  unfold ReadRun.finish
  split
  · exact r.close_work.1.event
  · exact r.close_work.1.event.trans (State.modCounters_work _ _).event

/-- The READ in progress at its end: all bytes taken, the last segment not yet offered (R4, R5). -/
def State.readRun (s : State) (x : HostXfer) : ReadRun :=
  ReadRun.bytes (x.addr (s.classOf x.opcode) s.flashBytes) s.flashBytes x.during 0 (x.readBytes (s.classOf x.opcode))
    { st := s.takeOpcode, last := none, offer := none, out := [], filled := [] }

theorem State.readCommand_eq (s : State) (x : HostXfer) :
    s.readCommand x =
      ((s.readRun x).finish.drive (s.readRun x).out
        (s.flashReads x (s.classOf x.opcode) (x.addr (s.classOf x.opcode) s.flashBytes)
          (x.readBytes (s.classOf x.opcode)).length)).settleClaim := rfl

theorem State.readRun_event (s : State) (x : HostXfer) : EventWork s.takeOpcode (s.readRun x).finish :=
  (ReadRun.bytes_event _ _ _ _ 0 { st := s.takeOpcode, last := none, offer := none, out := [], filled := [] }).trans
    (ReadRun.finish_event _)

/-- Of the bridge a READ changes the pairing flag and the claim count (R5, R17). -/
theorem State.readCommand_bridge (s : State) (x : HostXfer) :
    (s.readCommand x).bridge = { s.bridge with pairing := false, claim := (s.readCommand x).bridge.claim } := by
  have run := (s.readRun_event x).bridge
  conv_lhs => rw [State.readCommand_eq, State.settleClaim_eq]
  conv_lhs => simp only [State.drive_bridge]
  rw [run]
  rfl

/-! ### The pairing flag -/

theorem State.settleClaim_pairing (s : State) : s.settleClaim.bridge.pairing = s.bridge.pairing := by
  rw [s.settleClaim_eq]

/-- A collected PROGRAM or erase, withheld or issued, leaves the pairing flag as it finds it (R17). -/
theorem State.releaseSelect_pairing (s : State) (c : Collected) (addrLen : Nat) :
    (s.releaseSelect c addrLen).bridge.pairing = s.bridge.pairing := by
  unfold State.releaseSelect
  split <;> (rw [State.settleClaim_pairing])
  · rw [State.drive_bridge, (s.withhold_work _ _ _ _).bridge]
  · rfl

theorem State.statusCommand_pairing (s : State) (x : HostXfer) : (s.statusCommand x).bridge.pairing = false := by
  rw [State.statusCommand, State.settleClaim_pairing, State.watchStatus_foldl]
  split <;> rfl

/-- The flag is set behind a forwarded WRITE_ENABLE, and clear behind every other command whose opcode was taken (R17). -/
theorem State.hostCommand_pairing (s : State) (x : HostXfer) (h : s.readyHigh = true) :
    (s.hostCommand x).bridge.pairing = true ↔ s.hostKind x = .cls .writeEnable := by
  have clear : ∀ {t : State} {k : HostKind}, s.hostKind x = k → k ≠ .cls .writeEnable → t.bridge.pairing = false →
      (t.bridge.pairing = true ↔ s.hostKind x = .cls .writeEnable) := by
    intro t k hk hne ht
    simp [ht, hk, hne]
  unfold State.hostCommand
  split <;> rename_i hk
  · exact absurd hk (by unfold State.hostKind; simp only [h, Bool.true_eq_false, if_false]; split <;> [simp; split <;> simp])
  · exact clear hk nofun (State.settleClaim_pairing _)
  · exact clear hk nofun (by rw [State.readCommand_bridge])
  · exact clear hk nofun (State.releaseSelect_pairing _ _ _)
  · exact clear hk nofun (State.releaseSelect_pairing _ _ _)
  · exact clear hk nofun (State.releaseSelect_pairing _ _ _)
  · exact clear hk nofun (State.releaseSelect_pairing _ _ _)
  · exact clear hk nofun (State.releaseSelect_pairing _ _ _)
  · exact clear hk nofun (s.statusCommand_pairing x)
  · exact ⟨fun _ => hk, fun _ => State.settleClaim_pairing _⟩
  · exact clear hk nofun (State.settleClaim_pairing _)
  · refine clear hk nofun ?_
    rw [State.blockCommand, State.settleClaim_pairing, State.drive_bridge, (State.withhold_work _ _ _ _ _).bridge]
    rfl

theorem State.anyReady_of_pairing (s : State) (h : s.bridge.pairing = true) : s.anyReady = false := by
  by_contra hn
  have quiet := (s.quietPort_iff).1 (s.quietPort_of_anyReady (by simpa using hn))
  exact absurd (h.symm.trans quiet.2.1) nofun

/-- Settles O9. -/
theorem writeEnablePairingFlagFollowsTheHost : Obligations.WriteEnablePairingFlagFollowsTheHost := by
  refine ⟨fun x s i hi h => ⟨_, exec_of_hostRow hi s, s.hostCommand_pairing x h⟩, fun cause pins band q => ?_,
    fun s h => ⟨s.anyReady_of_pairing h, fun kind waiting => ?_⟩, fun _ _ _ => rfl⟩
  · rw [(State.resetWith_event cause pins band q).bridge]
    rfl
  · have none := s.anyReady_of_pairing h
    simp only [State.anyReady, Option.isSome_eq_false_iff, Option.isNone_iff_eq_none] at none
    simp [State.grants, none]

/-! ### Collected commands -/

/-- A command that no withhold test stops is issued as one transaction; no test looks at the pairing flag (R6, R7). -/
theorem State.issued {s : State} {c : Collected} (h : s.withholdReason c = none) (addrLen : Nat) :
    s.takeOpcode.releaseSelect c addrLen =
      ({ s with
        bridge := { s.bridge with pairing := false, collected := some c }
        ports := { toHost := [], toFlash := [c.txn addrLen] } } : State).settleClaim := by
  have reason : s.takeOpcode.withholdReason c = none := h
  simp only [State.releaseSelect, reason]
  rfl

/-- A command that a withhold test stops raises and counts WITHHELD, and nothing of it reaches the flash (R8). -/
theorem State.withheld {s : State} {c : Collected} {reason : Reason} (h : s.withholdReason c = some reason) (addrLen : Nat) :
    s.takeOpcode.releaseSelect c addrLen =
      ({ (s.raise (.withheld c.cls reason c.opcode c.addr)).countWithheld with
        bridge := { s.bridge with pairing := false }, ports := { toHost := [], toFlash := [] } } : State).settleClaim := by
  have stopped : s.takeOpcode.withholdReason c = some reason := h
  simp only [State.releaseSelect, stopped]
  rfl

/-- Settles O10. -/
theorem programIsWithheldOrIssued : Obligations.ProgramIsWithheldOrIssued := by
  rintro x s c hk rfl
  rw [exec_of_hostRow (x := x) (by simp [hostRows])]
  simp only [State.hostCommand, hk]
  exact ⟨fun h => congrArg _ (State.issued h _), fun reason h => congrArg _ (State.withheld h _)⟩

/-- Settles O11. -/
theorem eraseIsWithheldOrIssued : Obligations.EraseIsWithheldOrIssued := by
  rintro x s cls row c hrow hk rfl
  have command : exec row s = .next (s.eraseCommand cls x) := by
    simp only [List.mem_cons, List.not_mem_nil, or_false, Prod.mk.injEq] at hrow
    rw [exec_of_hostRow (x := x) (by rcases hrow with ⟨_, rfl⟩ | ⟨_, rfl⟩ | ⟨_, rfl⟩ | ⟨_, rfl⟩ <;> simp [hostRows])]
    rcases hrow with ⟨rfl, _⟩ | ⟨rfl, _⟩ | ⟨rfl, _⟩ | ⟨rfl, _⟩ <;> simp only [State.hostCommand, hk]
  rw [command]
  refine ⟨fun h => ?_, fun reason h => congrArg _ (State.withheld h _)⟩
  have issued := State.issued h (s.classOf x.opcode).addrLen
  simp only [Collected.txn, List.append_nil] at issued
  exact congrArg _ issued

/-! ### The withhold tests -/

theorem State.viewPresent_iff (s : State) : s.viewPresent = true ↔ ∃ v, (s.view v).isSome = true := by
  simp [State.viewPresent, List.any_eq_true]

/-- The ranges meet [lo, hi) exactly if one address lies in both. -/
theorem rangesMeet_iff_inRanges (ranges : List (Nat × Nat)) (lo hi : Nat) :
    rangesMeet ranges lo hi = true ↔ ∃ p, lo ≤ p ∧ p < hi ∧ inRanges ranges p := by
  rw [rangesMeet_iff]
  constructor
  · rintro ⟨r, hr, p, h1, h2, h3, h4⟩
    exact ⟨p, h3, h4, r, hr, h1, h2⟩
  · rintro ⟨p, h3, h4, r, hr, h1, h2⟩
    exact ⟨r, hr, p, h1, h2, h3, h4⟩

/-- Each test of the model is the one of R7's table, said of single addresses. -/
theorem State.meetsSelectedBank_iff (s : State) (ranges : List (Nat × Nat)) :
    s.meetsSelectedBank ranges = true ↔
      ∃ v view g p, s.view v = some view ∧ (s.win view.current).body.geom? = some g ∧ g.covers p = true ∧
        inRanges ranges p := by
  simp only [State.meetsSelectedBank, List.any_eq_true, mem_allViews, true_and]
  refine exists_congr fun v => ?_
  constructor
  · intro h
    split at h
    · next view hv =>
      split at h
      · next g hg =>
        obtain ⟨p, low, high, hp⟩ := (rangesMeet_iff_inRanges _ _ _).1 h
        exact ⟨view, g, p, hv, hg, (g.covers_iff p).2 ⟨low, high⟩, hp⟩
      · cases h
    · cases h
  · rintro ⟨view, g, p, hv, hg, hc, hp⟩
    simp only [hv, hg]
    obtain ⟨low, high⟩ := (g.covers_iff p).1 hc
    exact (rangesMeet_iff_inRanges _ _ _).2 ⟨p, low, high, hp⟩

theorem State.meetsView_iff (s : State) (ranges : List (Nat × Nat)) :
    s.meetsView ranges = true ↔
      ∃ v view p, s.view v = some view ∧ s.viewCovers view p = true ∧ inRanges ranges p := by
  simp only [State.meetsView, List.any_eq_true, mem_allViews, true_and]
  refine exists_congr fun v => ?_
  constructor
  · intro h
    split at h
    · next view hv =>
      obtain ⟨p, low, high, hp⟩ := (rangesMeet_iff_inRanges _ _ _).1 h
      exact ⟨view, p, hv, by simp [State.viewCovers, low, high], hp⟩
    · cases h
  · rintro ⟨view, p, hv, hc, hp⟩
    simp only [hv]
    simp only [State.viewCovers, Bool.and_eq_true, decide_eq_true_eq] at hc
    exact (rangesMeet_iff_inRanges _ _ _).2 ⟨p, hc.1, hc.2, hp⟩

/-- The five tests of R7, in the order of its table, in the words of the statements. -/
theorem State.withholdReason_eq (s : State) (c : Collected) [∀ r, Decidable (s.withholdTest c r)] :
    s.withholdReason c =
      if s.withholdTest c .eraseAll then some .eraseAll
      else if s.withholdTest c .oversize then some .oversize
      else if s.withholdTest c .activeBank then some .activeBank
      else if s.withholdTest c .viewRange then some .viewRange
      else if s.withholdTest c .reportArea then some .reportArea
      else none := by
  have eraseAll : (c.cls = .eraseAll ∧ s.viewPresent = true) ↔ s.withholdTest c .eraseAll := by
    simp only [State.withholdTest, State.viewPresent_iff]
  have oversize : (c.cls = .program ∧ Config.maxProgram < c.len) ↔ s.withholdTest c .oversize := Iff.rfl
  have activeBank : s.meetsSelectedBank (c.touched s.flashBytes) = true ↔ s.withholdTest c .activeBank :=
    s.meetsSelectedBank_iff _
  have viewRange : s.meetsView (c.touched s.flashBytes) = true ↔ s.withholdTest c .viewRange := s.meetsView_iff _
  have reportArea : (c.cls = .program ∧
      rangesMeet (c.touched s.flashBytes) (reportBase s.straps) (reportEnd s.straps) = true) ↔
        s.withholdTest c .reportArea := by
    simp only [State.withholdTest, rangesMeet_iff_inRanges]
  simp only [State.withholdReason, eraseAll, oversize, activeBank, viewRange, reportArea]

/-- Settles O12. -/
theorem firstWithholdTestGivesTheReason : Obligations.FirstWithholdTestGivesTheReason := by
  intro s c
  classical
  rw [State.withholdReason_eq]
  refine ⟨fun h => ?_, fun h1 h => ?_, fun h1 h2 h => ?_, fun h1 h2 h3 h => ?_, fun h1 h2 h3 h4 h => ?_, fun h => ?_⟩ <;>
    simp [*]

end Sys2Proof.Machine
end

section
/-! Polls, internal programs, start-up reads and the class table's records (O33 to O35, O37 to O39, O47), and what every reset
leaves. -/

namespace Sys2Proof.Machine

/-! ### What a reset leaves -/

/-- A reset clears every block; with the band below HIGH the part then enters DIP, with no chunk to mark (R148, R149, R166). -/
theorem State.resetWith_eq (cause : ResetCause) (pins : Straps) (band : Band) (q : List Instr) :
    State.resetWith cause pins band q =
      if band = .high then State.cleared cause pins band q
      else
        { State.cleared cause pins band q with
          supply := { state := .dip, band := band, settle := none, latch := false, away := some { leftAt := 0, entries := 1 } }
          reports :=
            { (State.cleared cause pins band q).reports with queue := [.supply false .internal 1 0 0 0 0] } } := by
  cases band <;> rfl

theorem State.resetWith_afterReset (cause : ResetCause) (pins : Straps) (band : Band) (q : List Instr) :
    AfterReset cause pins band (State.resetWith cause pins band q) := by
  have win : ∀ w, (State.cleared cause pins band q).win w = Window.atReset := fun w => by
    simp [State.cleared, State.win, Vector.get_eq_getElem]
  have view : ∀ v, (State.cleared cause pins band q).view v = none := State.cleared_view cause pins band q
  have stream : ∀ k, (State.cleared cause pins band q).stream k = none := fun k => by
    simp [State.cleared, State.stream, Vector.get_eq_getElem]
  have classes : ∀ op, (State.cleared cause pins band q).classOf op = ClassEntry.atReset op.toNat := fun op => by
    simp [State.cleared, State.classOf, Vector.get_eq_getElem]
  rw [State.resetWith_eq]
  by_cases hb : band = .high
  · rw [if_pos hb]
    exact ⟨rfl, rfl, rfl, rfl, rfl, rfl, classes, rfl, rfl, rfl, rfl, rfl, rfl, rfl, win, view, stream, rfl, rfl, rfl, rfl, rfl,
      rfl, rfl, rfl, rfl, rfl, rfl, rfl, rfl, fun _ => ⟨rfl, rfl, rfl, rfl⟩, fun hn => absurd hb hn⟩
  · rw [if_neg hb]
    exact ⟨rfl, rfl, rfl, rfl, rfl, rfl, classes, rfl, rfl, rfl, rfl, rfl, rfl, rfl, win, view, stream, rfl, rfl, rfl, rfl, rfl,
      rfl, rfl, rfl, rfl, rfl, rfl, rfl, rfl, fun h => absurd h hb, fun _ => ⟨rfl, rfl, rfl, rfl⟩⟩

/-- The reset of a RESTART takes the straps and the band as last known, and leaves the queue of waiting steps (R165). -/
theorem State.restart_afterReset {s t : State} (hp : t.strapPins = s.strapPins) (hb : t.supply = s.supply)
    (hq : t.pending = s.pending) :
    AfterReset .restart s.strapPins s.supply.band t.restart ∧ t.restart.pending = s.pending := by
  rw [← hp, ← hb, ← hq]
  exact ⟨State.resetWith_afterReset _ _ _ _, (State.resetWith_event _ _ _ _).pending⟩

theorem State.settleClaim_strapPins (s : State) : s.settleClaim.strapPins = s.strapPins := by rw [s.settleClaim_eq]

theorem State.settleClaim_supply (s : State) : s.settleClaim.supply = s.supply := by rw [s.settleClaim_eq]

theorem State.settleClaim_pending (s : State) : s.settleClaim.pending = s.pending := by rw [s.settleClaim_eq]

/-- Settling the claim count stands between a RESTART's mark and its reset, and changes nothing the reset reads (R165). -/
theorem State.settled_restart_afterReset {s t : State} (hp : t.strapPins = s.strapPins) (hb : t.supply = s.supply)
    (hq : t.pending = s.pending) :
    AfterReset .restart s.strapPins s.supply.band t.settleClaim.restart ∧ t.settleClaim.restart.pending = s.pending :=
  State.restart_afterReset (t.settleClaim_strapPins.trans hp) (t.settleClaim_supply.trans hb) (t.settleClaim_pending.trans hq)

/-! ### Polls -/

/-- Settles O33. -/
theorem statusPollClearsTheBusyRecord : Obligations.StatusPollClearsTheBusyRecord := by
  intro s waiting byte
  refine ⟨fun hp hb ha hw => ?_, fun h => ?_⟩
  · have due : s.polls waiting = true := (s.polls_iff waiting).2 ⟨hp, hb, ha, hw⟩
    simp only [exec, execStatusPoll, due, if_true, State.watchStatus_eq]
    by_cases h0 : byte.getLsbD 0 = false
    · rw [if_pos (show (s.issue [statusTxn]).bridge.busy = true ∧ _ from ⟨hb, h0⟩), if_pos h0]
      rfl
    · rw [if_neg (fun h => h0 h.2), if_neg h0]
      rfl
  · have idle : s.polls waiting = false := by
      rw [← Bool.not_eq_true, s.polls_iff waiting]
      rintro ⟨hp, hb, ha, hw⟩
      rcases h with h | h | h | ⟨h1, h2⟩
      · exact absurd (h.symm.trans hp) nofun
      · exact absurd (h.symm.trans hb) nofun
      · exact absurd (h.symm.trans ha) nofun
      · exact hw.elim h1 fun hn => absurd (h2.symm.trans hn) nofun
    simp only [exec, execStatusPoll, idle, Bool.false_eq_true, if_false]

/-! ### Readiness of the internal programs -/

theorem State.markReady_iff (s : State) :
    s.markReady = true ↔
      s.reports.marks ≠ [] ∧ (s.bridge.busy = false ∧ s.bridge.pairing = false ∧ s.part ≠ .held) ∧
        s.supply.state = .normal ∧ s.reports.journal ≠ .failed := by
  simp [State.markReady, State.programsAllowed, State.quietPort, and_assoc]

theorem State.reportReady_iff (s : State) :
    s.reportReady = true ↔
      s.reports.queue ≠ [] ∧ (s.bridge.busy = false ∧ s.bridge.pairing = false ∧ s.part ≠ .held) ∧
        s.supply.state = .normal ∧ s.reports.journal = .ready := by
  simp only [State.reportReady, State.programsAllowed, Bool.and_eq_true, Bool.not_eq_true', List.isEmpty_eq_false_iff,
    State.quietPort_iff, decide_eq_true_eq]
  constructor
  · rintro ⟨⟨hq, ⟨quiet, normal⟩, _⟩, ready⟩
    exact ⟨hq, quiet, normal, ready⟩
  · rintro ⟨hq, quiet, normal, ready⟩
    exact ⟨⟨hq, ⟨quiet, normal⟩, by rw [ready]; nofun⟩, ready⟩

theorem State.startupReady_iff (s : State) :
    s.startupReady = true ↔
      (s.reports.journal = .scanning ∨ s.reports.journal = .rescan ∨ s.part = .starting) ∧
        s.bridge.busy = false ∧ s.bridge.pairing = false ∧ s.part ≠ .held := by
  have requested : s.readRequested.isSome = true ↔
      (s.reports.journal = .scanning ∨ s.reports.journal = .rescan ∨ s.part = .starting) := by
    unfold State.readRequested
    split
    · next h => exact ⟨fun _ => h.imp id Or.inl, fun _ => rfl⟩
    · next h =>
      rw [not_or] at h
      split <;> simp_all
  simp only [State.startupReady, Bool.and_eq_true, requested, State.quietPort_iff]

theorem State.firstReady_mark_iff (s : State) : s.firstReady = some .mark ↔ s.markReady = true := by
  unfold State.firstReady
  cases s.markReady <;> cases s.reportReady <;> cases s.startupReady <;> cases s.burstReady <;> simp

theorem State.firstReady_report_iff (s : State) :
    s.firstReady = some .report ↔ s.markReady = false ∧ s.reportReady = true := by
  unfold State.firstReady
  cases s.markReady <;> cases s.reportReady <;> cases s.startupReady <;> cases s.burstReady <;> simp

/-- Settles O34. -/
theorem markProgramStartsUnderItsConditions : Obligations.MarkProgramStartsUnderItsConditions := by
  intro s waiting
  refine ⟨fun h => by simp only [exec, execMarkProgram, h], fun m rest hm => ?_⟩
  have granted : s.grants .mark waiting = true ↔
      s.portFree = true ∧ (s.bridge.busy = false ∧ s.bridge.pairing = false ∧ s.part ≠ .held) ∧
        s.supply.state = .normal ∧ s.reports.journal ≠ .failed ∧ s.turnIsInternal waiting := by
    rw [State.grants_iff, State.firstReady_mark_iff, State.markReady_iff, hm]
    simp only [ne_eq, reduceCtorEq, not_false_eq_true, true_and, and_assoc]
  refine ⟨fun hp hb hf hh hs hj ht => ?_, fun h => ?_⟩
  · have go := granted.2 ⟨hp, ⟨hb, hf, hh⟩, hs, hj, ht⟩
    simp only [exec, execMarkProgram, hm, go, if_true]
    simp only [State.startMark, State.startOp, State.programTxns, programTxn, smallFlash, decide_eq_true_eq]
    rfl
  · have stop : ¬s.grants .mark waiting = true := by
      rw [granted]
      rintro ⟨hp, ⟨hb, hf, hh⟩, hs, hj, ht⟩
      simp [hp, hb, hf, hh, hs, hj, ht] at h
    simp only [exec, execMarkProgram, hm, stop]
    rfl

/-- Settles O35. -/
theorem reportProgramWritesTheSlotAtTheIndex : Obligations.ReportProgramWritesTheSlotAtTheIndex := by
  intro s waiting
  refine ⟨fun h => by simp only [exec, execReportProgram, h], fun r rest hq => ?_⟩
  have granted : s.grants .report waiting = true ↔
      s.portFree = true ∧ s.reports.marks = [] ∧ (s.bridge.busy = false ∧ s.bridge.pairing = false ∧ s.part ≠ .held) ∧
        s.supply.state = .normal ∧ s.reports.journal = .ready ∧ s.turnIsInternal waiting := by
    rw [State.grants_iff, State.firstReady_report_iff, State.reportReady_iff, ← Bool.not_eq_true, State.markReady_iff, hq]
    constructor
    · rintro ⟨hp, ⟨hm, _, quiet, normal, ready⟩, turn⟩
      refine ⟨hp, ?_, quiet, normal, ready, turn⟩
      by_contra hne
      exact hm ⟨hne, quiet, normal, by rw [ready]; nofun⟩
    · rintro ⟨hp, hm, quiet, normal, ready, turn⟩
      exact ⟨hp, ⟨fun h => h.1 hm, nofun, quiet, normal, ready⟩, turn⟩
  refine ⟨fun hm hp hb hf hh hs hj ht => ?_, fun h => ?_⟩
  · have go := granted.2 ⟨hp, hm, ⟨hb, hf, hh⟩, hs, hj, ht⟩
    have start : exec (.reportProgram waiting) s = .next (s.startReport r) := by
      simp only [exec, execReportProgram, hq, go, if_true]
    rw [start]
    rfl
  · have stop : ¬s.grants .report waiting = true := by
      rw [granted]
      rintro ⟨hp, hm, ⟨hb, hf, hh⟩, hs, hj, ht⟩
      simp [hp, hm, hb, hf, hh, hs, hj, ht] at h
    simp only [exec, execReportProgram, hq, stop]
    rfl

/-! ### Internal programs in flight -/

/-- Settles O37. -/
theorem internalProgramCompletesAtAClearPoll : Obligations.InternalProgramCompletesAtAClearPoll := by
  refine ⟨fun s => ⟨fun kind timer h => ?_, fun h => ?_, fun h byte => ?_⟩, fun s kind timer byte hb h => ?_⟩
  · simp only [exec, execInternalProgramTransactionEnd, h, State.endProgramTransaction]
    rw [State.settleClaim_of_busy _ rfl]
    rfl
  · simp only [exec, execInternalProgramTransactionEnd]
    split
    · next hp => exact absurd hp (h _ _)
    all_goals rfl
  · simp only [exec, execInternalProgramPoll]
    split
    · next hp => exact absurd hp (h _ _)
    all_goals rfl
  · have poll : exec (.internalProgramPoll byte) s = .next (s.pollProgram kind byte) := by
      simp only [exec, execInternalProgramPoll, h]
    have watched : (s.issue [statusTxn]).watchStatus byte =
        if byte.getLsbD 0 = false then
          { s with
            bridge := { s.bridge with busy := false, owner := .nobody, touched := .each [] }
            ports := { s.ports with toFlash := [⟨0x05, [], 1⟩] } }
        else { s with ports := { s.ports with toFlash := [⟨0x05, [], 1⟩] } } := by
      rw [State.watchStatus_eq]
      simp only [State.issue_bridge, hb, true_and]
      rfl
    rw [poll, State.pollProgram]
    simp only [watched]
    refine ⟨fun h1 => ?_, fun h0 hk => ?_, fun h0 hk m rest hm => ⟨fun hr => ?_, fun hr => ?_⟩⟩
    · simp only [h1, if_true, Bool.true_eq_false, if_false]
      exact congrArg _ (State.settleClaim_of_busy _ hb)
    · subst hk
      simp only [h0, Bool.false_eq_true, if_false, if_true]
      rfl
    · subst hk
      simp only [h0, Bool.false_eq_true, if_false, if_true, State.completeProgram, State.markWritten, State.endOp,
        State.modBridge_reports, hm, hr, State.restartIf]
      simp only [State.modReports, State.modBridge_reports, hm, List.drop_succ_cons, List.drop_zero]
      rfl
    · subst hk
      simp only [h0, Bool.false_eq_true, if_false, if_true, State.completeProgram, State.markWritten, State.endOp,
        State.modBridge_reports, hm, hr, State.restartIf]
      exact ⟨_, rfl, State.settled_restart_afterReset rfl rfl rfl⟩

/-- Settles O38. -/
theorem twentiethTickFailsTheInternalProgram : Obligations.TwentiethTickFailsTheInternalProgram := by
  refine ⟨fun s h => ?_, fun s kind phase timer h => ⟨fun ht => ?_, fun ht hm => ?_, fun ht hm => ?_⟩⟩
  · simp only [exec, execInternalProgramTimeout]
    split
    · next hp => exact absurd hp (h _ _ _)
    all_goals rfl
  · have early : ¬Config.programTicks ≤ timer + 1 := by simp only [Config.programTicks]; omega
    simp only [exec, execInternalProgramTimeout, h, early, if_false]
  all_goals
    have last : Config.programTicks ≤ timer + 1 := by simp only [Config.programTicks]; omega
    simp only [exec, execInternalProgramTimeout, h, last, if_true]
  · have none : s.restartWaits = false := by simpa [State.restartWaits] using hm
    simp only [State.timeOut, none, State.restartIf, Bool.false_eq_true, if_false]
    rfl
  · have some : s.restartWaits = true := by simpa [State.restartWaits] using hm
    simp only [State.timeOut, some, State.restartIf, if_true]
    exact ⟨_, rfl, State.settled_restart_afterReset rfl rfl rfl⟩

/-! ### Start-up reads -/

/-- Settles O39. -/
theorem startupReadAsksForTheNextBytes : Obligations.StartupReadAsksForTheNextBytes := by
  intro s waiting
  have granted : s.grants .startupRead waiting = true ↔
      s.markReady = false ∧ s.reportReady = false ∧
        (s.reports.journal = .scanning ∨ s.reports.journal = .rescan ∨ s.part = .starting) ∧ s.portFree = true ∧
        s.bridge.busy = false ∧ s.bridge.pairing = false ∧ s.part ≠ .held ∧ s.turnIsInternal waiting := by
    rw [State.grants_iff, State.firstReady_startupRead_iff, State.startupReady_iff]
    tauto
  refine ⟨fun hm hr hp hb hf hh ht => ⟨fun scan => ?_, fun n1 n2 starting => ?_, fun n1 n2 n3 => ?_⟩, fun h => ?_⟩
  · have go := granted.2 ⟨hm, hr, scan.imp id .inl, hp, hb, hf, hh, ht⟩
    have requested : s.readRequested = some .scan := by simp only [State.readRequested, scan, if_true]
    simp only [exec, execStartupRead, requested, go, if_true]
    rfl
  · have go := granted.2 ⟨hm, hr, .inr (.inr starting), hp, hb, hf, hh, ht⟩
    have requested : s.readRequested = some .replay := by simp [State.readRequested, n1, n2, starting]
    simp only [exec, execStartupRead, requested, go, if_true]
    rfl
  · have requested : s.readRequested = none := by simp [State.readRequested, n1, n2, n3]
    simp only [exec, execStartupRead, requested]
  · have stop : s.grants .startupRead waiting = false := by
      rw [← Bool.not_eq_true, granted]
      rintro ⟨hm, hr, _, hp, hb, hf, hh, ht⟩
      simp [hm, hr, hp, hb, hf, hh, ht] at h
    simp only [exec, execStartupRead, stop, Bool.false_eq_true, if_false]
    split <;> rfl

/-! ### The class table's records -/

/-- The checks of R3 pass exactly for a length and a dummy count of the class's kind. -/
theorem opclassRefused_eq_false_iff (cls : CmdClass) (addrLen dummies : Nat) :
    opclassRefused cls addrLen dummies = false ↔
      ((cls ∈ [CmdClass.read, .program, .erase4K, .erase32K, .erase64K] ∧ addrLen ∈ [3, 4]) ∨
          (cls ∈ [CmdClass.status, .writeEnable, .pass, .block] ∧ addrLen = 0)) ∧
        dummies ≤ 15 ∧ (cls ≠ .read → dummies = 0) := by
  cases cls <;> simp [opclassRefused] <;> omega

/-- Settles O47. -/
theorem opclassReplacesOneEntry : Obligations.OpclassReplacesOneEntry := by
  have dispatched : ∀ (s : State) (mode : Mode) (addr : Nat) (bytes : List Byte), recordWords bytes = 3 →
      s.ruleRecord .opclass mode addr bytes = s.takeOpclass bytes := by
    intro s mode addr bytes h
    simp only [State.ruleRecord, RecKind.words, h, if_true, State.dispatch]
  refine ⟨fun s mode addr bytes cls hw hl hc => ?_, fun s mode addr bytes hw hc => ?_⟩
  · rw [dispatched s mode addr bytes hw]
    simp only [State.takeOpclass, hc]
    refine ⟨fun lenOk dummiesOk => ?_, fun h => ?_⟩
    · have pass := (opclassRefused_eq_false_iff cls (field bytes 10 1) (field bytes 11 1)).2 ⟨lenOk, dummiesOk⟩
      have opcode : bytes[8]? = some (bytes.getD 8 0) := by
        simp [List.getD_eq_getElem?_getD, List.getElem?_eq_getElem (show 8 < bytes.length by omega)]
      simp only [pass, Bool.false_eq_true, if_false]
      refine ⟨_, rfl, fun op => ?_, rfl⟩
      rw [State.classOf_setClass, opcode]
      simp only [Option.some.injEq, eq_comm]
    · rw [← opclassRefused_eq_false_iff, Bool.not_eq_false] at h
      simp only [h, if_true]
  · rw [dispatched s mode addr bytes hw]
    have unnamed : CmdClass.ofCode (field bytes 9 1) = none := by
      unfold CmdClass.ofCode
      split <;> first | omega | rfl
    simp only [State.takeOpclass, unnamed]

end Sys2Proof.Machine
end

section
/-! What comes behind an event on chunks (quiet timer, refill, claim count), which reports and flags the operations on chunks leave, and
a forwarded PROGRAM as a whole (O16, O30). -/

namespace Sys2Proof.Machine

/-! ### What comes behind an event on chunks -/

/-- A quiet timer restarted, the check queue was refilled, the claim count settled: what comes behind an event on chunks, and touches
nothing the event's reports and chunk records say. -/
structure Behind (s t : State) : Prop where
  pending : t.pending = s.pending
  part : t.part = s.part
  cause : t.cause = s.cause
  strapPins : t.strapPins = s.strapPins
  straps : t.straps = s.straps
  views : t.views = s.views
  supply : t.supply = s.supply
  parser : t.parser = s.parser
  ports : t.ports = s.ports
  engine : t.engine = s.engine
  reports : t.reports = s.reports
  bridge : t.bridge = { s.bridge with claim := t.bridge.claim }
  scheduler : t.scheduler = { s.scheduler with queue := t.scheduler.queue }
  outline : ∀ w, (t.win w).body.outline = (s.win w).body.outline
  known : ∀ w i, sameChunk s t w i
  flags : ∀ w, t.win w =
    { s.win w with
      body := (t.win w).body, checkWanted := (t.win w).checkWanted, cursor := (t.win w).cursor, quiet := (t.win w).quiet }

theorem Behind.refl (s : State) : Behind s s :=
  ⟨rfl, rfl, rfl, rfl, rfl, rfl, rfl, rfl, rfl, rfl, rfl, rfl, rfl, fun _ => rfl, fun _ _ => rfl, fun _ => rfl⟩

theorem Behind.trans {s t u : State} (h : Behind s t) (k : Behind t u) : Behind s u where
  pending := k.pending.trans h.pending
  part := k.part.trans h.part
  cause := k.cause.trans h.cause
  strapPins := k.strapPins.trans h.strapPins
  straps := k.straps.trans h.straps
  views := k.views.trans h.views
  supply := k.supply.trans h.supply
  parser := k.parser.trans h.parser
  ports := k.ports.trans h.ports
  engine := k.engine.trans h.engine
  reports := k.reports.trans h.reports
  bridge := by rw [k.bridge, h.bridge]
  scheduler := by rw [k.scheduler, h.scheduler]
  outline w := (k.outline w).trans (h.outline w)
  known w i := (k.known w i).trans (h.known w i)
  flags w := by rw [k.flags w, h.flags w]

theorem Behind.foldl {α : Type} (f : State → α → State) (hf : ∀ s a, Behind s (f s a)) (l : List α) (s : State) :
    Behind s (l.foldl f s) := by
  induction l generalizing s with
  | nil => exact .refl s
  | cons a l ih => exact (hf s a).trans (ih _)

theorem QueueWork.behind {s t : State} (h : QueueWork s t) : Behind s t where
  pending := h.chunks.pending
  part := h.chunks.part
  cause := h.chunks.cause
  strapPins := h.chunks.strapPins
  straps := h.chunks.straps
  views := h.chunks.views
  supply := h.chunks.supply
  parser := h.chunks.parser
  ports := h.chunks.ports
  engine := h.engine
  reports := h.reports
  bridge := by rw [h.chunks.bridge]
  scheduler := h.chunks.scheduler
  outline := h.chunks.outline
  known := h.known
  flags w := by rw [h.flags w]

theorem State.settleClaim_behind (s : State) : Behind s s.settleClaim := by
  unfold State.settleClaim
  split
  · exact .refl s
  · exact ⟨rfl, rfl, rfl, rfl, rfl, rfl, rfl, rfl, rfl, rfl, rfl, rfl, rfl, fun _ => rfl, fun _ _ => rfl, fun _ => rfl⟩

/-- A write of a window's quiet timer alone. -/
theorem State.modQuiet_behind (s : State) (w : Fin 32) (f : Window → Option Nat) :
    Behind s (s.modWin w fun v => { v with quiet := f v }) := by
  have win : ∀ u, (s.modWin w fun v => { v with quiet := f v }).win u =
      if w = u then { s.win u with quiet := f (s.win u) } else s.win u := by
    intro u
    rw [State.win_modWin]
    split
    · next e => rw [e]
    · rfl
  refine ⟨rfl, rfl, rfl, rfl, rfl, rfl, rfl, rfl, rfl, rfl, rfl, rfl, rfl, fun u => ?_, fun u i => ?_, fun u => ?_⟩
  · rw [win]; split <;> rfl
  · exact congrArg _ (State.chunk?_modWin_body s w _ rfl u i)
  · rw [win]; split <;> rfl

theorem State.restartQuiet_behind (s : State) (w : Fin 32) : Behind s (s.restartQuiet w) := by
  unfold State.restartQuiet
  split
  · exact s.modQuiet_behind w fun v => v.body.quietStart
  · exact .refl s

theorem Behind.stream {s t : State} (h : Behind s t) (k : Fin 3) : t.stream k = s.stream k := by
  simp only [State.stream, h.engine]

theorem Behind.goodCount {s t : State} (h : Behind s t) (w : Fin 32) : (t.win w).goodCount = (s.win w).goodCount := by
  rw [h.flags w]

theorem Behind.dipTouched {s t : State} (h : Behind s t) (w : Fin 32) : (t.win w).dipTouched = (s.win w).dipTouched := by
  rw [h.flags w]

theorem Behind.fillReported {s t : State} (h : Behind s t) (w : Fin 32) : (t.win w).fillReported = (s.win w).fillReported := by
  rw [h.flags w]

theorem Behind.checkReportWanted {s t : State} (h : Behind s t) (w : Fin 32) :
    (t.win w).checkReportWanted = (s.win w).checkReportWanted := by
  rw [h.flags w]

/-- A chunk record as the statements say it: what it says apart from its queued field. -/
theorem Behind.knows {s t : State} (h : Behind s t) {w : Fin 32} {i : Nat} {k : ChunkState × Option Digest × Option Digest × Option Link}
    (hk : ∃ d, s.chunk? w i = some d ∧ d.known = k) : ∃ d, t.chunk? w i = some d ∧ d.known = k := by
  obtain ⟨d, hd, rfl⟩ := hk
  have same := h.known w i
  unfold sameChunk at same
  rw [hd] at same
  obtain ⟨e, he, hek⟩ := Option.map_eq_some_iff.1 same
  exact ⟨e, he, hek⟩

/-- A LOADED window of the same outline holds the same catalogue but for its chunk records, and these agree apart from their queued
fields. -/
theorem Behind.loaded {s t : State} (h : Behind s t) {w : Fin 32} {g : Geometry} {c : Catalogue} {e : ErasedDigests}
    (hb : (s.win w).body = .loaded g c e) :
    ∃ chunks, (t.win w).body = .loaded g { c with chunks := chunks } e ∧ chunks.map Chunk.known = c.chunks.map Chunk.known := by
  have outline := h.outline w
  cases hb' : (t.win w).body with
  | loaded g' c' e' =>
    rw [hb, hb'] at outline
    simp only [WinBody.outline, WinBody.modCat, WinBody.loaded.injEq] at outline
    obtain ⟨rfl, hc, rfl⟩ := outline
    refine ⟨c'.chunks, ?_, List.ext_getElem? fun i => ?_⟩
    · cases c; cases c'; simp_all
    · have same := h.known w i
      simpa [sameChunk, State.chunk?, hb, hb', WinBody.cat?] using same
  | _ => rw [hb, hb'] at outline; simp [WinBody.outline, WinBody.modCat] at outline

theorem Behind.not_loaded {s t : State} (h : Behind s t) {w : Fin 32} (hb : (s.win w).body.isLoaded = false) :
    (t.win w).body.isLoaded = false := by
  rw [(WinBody.outline_inj (h.outline w)).2.1, hb]

/-- Whether a predicate of a chunk's state holds of a list's records is said by what the records know. -/
theorem countP_state_of_known {a b : List Chunk} (h : a.map Chunk.known = b.map Chunk.known) (p : ChunkState → Bool) :
    (a.countP fun c => p c.state) = b.countP fun c => p c.state := by
  have step : ∀ l : List Chunk, (l.countP fun c => p c.state) = (l.map Chunk.known).countP fun k => p k.1 := by
    intro l
    rw [List.countP_map]
    rfl
  rw [step a, step b, h]

theorem all_state_of_known {a b : List Chunk} (h : a.map Chunk.known = b.map Chunk.known) (p : ChunkState → Bool) :
    (a.all fun c => p c.state) = b.all fun c => p c.state := by
  have step : ∀ l : List Chunk, (l.all fun c => p c.state) = (l.map Chunk.known).all fun k => p k.1 := by
    intro l
    rw [List.all_map]
    rfl
  rw [step a, step b, h]

theorem closingReports_of_not_loaded {s t : State} {w : Fin 32} (h : (t.win w).body.isLoaded = false) :
    closingReports s t w = [] ∧ checkDoneDue s t w = false := by
  unfold closingReports checkDoneDue
  cases hb : (t.win w).body <;> simp_all [WinBody.isLoaded]

/-- The closing reports of a window are the same behind what comes behind the event. -/
theorem Behind.closing {s t : State} (h : Behind s t) (r : State) (w : Fin 32) :
    closingReports r t w = closingReports r s w ∧ checkDoneDue r t w = checkDoneDue r s w := by
  cases hb : (s.win w).body with
  | loaded g c e =>
    obtain ⟨chunks, hb', same⟩ := h.loaded hb
    have length : chunks.length = c.chunks.length := by simpa using congrArg List.length same
    have due : checkDoneDue r t w = checkDoneDue r s w := by
      simp only [checkDoneDue, hb, hb']
      rw [all_state_of_known same fun st => decide (st ∉ [ChunkState.unchecked, .checking, .filling])]
    refine ⟨?_, due⟩
    unfold closingReports
    rw [due]
    simp only [hb, hb', length, h.goodCount]
    rw [countP_state_of_known same fun st => decide (st = .good), countP_state_of_known same fun st => decide (st = .bad),
      countP_state_of_known same fun st => decide (st = .erased)]
  | vacant | defined _ | opened _ _ | rejected _ =>
    have idle := closingReports_of_not_loaded (s := r) (t := s) (w := w) (by rw [hb]; rfl)
    have idle' := closingReports_of_not_loaded (s := r) (t := t) (w := w) (h.not_loaded (by rw [hb]; rfl))
    rw [idle.1, idle.2, idle'.1, idle'.2]
    exact ⟨rfl, rfl⟩

/-- What an event tells stands behind what comes behind it. -/
theorem Behind.tells {r s t : State} (h : Behind s t) {ws : List (Fin 32)} {ahead rest : List Report}
    (k : tells r s ws ahead rest) : tells r t ws ahead rest := by
  have closing : closingReports r t = closingReports r s := funext fun w => (h.closing r w).1
  obtain ⟨⟨queue, dropped⟩, flag⟩ := k
  refine ⟨⟨?_, ?_⟩, fun w => ?_⟩
  · rw [closing, h.reports]; exact queue
  · rw [closing, h.reports]; exact dropped
  · rw [h.checkReportWanted, (h.closing r w).2, flag w]

/-! ### Reports and flags of the operations on chunks -/

/-- An operation raises these reports and no other, and leaves the window flags that the reports of an event look at. -/
structure Told (s t : State) (raised : List Report) : Prop where
  reported : reported s t raised
  checkReportWanted : ∀ w, (t.win w).checkReportWanted = (s.win w).checkReportWanted
  dipTouched : ∀ w, (t.win w).dipTouched = (s.win w).dipTouched
  fillReported : ∀ w, (t.win w).fillReported = (s.win w).fillReported

theorem Told.refl (s : State) : Told s s [] := ⟨reported_nil s, fun _ => rfl, fun _ => rfl, fun _ => rfl⟩

theorem Told.trans {s t u : State} {a b : List Report} (h : Told s t a) (k : Told t u b) : Told s u (a ++ b) where
  reported := h.reported.trans k.reported
  checkReportWanted w := (k.checkReportWanted w).trans (h.checkReportWanted w)
  dipTouched w := (k.dipTouched w).trans (h.dipTouched w)
  fillReported w := (k.fillReported w).trans (h.fillReported w)

/-- Two operations in silence, one after the other. -/
theorem Told.silent {s t u : State} (h : Told s t []) (k : Told t u []) : Told s u [] := h.trans k

theorem State.modEngine_told (s : State) (f : Engine → Engine) : Told s (s.modEngine f) [] :=
  ⟨reported.of_reports_eq rfl rfl, fun _ => rfl, fun _ => rfl, fun _ => rfl⟩

theorem State.modScheduler_told (s : State) (f : Scheduler → Scheduler) : Told s (s.modScheduler f) [] :=
  ⟨reported.of_reports_eq rfl rfl, fun _ => rfl, fun _ => rfl, fun _ => rfl⟩

theorem State.modCounters_told (s : State) (f : Counters → Counters) : Told s (s.modCounters f) [] :=
  ⟨reported.of_reports_eq rfl rfl, fun _ => rfl, fun _ => rfl, fun _ => rfl⟩

theorem State.raise_told (s : State) (r : Report) : Told s (s.raise r) [r] :=
  ⟨s.raise_reported r, fun _ => rfl, fun _ => rfl, fun _ => rfl⟩

/-- A write of a window that leaves the three flags. -/
theorem State.modWin_told (s : State) (w : Fin 32) (f : Window → Window)
    (hc : ∀ v, (f v).checkReportWanted = v.checkReportWanted) (hd : ∀ v, (f v).dipTouched = v.dipTouched)
    (hf : ∀ v, (f v).fillReported = v.fillReported) : Told s (s.modWin w f) [] := by
  refine ⟨reported.of_reports_eq rfl rfl, fun u => ?_, fun u => ?_, fun u => ?_⟩ <;>
    (rw [State.win_modWin]; split)
  · next e => rw [hc, e]
  · rfl
  · next e => rw [hd, e]
  · rfl
  · next e => rw [hf, e]
  · rfl

theorem State.modChunk_told (s : State) (w : Fin 32) (i : Nat) (f : Chunk → Chunk) : Told s (s.modChunk w i f) [] :=
  s.modWin_told w _ (fun _ => rfl) (fun _ => rfl) fun _ => rfl

theorem State.freeStream_told (s : State) (k : Fin 3) : Told s (s.freeStream k) [] := s.modEngine_told _

theorem State.moveStreamToFront_told (s : State) (k : Fin 3) (x : StreamCtx) : Told s (s.moveStreamToFront k x) [] :=
  s.modEngine_told _

theorem State.unlink_told (s : State) (w : Fin 32) (i : Nat) : Told s (s.unlink w i) [] := s.modChunk_told _ _ _

theorem State.endDigesting_told (s : State) (w : Fin 32) (i : Nat) : Told s (s.endDigesting w i) [] := by
  unfold State.endDigesting
  split
  · exact (s.freeStream_told _).silent (State.unlink_told _ _ _)
  · exact ((s.modEngine_told _).silent (State.modCounters_told _ _)).silent (State.unlink_told _ _ _)
  · exact .refl s

theorem State.moveChunk_told (s : State) (w : Fin 32) (i : Nat) (st : ChunkState) (d : Option Digest) :
    Told s (s.moveChunk w i st d) [] := by
  unfold State.moveChunk
  split
  · exact .refl s
  · next c _ =>
    have moved := (s.modChunk_told w i fun c =>
      { c with state := st, observed := d, queued := c.queued && decide (st = .unchecked) }).silent
        (State.modWin_told _ w (fun v =>
          { v with goodCount := v.goodCount + (if st = .good then 1 else 0) - (if c.state = .good then 1 else 0) })
          (fun _ => rfl) (fun _ => rfl) fun _ => rfl)
    simp only
    split
    · exact moved.silent (State.modScheduler_told _ _)
    · exact moved

theorem State.disturb_told (s : State) (w : Fin 32) (i : Nat) : Told s (s.disturb w i) [] :=
  (s.endDigesting_told w i).silent (State.moveChunk_told _ _ _ _ _)

/-- An event that told this ahead of its end tells, at its end, the window's closing reports behind it (R72, R123). -/
theorem tells_closeEvent {s t : State} (w : Fin 32) {ahead : List Report} (hr : reported s t ahead)
    (hf : ∀ v, (t.win v).checkReportWanted = (s.win v).checkReportWanted) :
    tells s (t.closeEvent w (s.win w).goodCount) [w] ahead [] := by
  obtain ⟨closing, wins⟩ := s.closeEvent_reported t w (hf w)
  refine ⟨by simpa using hr.trans closing, fun v => ?_⟩
  rw [wins v]
  by_cases hv : v = w
  · subst hv; simp [hf]
  · simp [hv, hf]

/-! ### A forwarded PROGRAM -/

/-- The bridge takes a forwarded command: the buffer is empty, and the flash busy with the host over the touched bytes (R12). -/
def State.touch (c : Collected) (s : State) : State := s.emptyBuffer.busyWithHost (c.touched s.flashBytes)

theorem listedTouched_add (t : TouchedList) (ranges : List (Nat × Nat)) : listedTouched t (t.add ranges) ranges := by
  refine ⟨fun h => by rw [h]; rfl, fun entries h => ⟨fun h16 => ?_, fun h16 => ?_⟩⟩
  · simp [h, TouchedList.add, Config.maxTouched, Nat.not_le.2 h16]
  · simp [h, TouchedList.add, Config.maxTouched, h16]

/-- What a forwarded command does to the bridge, whatever the chunks do behind it (R12). -/
theorem forwarded_of_work {s u t : State} {c : Collected} (work : ChunkWork (s.touch c) u) (behind : Behind u t)
    (claim : t.bridge.claim = 0) : forwarded s t (c.touched s.flashBytes) := by
  have bridge : t.bridge = { (s.touch c).bridge with claim := 0 } := by rw [behind.bridge, work.bridge, claim]
  refine ⟨by rw [bridge]; rfl, by rw [bridge]; exact listedTouched_add _ _, behind.ports.trans work.ports⟩

theorem sameOutsideChunks_of_work {s u t : State} {c : Collected} (work : ChunkWork (s.touch c) u) (behind : Behind u t) :
    sameOutsideChunks s t := by
  refine ⟨behind.pending.trans work.pending, behind.part.trans work.part, behind.cause.trans work.cause,
    behind.strapPins.trans work.strapPins, behind.straps.trans work.straps, behind.views.trans work.views,
    behind.supply.trans work.supply, behind.parser.trans work.parser, ?_, ?_, fun w => ?_⟩
  · rw [behind.scheduler, work.scheduler]; rfl
  · rw [behind.reports, work.reports]; rfl
  · rw [(WinBody.outline_inj (behind.outline w)).1, work.geom?]; rfl

/-- The state behind an event on chunks of a forwarded PROGRAM in window `w`. -/
def State.settleProgram (w : Fin 32) (s : State) : State := ((s.restartQuiet w).refill).settleClaim

theorem State.settleProgram_behind (w : Fin 32) (s : State) : Behind s (s.settleProgram w) :=
  ((s.restartQuiet_behind w).trans (State.refill_queueWork _).behind).trans (State.settleClaim_behind _)

theorem State.settleClaim_win (s : State) (w : Fin 32) : s.settleClaim.win w = s.win w := by rw [s.settleClaim_eq]; rfl

/-- The quiet timer of a LOADED window restarts, and every other stands (R120). -/
theorem State.settleProgram_quiet (s : State) (w u : Fin 32) :
    ((s.settleProgram w).win u).quiet =
      if u = w ∧ (s.win u).body.isLoaded = true then (s.win u).body.quietStart else (s.win u).quiet := by
  unfold State.settleProgram
  rw [State.settleClaim_win, (State.refill_queueWork _).chunks.quiet, State.restartQuiet_spec, State.win_setWin]
  by_cases h : u = w
  · subst h
    cases (s.win u).body.isLoaded <;> simp
  · simp [h, Ne.symm h]

theorem WinBody.quietStart_of_outline {a b : WinBody} (h : a.outline = b.outline) : a.quietStart = b.quietStart := by
  unfold WinBody.quietStart
  rw [(WinBody.outline_inj h).1]

theorem quietRestarted_of_work {s u : State} {c : Collected} (work : ChunkWork (s.touch c) u) (w : Fin 32) :
    quietRestarted s (u.settleProgram w) fun v => v = w := by
  have same : ∀ v, (u.win v).body.isLoaded = (s.win v).body.isLoaded ∧ (u.win v).body.quietStart = (s.win v).body.quietStart ∧
      (u.win v).quiet = (s.win v).quiet := fun v =>
    ⟨work.isLoaded v, WinBody.quietStart_of_outline (work.outline v), work.quiet v⟩
  intro v
  obtain ⟨loaded, start, quiet⟩ := same v
  rw [State.settleProgram_quiet, loaded, start, quiet]
  refine ⟨fun hv hl => by rw [if_pos ⟨hv, hl⟩], fun h => ?_⟩
  rw [if_neg]
  rintro ⟨hv, hl⟩
  exact h.elim (fun n => n hv) fun n => absurd (n.symm.trans hl) nofun

theorem Behind.busy {s t : State} (h : Behind s t) : t.bridge.busy = s.bridge.busy := by rw [h.bridge]

/-- A part that knows its flash busy with the host has claim count 0 behind a forwarded command (R15, R16). -/
theorem State.settleClaim_claim_of_busy (s : State) (h : s.bridge.busy = true) : s.settleClaim.bridge.claim = 0 := by
  rw [s.settleClaim_of_busy h]

/-- A PROGRAM in a window is its event on the chunk it lands on, if it lands on one, and what comes behind (R9). -/
theorem exec_programForward_window {s : State} {c : Collected} {w : Fin 32} (hc : s.bridge.collected = some c)
    (hp : c.cls = .program) (hn : c.len ≠ 0) (hw : s.windowAt (pageBase c.addr) = some w) :
    exec .programForward s =
      .next ((match (s.win w).body.landing c.addr c.len with
        | some l => (s.touch c).programEvent w l c.data
        | none => s.touch c).settleProgram w) := by
  have at' : (s.emptyBuffer.busyWithHost (c.touched s.flashBytes)).windowAt (pageBase c.addr) = some w := hw
  simp only [exec, execProgramForward, hc, hp, if_true, State.forwardProgram, hn, if_false, State.landProgram, at',
    State.restartIf, Bool.false_eq_true]
  rfl

/-- What is the same of every PROGRAM in a window, given the work of its event (R9, R12, R120). -/
theorem forwarded_program {s u : State} {c : Collected} {w : Fin 32} (hp : c.cls = .program)
    (work : ChunkWork (s.touch c) u) :
    forwarded s (u.settleProgram w) (landingRanges c.addr c.len) ∧ sameOutsideChunks s (u.settleProgram w) ∧
      quietRestarted s (u.settleProgram w) fun v => v = w := by
  have behind := u.settleProgram_behind w
  have claim : (u.settleProgram w).bridge.claim = 0 := by
    have busy : ((u.restartQuiet w).refill).bridge.busy = true := by
      rw [(State.refill_queueWork _).behind.busy, (State.restartQuiet_behind _ _).busy, work.bridge]
      rfl
    unfold State.settleProgram
    exact State.settleClaim_claim_of_busy _ busy
  have touched : c.touched s.flashBytes = landingRanges c.addr c.len := by simp [Collected.touched, hp]
  have all := forwarded_of_work work behind claim
  rw [touched] at all
  exact ⟨all, sameOutsideChunks_of_work work behind, quietRestarted_of_work work w⟩

theorem sameChunk.trans {s t u : State} {w : Fin 32} {i : Nat} (h : sameChunk s t w i) (k : sameChunk t u w i) :
    sameChunk s u w i := Eq.trans k h

/-- Settles O16. -/
theorem programThatReachesNoChunkOnlyTouches : Obligations.ProgramThatReachesNoChunkOnlyTouches := by
  refine ⟨fun s c hc hp hn h => ?_, fun entries ranges => ⟨?_, ?_, rfl, fun flashBytes p => ⟨?_, ?_⟩⟩,
    fun s => ⟨fun c hc hp hn => ?_, fun h => ?_, fun h => ?_⟩⟩
  · rcases h with ⟨hw, hcmd⟩ | ⟨w, hw, hl⟩
    · have at' : (s.touch c).windowAt (pageBase c.addr) = none := hw
      have outside : (s.touch c).pageInCommandArea c.addr = false := hcmd
      have run : exec .programForward s = .next ((s.touch c).refill).settleClaim := by
        unfold State.touch at at' outside ⊢
        simp only [exec, execProgramForward, hc, hp, if_true, State.forwardProgram, hn, if_false, State.landProgram, at',
          outside, State.restartIf, Bool.false_eq_true]
      have work := ChunkWork.refl (s.touch c)
      have behind : Behind (s.touch c) ((s.touch c).refill).settleClaim :=
        (State.refill_queueWork _).behind.trans (State.settleClaim_behind _)
      have busy : ((s.touch c).refill).bridge.busy = true := by rw [(State.refill_queueWork _).behind.busy]; rfl
      have touched : c.touched s.flashBytes = landingRanges c.addr c.len := by simp [Collected.touched, hp]
      have bridge := forwarded_of_work work behind (State.settleClaim_claim_of_busy _ busy)
      rw [touched] at bridge
      refine ⟨_, run, bridge, sameOutsideChunks_of_work work behind, behind.known, behind.engine, behind.reports, fun v => ?_⟩
      rw [State.settleClaim_win, (State.refill_queueWork _).chunks.quiet, hw, if_neg (fun h => absurd h.1 nofun)]
      rfl
    · have run := exec_programForward_window hc hp hn hw
      rw [hl] at run
      obtain ⟨bridge, outside, _⟩ := forwarded_program (w := w) hp (ChunkWork.refl (s.touch c))
      have behind := (s.touch c).settleProgram_behind w
      refine ⟨_, run, bridge, outside, behind.known, behind.engine, behind.reports, fun v => ?_⟩
      rw [State.settleProgram_quiet, hw]
      simp only [Option.some.injEq, eq_comm]
      rfl
  · exact ((listedTouched_add (.each entries) ranges).2 entries rfl).1
  · exact ((listedTouched_add (.each entries) ranges).2 entries rfl).2
  · simp only [inRanges, TouchedList.ranges, List.mem_flatten]
    constructor
    · rintro ⟨r, ⟨e, he, hr⟩, hp⟩
      exact ⟨e, he, r, hr, hp⟩
    · rintro ⟨e, he, r, hr, hp⟩
      exact ⟨r, ⟨e, he, hr⟩, hp⟩
  · simp [inRanges, TouchedList.ranges]
  · simp only [exec, execProgramForward, hc, hp, if_true, State.forwardProgram, hn]
    rfl
  · simp only [exec, execProgramForward]
    split
    · next c hc => rw [if_neg (h c hc)]
    · rfl
  · simp only [exec, execEraseForward]
    split
    · next c hc => rw [if_pos (h c hc)]
    · rfl

end Sys2Proof.Machine
end

section
/-! What a refused record does (R161, R164, R177): every owner leaves the state it refuses a record in. -/

namespace Sys2Proof.Machine

/-! ### A refusal leaves the state -/

/-- A ruling that refuses leaves the state it was asked in. -/
def Ruling.Leaves (s : State) (r : Ruling) : Prop := ∀ u reason, r = .refused u reason → u = s

theorem Ruling.leaves_refused (s : State) (reason : Reason) : Ruling.Leaves s (.refused s reason) := by
  intro u r h
  cases h
  rfl

theorem Ruling.leaves_taken (s t : State) : Ruling.Leaves s (.taken t) := by
  simp [Ruling.Leaves]

theorem Ruling.leaves_pended (s t : State) : Ruling.Leaves s (.pended t) := by
  simp [Ruling.Leaves]

theorem Ruling.leaves_commitRefused (s t : State) : Ruling.Leaves s (.commitRefused t) := by
  simp [Ruling.Leaves]

open Ruling in
theorem State.takeWindow_leaves (bytes : List Byte) (s : State) : (s.takeWindow bytes).Leaves s := by
  unfold State.takeWindow
  split
  · dsimp only
    split
    · exact leaves_refused _ _
    · split
      · exact leaves_refused _ _
      · split
        · exact leaves_refused _ _
        · exact leaves_taken _ _
  · exact leaves_refused _ _

open Ruling in
theorem State.takeManifest_leaves (bytes : List Byte) (s : State) : (s.takeManifest bytes).Leaves s := by
  unfold State.takeManifest
  split
  · exact leaves_refused _ _
  · split
    · exact leaves_refused _ _
    · exact leaves_refused _ _
    · dsimp only
      split
      · exact leaves_refused _ _
      · exact leaves_taken _ _

open Ruling in
theorem State.takeDigests_leaves (bytes : List Byte) (s : State) : (s.takeDigests bytes).Leaves s := by
  unfold State.takeDigests
  dsimp only
  split
  · exact leaves_refused _ _
  · split
    · exact leaves_refused _ _
    · split
      · split
        · exact leaves_refused _ _
        · exact leaves_taken _ _
      · split
        · exact leaves_refused _ _
        · split
          · exact leaves_refused _ _
          · exact leaves_taken _ _
      all_goals exact leaves_refused _ _

open Ruling in
theorem State.takeDrop_leaves (bytes : List Byte) (s : State) : (s.takeDrop bytes).Leaves s := by
  unfold State.takeDrop
  split
  · exact leaves_refused _ _
  · split
    · exact leaves_refused _ _
    · split
      · exact leaves_refused _ _
      · exact leaves_taken _ _

open Ruling in
theorem State.takeOpclass_leaves (bytes : List Byte) (s : State) : (s.takeOpclass bytes).Leaves s := by
  unfold State.takeOpclass
  split
  · exact leaves_refused _ _
  · split
    · exact leaves_refused _ _
    · exact leaves_taken _ _

open Ruling in
theorem State.takeCheck_leaves (bytes : List Byte) (s : State) : (s.takeCheck bytes).Leaves s := by
  unfold State.takeCheck
  split
  · exact leaves_refused _ _
  · split
    · exact leaves_refused _ _
    · split
      · exact leaves_taken _ _
      · exact leaves_refused _ _

open Ruling in
theorem State.takeView_leaves (bytes : List Byte) (s : State) : (s.takeView bytes).Leaves s := by
  unfold State.takeView
  split
  · split
    · exact leaves_refused _ _
    · exact leaves_taken _ _
  · exact leaves_refused _ _

/-- UNVIEW, HOLD and RELEASE take a view number and then look at the view. -/
theorem Ruling.leaves_onView (s : State) (v : Option (Fin 8)) (f : Fin 8 → View → Ruling)
    (hf : ∀ v view, (f v view).Leaves s) :
    Ruling.Leaves s (match v with
      | none => .refused s .range
      | some v =>
        match s.view v with
        | none => .refused s .state
        | some view => f v view) := by
  split
  · exact leaves_refused _ _
  · split
    · exact leaves_refused _ _
    · exact hf _ _

open Ruling in
theorem State.takeUnview_leaves (bytes : List Byte) (s : State) : (s.takeUnview bytes).Leaves s := by
  refine leaves_onView s _ (fun v view => if view.held then .refused s .state else .taken (s.setView v none)) fun v view => ?_
  split
  · exact leaves_refused _ _
  · exact leaves_taken _ _

open Ruling in
theorem State.takeHold_leaves (bytes : List Byte) (s : State) : (s.takeHold bytes).Leaves s := by
  refine leaves_onView s _
    (fun v view => if view.held then .refused s .state else .taken (s.setView v (some { view with held := true })))
    fun v view => ?_
  split
  · exact leaves_refused _ _
  · exact leaves_taken _ _

open Ruling in
theorem State.takeRelease_leaves (bytes : List Byte) (s : State) : (s.takeRelease bytes).Leaves s := by
  refine leaves_onView s _ (fun v view => if view.held then .taken (s.release v view) else .refused s .state) fun v view => ?_
  split
  · exact leaves_taken _ _
  · exact leaves_refused _ _

open Ruling in
/-- A COMMIT that passed its structural checks is never refused with RECORD_REFUSED (R138). -/
theorem State.commit_leaves (s : State) (mode : Mode) (addr : Nat) (v : Fin 8) (view : View) (bank : Bank) :
    (s.commit mode addr v view bank).Leaves s := by
  unfold State.commit
  split
  · split
    · exact leaves_taken _ _
    · exact leaves_taken _ _
  · split
    · exact leaves_taken _ _
    · split
      · exact leaves_commitRefused _ _
      · split
        · exact leaves_pended _ _
        · exact leaves_taken _ _

open Ruling in
theorem State.takeCommit_leaves (mode : Mode) (addr : Nat) (bytes : List Byte) (s : State) :
    (s.takeCommit mode addr bytes).Leaves s := by
  unfold State.takeCommit
  split
  · split
    · exact leaves_refused _ _
    · exact s.commit_leaves _ _ _ _ _
  · exact leaves_refused _ _

open Ruling in
theorem State.takeSnapshot_leaves (s : State) : s.takeSnapshot.Leaves s := by
  unfold State.takeSnapshot
  dsimp only
  split
  · exact leaves_taken _ _
  · exact leaves_taken _ _

theorem State.dispatch_leaves (k : RecKind) (mode : Mode) (addr : Nat) (bytes : List Byte) (s : State) :
    (s.dispatch k mode addr bytes).Leaves s := by
  cases k with
  | opclass => exact s.takeOpclass_leaves bytes
  | window => exact s.takeWindow_leaves bytes
  | manifest => exact s.takeManifest_leaves bytes
  | digests => exact s.takeDigests_leaves bytes
  | drop => exact s.takeDrop_leaves bytes
  | check => exact s.takeCheck_leaves bytes
  | budget => exact Ruling.leaves_taken _ _
  | view => exact s.takeView_leaves bytes
  | unview => exact s.takeUnview_leaves bytes
  | commit => exact s.takeCommit_leaves mode addr bytes
  | hold => exact s.takeHold_leaves bytes
  | release => exact s.takeRelease_leaves bytes
  | snapshot => exact s.takeSnapshot_leaves
  | ack => exact Ruling.leaves_taken _ _
  | restart => exact Ruling.leaves_taken _ _

open Ruling in
/-- A record refused at any test, before dispatch or by its owner, leaves the state (R152, R161, R178). -/
theorem State.rule_leaves (addr : Nat) (bytes : List Byte) (taint : Bool) (s : State) :
    (s.rule addr bytes taint).Leaves s := by
  unfold State.rule
  split
  · exact leaves_refused _ _
  · split
    · exact leaves_refused _ _
    · split
      · exact leaves_refused _ _
      · unfold State.ruleRecord
        split
        · exact s.dispatch_leaves _ _ _ _
        · exact leaves_refused _ _

/-! ### What the report, the mark and the refill change -/

/-- A mark request appends to the mark queue, if it is open, and does nothing else (R164). -/
theorem State.requestMark_eq (s : State) (m : Mark) :
    s.requestMark m = { s with reports := { s.reports with marks :=
      if s.reports.marks.length < 16 ∧ s.reports.journal ≠ .failed then s.reports.marks ++ [m] else s.reports.marks } } := by
  rcases s.requestMark_cases m with ⟨closed, same⟩ | ⟨short, open', joined⟩
  · have full : ¬(s.reports.marks.length < 16 ∧ s.reports.journal ≠ .failed) := by
      rintro ⟨short, open'⟩
      simp [State.marksClosed, Config.markEntries, open', Nat.not_le.mpr short] at closed
    rw [same, if_neg full]
  · rw [joined, if_pos ⟨short, open'⟩]

/-- Raising a report appends it to the report queue, or sets the dropped flag, and does nothing else (R170). -/
theorem State.raise_eq (s : State) (r : Report) :
    s.raise r = { s with reports := { s.reports with
      queue := if s.reports.queue.length < 16 then s.reports.queue ++ [r] else s.reports.queue
      dropped := if s.reports.queue.length < 16 then s.reports.dropped else true } } := by
  by_cases h : s.reports.queue.length < 16
  · simp [State.raise, State.modReports, Config.reportEntries, h]
  · simp [State.raise, State.modReports, Config.reportEntries, h]

/-- Two bodies of one outline differ in their chunk records only. -/
theorem WinBody.modCat_of_outline {a b : WinBody} (h : a.outline = b.outline) :
    ∃ chunks, a = b.modCat fun c => { c with chunks := chunks } := by
  have cats : ∀ c d : Catalogue, { c with chunks := c.chunks.map fun _ => Chunk.fresh } =
      { d with chunks := d.chunks.map fun _ => Chunk.fresh } → c = { d with chunks := c.chunks } := by
    rintro ⟨⟩ ⟨⟩ h
    simp_all
  cases a <;> cases b <;> simp only [WinBody.outline, WinBody.modCat, reduceCtorEq, WinBody.defined.injEq,
    WinBody.rejected.injEq, WinBody.opened.injEq, WinBody.loaded.injEq] at h ⊢
  · exact ⟨[], trivial⟩
  · exact ⟨[], h⟩
  · exact ⟨_, h.1, cats _ _ h.2⟩
  · exact ⟨_, h.1, cats _ _ h.2.1, h.2.2⟩
  · exact ⟨[], h⟩

/-- Work on the check queue changes what a refill may change (R121). -/
theorem QueueWork.refilledOnly {s t : State} (h : QueueWork s t) (idle : s.noRefill → t = s) : refilledOnly s t := by
  refine ⟨?_, fun w => ?_, h.known, idle⟩
  · obtain ⟨⟨pending, part, cause, strapPins, straps, bridge, views, supply, parser, ports, scheduler, _, _, _, _⟩,
      engine, reports, _, _⟩ := h
    cases s
    cases t
    exact State.mk.injEq .. ▸ ⟨pending, part, cause, strapPins, straps, bridge, rfl, views, engine, scheduler, supply, parser, reports, ports⟩
  · obtain ⟨chunks, body⟩ := WinBody.modCat_of_outline (h.chunks.outline w)
    refine ⟨chunks, ?_⟩
    rw [← body]
    exact h.flags w

theorem State.refill_refilledOnly (s : State) : refilledOnly s s.refill :=
  s.refill_queueWork.refilledOnly s.refill_of_noRefill

/-- Settles O30: `State.rule_leaves` for the owner's state; behind it the mark, the report and the refill one after another. -/
theorem refusedRecordIsVoidedReportedAndPassed : Obligations.RefusedRecordIsVoidedReportedAndPassed := by
  intro s u bytes taint reason refused
  obtain rfl := s.rule_leaves _ _ _ u reason refused
  have fed : u.liveRecord bytes taint =
      ⟨(u.refuseRecord u.parser.cursor bytes reason .live).nextRecord bytes, false⟩ := by
    simp only [State.liveRecord, refused]
  refine ⟨rfl, by rw [fed], ?_⟩
  rw [fed]
  dsimp only
  unfold State.nextRecord State.refuseRecord State.markRecord
  rw [State.raise_eq, State.requestMark_eq]
  generalize ht : State.modParser _ _ = t
  have parser := t.refill_queueWork.chunks.parser
  have reports := t.refill_queueWork.reports
  have only := t.refill_refilledOnly
  rw [parser, reports]
  subst ht
  dsimp only [State.modParser]
  refine ⟨rfl, rfl, rfl, fun full => ?_, fun room => ?_, ?_, only⟩
  · rw [if_neg (Nat.not_lt.mpr full)]
  · rw [if_pos room]
  · rfl

end Sys2Proof.Machine
end

section
/-! What a stream's start, advance and end do to its chunk, its context, the counters and the reports (R74, R75, R82, R99 to R103),
said once for program streams and read streams, and eviction (R86, R101). -/

namespace Sys2Proof.Machine

/-! ### One step of a stream -/

/-- Chunk `i` of window `w` now knows this, its context `k` holds this, and these are the counters, the window's good count and the
reports raised; every other chunk and context is as it was. -/
structure StreamStep (s t : State) (k : Fin 3) (w : Fin 32) (i : Nat) (holds : Option StreamCtx)
    (known : ChunkState × Option Digest × Option Digest × Option Link) (counters : Counters) (good : Nat) (raised : List Report) :
    Prop where
  chunk : ∃ d, t.chunk? w i = some d ∧ d.known = known
  others : ∀ u j, (u, j) ≠ (w, i) → sameChunk s t u j
  streams : ∀ j, t.stream j = if j = k then holds else s.stream j
  recency : t.engine.recency =
    if holds.isSome = true then k :: s.engine.recency.filter (· ≠ k) else s.engine.recency.filter (· ≠ k)
  readback : t.engine.readback = s.engine.readback
  counters : t.reports.counters = counters
  goodCount : (t.win w).goodCount = good
  told : Told s t raised

theorem filter_ne_cons_filter_ne (k : Fin 3) (l : List (Fin 3)) :
    (k :: l.filter (· ≠ k)).filter (· ≠ k) = l.filter (· ≠ k) := by
  simp [List.filter_filter]

/-- Two steps of one context on one chunk are one step. -/
theorem StreamStep.trans {s t u : State} {k : Fin 3} {w : Fin 32} {i : Nat} {h₁ h₂ : Option StreamCtx}
    {k₁ k₂ : ChunkState × Option Digest × Option Digest × Option Link} {c₁ c₂ : Counters} {g₁ g₂ : Nat} {r₁ r₂ : List Report}
    (a : StreamStep s t k w i h₁ k₁ c₁ g₁ r₁) (b : StreamStep t u k w i h₂ k₂ c₂ g₂ r₂) :
    StreamStep s u k w i h₂ k₂ c₂ g₂ (r₁ ++ r₂) where
  chunk := b.chunk
  others v j h := (a.others v j h).trans (b.others v j h)
  streams j := by
    rw [b.streams]
    split
    · rfl
    · next h => rw [a.streams, if_neg h]
  recency := by
    have filter : t.engine.recency.filter (· ≠ k) = s.engine.recency.filter (· ≠ k) := by
      rw [a.recency]
      split
      · exact filter_ne_cons_filter_ne _ _
      · simp [List.filter_filter]
    rw [b.recency, filter]
  readback := b.readback.trans a.readback
  counters := b.counters
  goodCount := b.goodCount
  told := a.told.trans b.told

/-- The chunk of a step, unless it is another. -/
theorem State.chunk?_modChunk_of_ne (s : State) (w : Fin 32) (i : Nat) (f : Chunk → Chunk) {u : Fin 32} {j : Nat}
    (h : (u, j) ≠ (w, i)) : (s.modChunk w i f).chunk? u j = s.chunk? u j := by
  rw [State.chunk?_modChunk, if_neg]
  rintro ⟨rfl, rfl⟩
  exact h rfl

theorem State.modChunk_goodCount (s : State) (w u : Fin 32) (i : Nat) (f : Chunk → Chunk) :
    ((s.modChunk w i f).win u).goodCount = (s.win u).goodCount := by
  simp only [State.modChunk, State.win_modWin]
  split
  · next h => rw [h]
  · rfl

/-- A context takes `x` and moves to the front of the recency list; no chunk record changes (R99). -/
theorem State.moveStreamToFront_spec (s : State) (k : Fin 3) (x : StreamCtx) :
    (∀ j, (s.moveStreamToFront k x).stream j = if j = k then some x else s.stream j) ∧
      (s.moveStreamToFront k x).engine.recency = k :: s.engine.recency.filter (· ≠ k) ∧
      (s.moveStreamToFront k x).engine.readback = s.engine.readback := by
  refine ⟨fun j => ?_, rfl, rfl⟩
  show (s.engine.streams.set k (some x)).get j = _
  rw [Vector.get_set_fin]
  by_cases h : j = k <;> simp [h, Ne.symm, State.stream]

/-- A context that takes a chunk as `f` writes the chunk's record. -/
theorem State.takeStream_step (s : State) (k : Fin 3) (x : StreamCtx) (w : Fin 32) (i : Nat) (c : Chunk) (f : Chunk → Chunk)
    (hc : s.chunk? w i = some c) :
    StreamStep s ((s.modChunk w i f).moveStreamToFront k x) k w i (some x) (f c).known s.reports.counters (s.win w).goodCount
      [] := by
  obtain ⟨streams, recency, readback⟩ := (s.modChunk w i f).moveStreamToFront_spec k x
  refine ⟨⟨f c, ?_, rfl⟩, fun u j h => ?_, streams, recency, readback, rfl, s.modChunk_goodCount w w i f,
    (s.modChunk_told _ _ _).silent (State.moveStreamToFront_told _ _ _)⟩
  · show (s.modChunk w i f).chunk? w i = _
    rw [State.chunk?_modChunk, if_pos ⟨rfl, rfl⟩, hc, Option.map_some]
  · exact congrArg (Option.map Chunk.known) (s.chunk?_modChunk_of_ne w i f h)

/-- A context moves to the front with `x`, and its chunk's record stands. -/
theorem State.moveStreamToFront_step (s : State) (k : Fin 3) (x : StreamCtx) (w : Fin 32) (i : Nat) (c : Chunk)
    (hc : s.chunk? w i = some c) :
    StreamStep s (s.moveStreamToFront k x) k w i (some x) c.known s.reports.counters (s.win w).goodCount [] := by
  obtain ⟨streams, recency, readback⟩ := s.moveStreamToFront_spec k x
  exact ⟨⟨c, hc, rfl⟩, fun _ _ _ => rfl, streams, recency, readback, rfl, rfl, s.moveStreamToFront_told k x⟩

/-- A context is FREE and its chunk named by none (R104, R107). -/
theorem State.freeUnlink_step (s : State) (k : Fin 3) (w : Fin 32) (i : Nat) (c : Chunk) (hc : s.chunk? w i = some c) :
    StreamStep s ((s.freeStream k).unlink w i) k w i none (c.state, c.expected, c.observed, none) s.reports.counters
      (s.win w).goodCount [] := by
  obtain ⟨streams, recency, readback, chunks, _⟩ := s.freeStream_spec k
  refine ⟨⟨{ c with link := none }, ?_, rfl⟩, fun u j h => ?_, streams, recency, readback, rfl,
    (s.freeStream k).modChunk_goodCount w w i _, (s.freeStream_told k).silent (State.unlink_told _ _ _)⟩
  · rw [State.unlink, State.chunk?_modChunk, if_pos ⟨rfl, rfl⟩, chunks, hc]
    rfl
  · refine congrArg (Option.map Chunk.known) ?_
    rw [State.unlink, State.chunk?_modChunk_of_ne _ _ _ _ h, chunks]

/-! ### Verdicts (R82, R91) -/

/-- Where a complete digest sends a chunk with this expected digest: COMPUTED in an OPEN window, GOOD or BAD in a LOADED one. -/
def State.verdictOf (s : State) (w : Fin 32) (expected : Option Digest) (digest : Digest) : ChunkState :=
  if (s.win w).body.isLoaded = false then .computed else if expected = some digest then .good else .bad

/-- The counters behind a verdict (R91). -/
def Counters.judged (st : ChunkState) (c : Counters) : Counters :=
  { c with
    goodVerdicts := if st = .good then countUp c.goodVerdicts else c.goodVerdicts
    badVerdicts := if st = .bad then countUp c.badVerdicts else c.badVerdicts }

/-- CHUNK_BAD for a verdict BAD, and nothing for another (R91). -/
def State.badReport (s : State) (w : Fin 32) (source : Source) (i : Nat) (st : ChunkState) : List Report :=
  if st = .bad then [.chunkBad w source i ((s.win w).body.chunkLen i)] else []

theorem ChunkWork.verdictOf {s t : State} (h : ChunkWork s t) (w : Fin 32) (expected : Option Digest) (digest : Digest) :
    t.verdictOf w expected digest = s.verdictOf w expected digest := by
  rw [State.verdictOf, State.verdictOf, h.isLoaded]

theorem ChunkWork.badReport {s t : State} (h : ChunkWork s t) (w : Fin 32) (source : Source) (i : Nat) (st : ChunkState) :
    t.badReport w source i st = s.badReport w source i st := by
  rw [State.badReport, State.badReport, h.chunkLen]

/-- A verdict: the chunk's record, the frame, the counters, the good count and the report. -/
theorem State.verdict_spec (s : State) (w : Fin 32) (i : Nat) (digest : Digest) (source : Source) (c : Chunk)
    (hc : s.chunk? w i = some c) (hg : c.state ≠ .good) :
    let t := s.verdict w i digest source
    let st := s.verdictOf w c.expected digest
    (∃ d, t.chunk? w i = some d ∧ d.known = (st, c.expected, some digest, c.link)) ∧
      (∀ u j, (u, j) ≠ (w, i) → t.chunk? u j = s.chunk? u j) ∧ t.engine = s.engine ∧
      t.reports.counters = s.reports.counters.judged st ∧
      (t.win w).goodCount = (s.win w).goodCount + (if st = .good then 1 else 0) ∧
      Told s t (s.badReport w source i st) := by
  intro t st
  have move : ∀ next, _ := fun next => s.moveChunk_spec w i next (some digest) c hc
  simp only [if_neg hg, Nat.sub_zero] at move
  have told := fun next => s.moveChunk_told w i next (some digest)
  cases hl : (s.win w).body.isLoaded with
  | false =>
    have ht : t = s.moveChunk w i .computed (some digest) := by simp [t, State.verdict, hl]
    have hst : st = .computed := by simp [st, State.verdictOf, hl]
    obtain ⟨chunk, others, engine, reports, good⟩ := move .computed
    rw [ht, hst]
    exact ⟨⟨_, chunk, rfl⟩, others, engine, by rw [reports]; rfl, good, told .computed⟩
  | true =>
    by_cases he : c.expected = some digest
    · have ht : t = (s.moveChunk w i .good (some digest)).countGoodVerdict := by simp [t, State.verdict, hl, hc, he]
      have hst : st = .good := by simp [st, State.verdictOf, hl, he]
      obtain ⟨chunk, others, engine, reports, good⟩ := move .good
      rw [ht, hst]
      refine ⟨⟨_, chunk, rfl⟩, others, engine, ?_, good, (told .good).silent (State.modCounters_told _ _)⟩
      show Counters.judged .good (s.moveChunk w i .good (some digest)).reports.counters = _
      rw [reports]
    · have ht : t = ((s.moveChunk w i .bad (some digest)).countBadVerdict).raise
          (.chunkBad w source i ((s.win w).body.chunkLen i)) := by simp [t, State.verdict, hl, hc, he]
      have hst : st = .bad := by simp [st, State.verdictOf, hl, he]
      obtain ⟨chunk, others, engine, reports, good⟩ := move .bad
      rw [ht, hst]
      refine ⟨⟨_, chunk, rfl⟩, others, engine, ?_, good,
        ((told .bad).silent (State.modCounters_told _ _)).trans (State.raise_told _ _)⟩
      rw [State.raise_counters]
      show Counters.judged .bad (s.moveChunk w i .bad (some digest)).reports.counters = _
      rw [reports]

/-- The end of a stream: its context is FREE, and its chunk has its verdict (R82, R103, R109). -/
theorem State.finalizeStream_step (s : State) (k : Fin 3) (w : Fin 32) (i : Nat) (run : Running) (source : Source) (c : Chunk)
    (hc : s.chunk? w i = some c) (hg : c.state ≠ .good) :
    StreamStep s (s.finalizeStream k w i run source) k w i none
      (s.verdictOf w c.expected run.complete, c.expected, some run.complete, none)
      (s.reports.counters.judged (s.verdictOf w c.expected run.complete))
      ((s.win w).goodCount + (if s.verdictOf w c.expected run.complete = .good then 1 else 0))
      (s.badReport w source i (s.verdictOf w c.expected run.complete)) := by
  have freed := s.freeUnlink_step k w i c hc
  have work := (s.freeStream_work k).trans (State.unlink_work _ w i)
  unfold State.finalizeStream
  generalize ht : (s.freeStream k).unlink w i = t at freed work ⊢
  obtain ⟨d, hd, known⟩ := freed.chunk
  obtain ⟨state, expected, _, link⟩ : d.state = c.state ∧ d.expected = c.expected ∧ d.observed = c.observed ∧ d.link = none := by
    simpa [Chunk.known] using known
  obtain ⟨chunk, others, engine, counters, good, told⟩ :=
    t.verdict_spec w i run.complete source d hd (by rw [state]; exact hg)
  simp only [work.verdictOf, work.badReport, expected, link, freed.counters, freed.goodCount] at chunk counters good told
  refine ⟨chunk, fun u j h => (freed.others u j h).trans (congrArg (Option.map Chunk.known) (others u j h)), fun j => ?_, ?_, ?_,
    counters, good, by simpa using freed.told.trans told⟩
  · rw [State.stream, engine]; exact freed.streams j
  · rw [engine]; exact freed.recency
  · rw [engine]; exact freed.readback

/-- A stream that has digested up to its frontier short of the chunk's end goes on (R75, R103, R107). -/
theorem State.advanceStream_short (s : State) (k : Fin 3) (x : StreamCtx) (source : Source)
    (h : x.frontier ≠ (s.win x.window).body.chunkLen x.chunk) : s.advanceStream k x source = s.moveStreamToFront k x := by
  rw [State.advanceStream, if_neg h]

/-- A stream that has digested up to the chunk's end is complete (R82, R103, R109). -/
theorem State.advanceStream_whole (s : State) (k : Fin 3) (x : StreamCtx) (source : Source)
    (h : x.frontier = (s.win x.window).body.chunkLen x.chunk) :
    s.advanceStream k x source = s.finalizeStream k x.window x.chunk x.run source := by
  rw [State.advanceStream, if_pos h]

/-! ### The start of a stream in a FREE context (R74, R100, R106) -/

theorem State.freeContext_of (s : State) (k : Fin 3) (hk : s.stream k = none) (hj : ∀ j : Fin 3, j < k → (s.stream j).isSome = true) :
    s.freeContext = some k := by
  unfold State.freeContext
  match k with
  | 0 => simp [hk]
  | 1 =>
    have h0 := hj 0 (by decide)
    simp [hk, Option.isNone_iff_eq_none, Option.isSome_iff_ne_none.1 h0]
  | 2 =>
    have h0 := hj 0 (by decide)
    have h1 := hj 1 (by decide)
    simp [hk, Option.isSome_iff_ne_none.1 h0, Option.isSome_iff_ne_none.1 h1]

theorem State.freeContext_none (s : State) (h : ∀ k, (s.stream k).isSome = true) : s.freeContext = none := by
  simp [State.freeContext, Option.isSome_iff_ne_none.1 (h 0), Option.isSome_iff_ne_none.1 (h 1),
    Option.isSome_iff_ne_none.1 (h 2)]

/-- The context that a starting program stream of these bytes holds (R100). -/
def startedStream (w : Fin 32) (i : Nat) (bytes : List Byte) : StreamCtx :=
  { kind := .program, window := w, chunk := i, frontier := bytes.length, run := Running.start.absorb bytes }

/-- A program stream starts in `roomy`, which is the state itself if a context is FREE, and else behind an eviction. -/
theorem State.startProgramStream_of_roomy {s roomy : State} {k : Fin 3} (w : Fin 32) (i : Nat) (bytes : List Byte)
    (hr : roomy = if s.freeContext.isSome then s else s.evict) (hk : roomy.freeContext = some k) :
    s.startProgramStream w i bytes =
      ((roomy.modChunk w i fun c => { c with state := .filling, link := some (.stream k) }).moveStreamToFront k
        (startedStream w i bytes)).advanceStream k (startedStream w i bytes) .stream := by
  simp only [State.startProgramStream, ← hr, hk]
  rfl

/-- Context `k` takes a chunk for `x`, as `f` writes the chunk's record, and has not advanced yet. -/
def State.taking (k : Fin 3) (x : StreamCtx) (f : Chunk → Chunk) (s : State) : State :=
  (s.modChunk x.window x.chunk f).moveStreamToFront k x

theorem State.taking_work (s : State) (k : Fin 3) (x : StreamCtx) (f : Chunk → Chunk) : ChunkWork s (s.taking k x f) :=
  (s.modChunk_work _ _ _).trans (State.moveStreamToFront_work _ k x)

/-- A stream that starts and does not reach the chunk's end (R74, R100, R106). -/
theorem State.taking_advance_short (s : State) (k : Fin 3) (x : StreamCtx) (f : Chunk → Chunk) (source : Source) (c : Chunk)
    (hc : s.chunk? x.window x.chunk = some c) (h : x.frontier ≠ (s.win x.window).body.chunkLen x.chunk) :
    StreamStep s ((s.taking k x f).advanceStream k x source) k x.window x.chunk (some x) (f c).known s.reports.counters
      (s.win x.window).goodCount [] := by
  have begins : StreamStep s (s.taking k x f) k x.window x.chunk (some x) (f c).known s.reports.counters
    (s.win x.window).goodCount [] := s.takeStream_step k x _ _ c f hc
  obtain ⟨d, hd, known⟩ := begins.chunk
  rw [State.advanceStream_short _ _ _ _ fun e => h (e.trans ((s.taking_work k x f).chunkLen _ _))]
  have both := begins.trans ((s.taking k x f).moveStreamToFront_step k x _ _ d hd)
  rw [known, begins.counters, begins.goodCount] at both
  exact both

/-- A stream that starts and reaches the chunk's end at once (R74, R82, R106, R109). -/
theorem State.taking_advance_whole (s : State) (k : Fin 3) (x : StreamCtx) (f : Chunk → Chunk) (source : Source) (c : Chunk)
    (hc : s.chunk? x.window x.chunk = some c) (hg : (f c).state ≠ .good) (he : (f c).expected = c.expected)
    (h : x.frontier = (s.win x.window).body.chunkLen x.chunk) :
    let st := s.verdictOf x.window c.expected x.run.complete
    StreamStep s ((s.taking k x f).advanceStream k x source) k x.window x.chunk none
      (st, c.expected, some x.run.complete, none) (s.reports.counters.judged st)
      ((s.win x.window).goodCount + (if st = .good then 1 else 0)) (s.badReport x.window source x.chunk st) := by
  intro st
  have begins : StreamStep s (s.taking k x f) k x.window x.chunk (some x) (f c).known s.reports.counters
    (s.win x.window).goodCount [] := s.takeStream_step k x _ _ c f hc
  have work := s.taking_work k x f
  obtain ⟨d, hd, known⟩ := begins.chunk
  obtain ⟨state, expected, _⟩ : d.state = (f c).state ∧ d.expected = (f c).expected ∧ _ := by
    simpa only [Chunk.known, Prod.mk.injEq] using known
  rw [State.advanceStream_whole _ _ _ _ (h.trans (work.chunkLen _ _).symm)]
  have both := begins.trans ((s.taking k x f).finalizeStream_step k _ _ x.run source d hd (by rw [state]; exact hg))
  simp only [work.verdictOf, work.badReport, expected, he, begins.counters, begins.goodCount, List.nil_append] at both
  exact both

/-- The state in which a program stream has begun but not advanced. -/
def State.begun (k : Fin 3) (w : Fin 32) (i : Nat) (bytes : List Byte) (roomy : State) : State :=
  roomy.taking k (startedStream w i bytes) fun c => { c with state := .filling, link := some (.stream k) }

theorem State.begun_work (roomy : State) (k : Fin 3) (w : Fin 32) (i : Nat) (bytes : List Byte) :
    ChunkWork roomy (roomy.begun k w i bytes) := roomy.taking_work _ _ _

/-- A program stream that starts and does not reach the chunk's end (R74, R100). -/
theorem State.begun_advance_short (roomy : State) (k : Fin 3) (w : Fin 32) (i : Nat) (bytes : List Byte) (c : Chunk)
    (hc : roomy.chunk? w i = some c) (h : bytes.length ≠ (roomy.win w).body.chunkLen i) :
    StreamStep roomy ((roomy.begun k w i bytes).advanceStream k (startedStream w i bytes) .stream) k w i
      (some (startedStream w i bytes)) (.filling, c.expected, c.observed, some (.stream k)) roomy.reports.counters
      (roomy.win w).goodCount [] :=
  roomy.taking_advance_short k (startedStream w i bytes) _ .stream c hc h

/-- A program stream that starts and reaches the chunk's end at once (R74, R82). -/
theorem State.begun_advance_whole (roomy : State) (k : Fin 3) (w : Fin 32) (i : Nat) (bytes : List Byte) (c : Chunk)
    (hc : roomy.chunk? w i = some c) (h : bytes.length = (roomy.win w).body.chunkLen i) :
    let digest := (Running.start.absorb bytes).complete
    let st := roomy.verdictOf w c.expected digest
    StreamStep roomy ((roomy.begun k w i bytes).advanceStream k (startedStream w i bytes) .stream) k w i none
      (st, c.expected, some digest, none) (roomy.reports.counters.judged st)
      ((roomy.win w).goodCount + (if st = .good then 1 else 0)) (roomy.badReport w .stream i st) :=
  roomy.taking_advance_whole k (startedStream w i bytes) (fun c => { c with state := .filling, link := some (.stream k) }) .stream c
    hc (show ChunkState.filling ≠ .good by decide) rfl h

end Sys2Proof.Machine
end

section
/-! Program events at their forwarding (R73 to R79): eviction, and how a PROGRAM on a chunk ends, whatever it did to the chunk. -/

namespace Sys2Proof.Machine

/-! ### How a program event ends -/

/-- The chunk records, contexts, counters and window flags that stand from the work of an event to the end of its step. -/
structure EventEnd (u t : State) : Prop where
  known : ∀ w i, sameChunk u t w i
  engine : t.engine = u.engine
  counters : t.reports.counters = u.reports.counters
  goodCount : ∀ w, (t.win w).goodCount = (u.win w).goodCount
  dipTouched : ∀ w, (t.win w).dipTouched = (u.win w).dipTouched

theorem EventEnd.stream {u t : State} (h : EventEnd u t) (k : Fin 3) : t.stream k = u.stream k := by
  simp only [State.stream, h.engine]

theorem sameChunk.knows {s t : State} {w : Fin 32} {i : Nat} {k : ChunkState × Option Digest × Option Digest × Option Link}
    (h : sameChunk s t w i) (hk : ∃ d, s.chunk? w i = some d ∧ d.known = k) : ∃ d, t.chunk? w i = some d ∧ d.known = k := by
  obtain ⟨d, hd, rfl⟩ := hk
  rw [sameChunk, hd] at h
  obtain ⟨e, he, hek⟩ := Option.map_eq_some_iff.1 h
  exact ⟨e, he, hek⟩

/-- Closing an event and what comes behind it keep what the event made (R72). -/
theorem EventEnd.of_close {u t : State} {w : Fin 32} {n : Nat} (h : Behind (u.closeEvent w n) t) : EventEnd u t := by
  obtain ⟨chunks, engine, counters, _, flags⟩ := u.closeEvent_spec w n
  refine ⟨fun v i => ?_, h.engine.trans engine, by rw [h.reports, counters], fun v => ?_, fun v => ?_⟩
  · exact sameChunk.trans (congrArg (Option.map Chunk.known) (chunks v i)) (h.known v i)
  · rw [h.goodCount, (flags v).1]
  · rw [h.dipTouched, (flags v).2.1]

/-- A PROGRAM that lands on a chunk: the work of its event leads to `u`, and its step ends with the event's reports behind those
raised in between (R9, R72, R120). -/
theorem exec_program_event {s u : State} {c : Collected} {w : Fin 32} {l : Landing} {raised : List Report}
    (hc : s.bridge.collected = some c) (hp : c.cls = .program) (hn : c.len ≠ 0) (hw : s.windowAt (pageBase c.addr) = some w)
    (hl : (s.win w).body.landing c.addr c.len = some l) (work : ChunkWork (s.touch c) u)
    (event : (s.touch c).programEvent w l c.data = u.closeEvent w (s.win w).goodCount) (hr : reported s u raised)
    (hf : ∀ v, (u.win v).checkReportWanted = (s.win v).checkReportWanted) :
    ∃ t, exec .programForward s = .next t ∧ forwarded s t (landingRanges c.addr c.len) ∧ sameOutsideChunks s t ∧
      (quietRestarted s t fun v => v = w) ∧ EventEnd u t ∧ tells s t [w] raised [] := by
  have run := exec_programForward_window hc hp hn hw
  simp only [hl, event] at run
  have behind := (u.closeEvent w (s.win w).goodCount).settleProgram_behind w
  obtain ⟨bridge, outside, quiet⟩ := forwarded_program (w := w) hp (work.trans (u.closeEvent_work w (s.win w).goodCount))
  exact ⟨_, run, bridge, outside, quiet, .of_close behind, behind.tells (tells_closeEvent w hr hf)⟩

theorem State.programEvent_normal (s : State) (w : Fin 32) (l : Landing) (data : List Byte) (h : s.supply.state = .normal) :
    s.programEvent w l data = (s.programChunk w l data).closeEvent w (s.win w).goodCount := by
  rw [State.programEvent, if_pos h]

theorem State.programEvent_away (s : State) (w : Fin 32) (l : Landing) (data : List Byte) (h : s.supply.state ≠ .normal) :
    s.programEvent w l data = ((s.disturb w l.chunk).setDipTouched w).closeEvent w (s.win w).goodCount := by
  rw [State.programEvent, if_neg h]

/-! ### Programs outside a stream -/

/-- The chunk states a program disturbs whatever it brings (R76 to R78). -/
theorem State.programChunk_disturbs (s : State) (w : Fin 32) (l : Landing) (data : List Byte) (ch : Chunk)
    (hc : s.chunk? w l.chunk = some ch)
    (h : ch.state ∈ [ChunkState.unchecked, .checking, .computed, .good, .bad] ∨
      (ch.state = .erased ∧ (l.offset ≠ 0 ∨ l.wraps = true)) ∨
      (ch.state = .filling ∧ ∀ k x, ch.link = some (.stream k) → s.stream k = some x → l.offset ≠ x.frontier ∨ l.wraps = true)) :
    s.programChunk w l data = s.disturb w l.chunk := by
  rcases h with h | ⟨h, off⟩ | ⟨h, off⟩
  · simp only [List.mem_cons, List.not_mem_nil, or_false] at h
    rcases h with h | h | h | h | h <;> simp only [State.programChunk, hc, h]
  · have : ¬(l.offset = 0 ∧ l.wraps = false) := by
      rintro ⟨h0, hw⟩
      exact off.elim (fun n => n h0) fun n => absurd (hw.symm.trans n) (by decide)
    simp only [State.programChunk, hc, h, if_neg this]
  · simp only [State.programChunk, hc, h, State.chunkStream, Option.bind_some]
    cases hl : ch.link with
    | none => rfl
    | some link =>
      cases link with
      | readback => rfl
      | stream k =>
        cases hx : s.stream k with
        | none => simp only [hx, Option.map_none]
        | some x =>
          have : ¬(l.offset = x.frontier ∧ l.wraps = false) := by
            rintro ⟨h0, hw⟩
            exact (off k x hl hx).elim (fun n => n h0) fun n => absurd (hw.symm.trans n) (by decide)
          simp only [hx, Option.map_some, if_neg this]

theorem State.setDipTouched_spec (s : State) (w : Fin 32) :
    (∀ u i, (s.setDipTouched w).chunk? u i = s.chunk? u i) ∧
      (∀ u, ((s.setDipTouched w).win u).goodCount = (s.win u).goodCount ∧
        ((s.setDipTouched w).win u).checkReportWanted = (s.win u).checkReportWanted) ∧
      ((s.setDipTouched w).win w).dipTouched = true := by
  refine ⟨fun u i => State.chunk?_modWin_body s w _ rfl u i, fun u => ?_, ?_⟩
  · simp only [State.setDipTouched, State.win_modWin]
    split
    · next h => rw [h]; exact ⟨rfl, rfl⟩
    · exact ⟨rfl, rfl⟩
  · simp only [State.setDipTouched, State.win_modWin, if_true]

/-- A program outside a stream is its chunk's disturbance, with the window dip-touched outside NORMAL (R76 to R79, R150). -/
def State.unfollowed (w : Fin 32) (i : Nat) (s : State) : State :=
  if s.supply.state = .normal then s.disturb w i else (s.disturb w i).setDipTouched w

theorem State.unfollowed_spec (s : State) (w : Fin 32) (i : Nat) (c : Chunk) (hc : s.chunk? w i = some c) :
    (∃ d, (s.unfollowed w i).chunk? w i = some d ∧ d.known = (.unchecked, c.expected, none, none)) ∧
      (∀ u j, (u, j) ≠ (w, i) → (s.unfollowed w i).chunk? u j = s.chunk? u j) ∧
      (s.unfollowed w i).engine = (s.disturb w i).engine ∧ (s.unfollowed w i).reports = (s.disturb w i).reports ∧
      ((s.unfollowed w i).win w).goodCount = ((s.disturb w i).win w).goodCount ∧
      ((s.unfollowed w i).win w).dipTouched = ((s.win w).dipTouched || decide (s.supply.state ≠ .normal)) ∧
      (∀ u, ((s.unfollowed w i).win u).checkReportWanted = (s.win u).checkReportWanted) ∧ ChunkWork s (s.unfollowed w i) := by
  obtain ⟨chunk, others, _⟩ := s.disturb_spec w i c hc
  have told := s.disturb_told w i
  unfold State.unfollowed
  split
  · next h => exact ⟨⟨_, chunk, rfl⟩, others, rfl, rfl, rfl, by simp [told.dipTouched, h], told.checkReportWanted,
      s.disturb_work w i⟩
  · next h =>
    obtain ⟨chunks, flags, dip⟩ := (s.disturb w i).setDipTouched_spec w
    exact ⟨⟨_, (chunks _ _).trans chunk, rfl⟩, fun u j hne => (chunks _ _).trans (others u j hne), rfl, rfl, (flags w).1,
      by simp [dip, h], fun u => (flags u).2.trans (told.checkReportWanted u),
      (s.disturb_work w i).trans (State.setDipTouched_work _ w)⟩

/-- Settles O17: the event is the chunk's disturbance, by `State.programChunk_disturbs`. -/
theorem programOutsideAStreamMakesItsChunkUnchecked : Obligations.ProgramOutsideAStreamMakesItsChunkUnchecked := by
  intro s c w l ch hc hp hn hw hl hch outside
  have hch' : (s.touch c).chunk? w l.chunk = some ch := hch
  obtain ⟨_, _, streams, readback, counters, good⟩ := (s.touch c).disturb_spec w l.chunk ch hch'
  obtain ⟨chunk, others, engine, reports, good', dip, wanted, work⟩ := (s.touch c).unfollowed_spec w l.chunk ch hch'
  have event : (s.touch c).programEvent w l c.data =
      ((s.touch c).unfollowed w l.chunk).closeEvent w (s.win w).goodCount := by
    by_cases normal : (s.touch c).supply.state = .normal
    · rw [State.programEvent_normal _ _ _ _ normal, State.unfollowed, if_pos normal,
        (s.touch c).programChunk_disturbs w l c.data ch hch' (outside.resolve_left fun n => n normal)]
      rfl
    · rw [State.programEvent_away _ _ _ _ normal, State.unfollowed, if_neg normal]
      rfl
  have silent : reported s ((s.touch c).unfollowed w l.chunk) [] := by
    have told := ((s.touch c).disturb_told w l.chunk).reported
    rw [reported, ← reports] at told
    exact told
  obtain ⟨t, run, bridge, outsideSame, quiet, ends, tell⟩ := exec_program_event hc hp hn hw hl work event silent wanted
  refine ⟨t, run, bridge, outsideSame, (ends.known _ _).knows chunk, fun u j hne => ?_, ?_, ?_, tell, quiet, fun k => ?_, ?_, ?_⟩
  · exact sameChunk.trans (congrArg (Option.map Chunk.known) (others u j hne)) (ends.known u j)
  · rw [ends.goodCount, good', good]; rfl
  · rw [ends.dipTouched, dip]; rfl
  · rw [ends.stream, State.stream, engine]; exact streams k
  · rw [ends.engine, engine]; exact readback
  · rw [ends.counters, reports]; exact counters

/-! ### Streams in a forwarded PROGRAM -/

/-- What stands at the end of a PROGRAM that was a step of a stream. -/
theorem StreamStep.at_end {s u t : State} {k : Fin 3} {w : Fin 32} {i : Nat} {holds : Option StreamCtx}
    {known : ChunkState × Option Digest × Option Digest × Option Link} {counters : Counters} {good : Nat} {raised : List Report}
    (step : StreamStep s u k w i holds known counters good raised) (ends : EventEnd u t) :
    (∃ d, t.chunk? w i = some d ∧ d.known = known) ∧ (∀ v j, (v, j) ≠ (w, i) → sameChunk s t v j) ∧
      (∀ j, t.stream j = if j = k then holds else s.stream j) ∧
      (t.engine.recency =
        if holds.isSome = true then k :: s.engine.recency.filter (· ≠ k) else s.engine.recency.filter (· ≠ k)) ∧
      t.engine.readback = s.engine.readback ∧ t.reports.counters = counters ∧ (t.win w).goodCount = good :=
  ⟨(ends.known w i).knows step.chunk, fun v j h => (step.others v j h).trans (ends.known v j),
    fun j => (ends.stream j).trans (step.streams j), by rw [ends.engine]; exact step.recency,
    by rw [ends.engine]; exact step.readback, ends.counters.trans step.counters, (ends.goodCount w).trans step.goodCount⟩

theorem State.verdictOf_open (s : State) {w : Fin 32} (h : (s.win w).body.isLoaded = false) (e : Option Digest) (d : Digest) :
    s.verdictOf w e d = .computed := if_pos h

theorem State.verdictOf_match (s : State) {w : Fin 32} {e : Option Digest} {d : Digest} (h : (s.win w).body.isLoaded = true)
    (he : e = some d) : s.verdictOf w e d = .good := by
  rw [State.verdictOf, if_neg (by simp [h]), if_pos he]

theorem State.verdictOf_mismatch (s : State) {w : Fin 32} {e : Option Digest} {d : Digest} (h : (s.win w).body.isLoaded = true)
    (he : e ≠ some d) : s.verdictOf w e d = .bad := by
  rw [State.verdictOf, if_neg (by simp [h]), if_neg he]

/-- The three verdicts of the manual, from the one form `StreamStep` carries (R82, R91). -/
theorem verdict_cases {s t : State} {w : Fin 32} {i : Nat} {expected : Option Digest} {digest : Digest} {counters : Counters}
    {source : Source} {st : ChunkState} (hst : st = s.verdictOf w expected digest)
    (chunk : ∃ d, t.chunk? w i = some d ∧ d.known = (st, expected, some digest, none))
    (hc : t.reports.counters = counters.judged st) (hg : (t.win w).goodCount = (s.win w).goodCount + (if st = .good then 1 else 0))
    (tell : tells s t [w] (s.badReport w source i st) []) :
    ((s.win w).body.isLoaded = false →
      (∃ d, t.chunk? w i = some d ∧ d.known = (.computed, expected, some digest, none)) ∧
        t.reports.counters = counters ∧ tells s t [w] [] []) ∧
    ((s.win w).body.isLoaded = true → expected = some digest →
      (∃ d, t.chunk? w i = some d ∧ d.known = (.good, expected, some digest, none)) ∧
        (t.win w).goodCount = (s.win w).goodCount + 1 ∧
        t.reports.counters = { counters with goodVerdicts := countUp counters.goodVerdicts } ∧ tells s t [w] [] []) ∧
    ((s.win w).body.isLoaded = true → expected ≠ some digest →
      (∃ d, t.chunk? w i = some d ∧ d.known = (.bad, expected, some digest, none)) ∧
        (t.win w).goodCount = (s.win w).goodCount ∧
        t.reports.counters = { counters with badVerdicts := countUp counters.badVerdicts } ∧
        tells s t [w] [.chunkBad w source i ((s.win w).body.chunkLen i)] []) := by
  subst hst
  refine ⟨fun opened => ?_, fun loaded he => ?_, fun loaded he => ?_⟩
  · rw [s.verdictOf_open opened] at chunk hc tell
    exact ⟨chunk, hc, tell⟩
  · rw [s.verdictOf_match loaded he] at chunk hc hg tell
    exact ⟨chunk, hg, hc, tell⟩
  · rw [s.verdictOf_mismatch loaded he] at chunk hc hg tell
    exact ⟨chunk, hg, hc, tell⟩

theorem State.programChunk_frontier (s : State) (w : Fin 32) (l : Landing) (data : List Byte) (ch : Chunk) (k : Fin 3)
    (x : StreamCtx) (hc : s.chunk? w l.chunk = some ch) (hs : ch.state = .filling) (hk : ch.link = some (.stream k))
    (hx : s.stream k = some x) (ho : l.offset = x.frontier) (hw : l.wraps = false) :
    s.programChunk w l data = s.advanceStream k (x.feed (data.take l.count)) .stream := by
  simp only [State.programChunk, hc, hs, State.chunkStream, Option.bind_some, hk, hx, Option.map_some, ho, hw, and_self, if_true]

/-- The image bytes of a landing are `l.count` bytes of the data: a landing's count is within the command's length (R40). -/
theorem WinBody.landing_count_le (b : WinBody) (a len : Nat) (l : Landing) (h : b.landing a len = some l) : l.count ≤ len := by
  have most : ∀ o n, landingCount a len o n ≤ len := by
    intro o n
    have page : a % Config.pageBytes < Config.pageBytes := Nat.mod_lt _ (by decide)
    unfold landingCount
    split
    · next wraps =>
      have := of_decide_eq_true wraps
      omega
    · exact Nat.min_le_left _ _
  unfold WinBody.landing at h
  split at h
  · simp only [Option.ite_none_right_eq_some, Option.some.injEq] at h
    obtain ⟨_, rfl⟩ := h
    dsimp only
    split
    · exact most _ _
    · exact Nat.zero_le _
  · cases h

/-- Settles O19: `State.advanceStream_short` and `State.finalizeStream_step`. -/
theorem programAtTheFrontierAdvancesOrFinalizesTheStream : Obligations.ProgramAtTheFrontierAdvancesOrFinalizesTheStream := by
  intro s c w l ch k x digest hc hp hn hlen hw hl hch normal filling link hx xw xi off wraps hd
  subst xw
  have hch' : (s.touch c).chunk? x.window x.chunk = some ch := by rw [xi]; exact hch
  have fed : (c.data.take l.count).length = l.count := by
    rw [List.length_take, hlen]
    exact Nat.min_eq_left (WinBody.landing_count_le _ _ _ _ hl)
  have frontier : (x.feed (c.data.take l.count)).frontier = x.frontier + l.count := by rw [StreamCtx.feed, fed]
  have program := (s.touch c).programChunk_frontier x.window l c.data ch k x hch filling link hx off wraps
  have event := (s.touch c).programEvent_normal x.window l c.data normal
  rw [program] at event
  have work := (s.touch c).advanceStream_work k (x.feed (c.data.take l.count)) .stream
  by_cases whole : x.frontier + l.count = (s.win x.window).body.chunkLen l.chunk
  · have run := State.advanceStream_whole (s.touch c) k (x.feed (c.data.take l.count)) .stream (by
      rw [frontier, whole, ← xi]; rfl)
    rw [run] at event work
    have step := (s.touch c).finalizeStream_step k x.window x.chunk (x.feed (c.data.take l.count)).run .stream ch hch'
      (by rw [filling]; decide)
    obtain ⟨t, exec, bridge, outside, quiet, ends, tell⟩ := exec_program_event hc hp hn hw hl work event
      step.told.reported step.told.checkReportWanted
    obtain ⟨chunk, others, streams, recency, readback, counters, good⟩ := step.at_end ends
    refine ⟨t, exec, bridge, outside, quiet, ?_, fun j hj => ?_, readback, fun short => absurd whole short, fun _ => ⟨?_, recency, ?_⟩⟩
    · rw [← xi]; exact others
    · rw [streams, if_neg hj]; rfl
    · rw [streams, if_pos rfl]
    · rw [← xi, hd]
      exact verdict_cases rfl chunk counters good tell
  · have run := State.advanceStream_short (s.touch c) k (x.feed (c.data.take l.count)) .stream (by
      rw [frontier]; intro e; exact whole (by rw [e, ← xi]; rfl))
    rw [run] at event work
    have step := (s.touch c).moveStreamToFront_step k (x.feed (c.data.take l.count)) x.window x.chunk ch hch'
    obtain ⟨t, exec, bridge, outside, quiet, ends, tell⟩ := exec_program_event hc hp hn hw hl work event
      step.told.reported step.told.checkReportWanted
    obtain ⟨⟨d, hd', known⟩, others, streams, recency, readback, counters, good⟩ := step.at_end ends
    refine ⟨t, exec, bridge, outside, quiet, ?_, fun j hj => ?_, readback, fun _ => ⟨?_, ?_, recency, counters, tell⟩,
      fun e => absurd e whole⟩
    · rw [← xi]; exact others
    · rw [streams, if_neg hj]; rfl
    · rw [sameChunk, ← xi, hd', show s.chunk? x.window x.chunk = some ch from hch', Option.map_some, Option.map_some, known]
    · rw [streams, if_pos rfl, StreamCtx.feed, fed]

/-! ### Eviction (R86, R101) -/

/-- Context `k` holds a read stream, as `State.victim` asks it. -/
def State.isReadStream (s : State) (k : Fin 3) : Bool :=
  match s.stream k with
  | some x => decide (x.kind = .read)
  | none => false

theorem State.victim_eq (s : State) :
    s.victim = (s.engine.recency.reverse.find? s.isReadStream).or s.engine.recency.getLast? := rfl

theorem State.isReadStream_iff (s : State) (k : Fin 3) : s.isReadStream k = true ↔ s.holdsReadStream k := by
  unfold State.isReadStream State.holdsReadStream
  cases s.stream k <;> simp

/-- With no context FREE the victim of an eviction is the context that `takesContext` names (R101). -/
theorem State.victim_of_takesContext (s : State) (k : Fin 3) (front back : List (Fin 3))
    (recency : s.engine.recency = front ++ k :: back)
    (h : (s.holdsReadStream k ∧ ∀ j ∈ back, ¬s.holdsReadStream j) ∨ (back = [] ∧ ∀ j, ¬s.holdsReadStream j)) :
    s.victim = some k := by
  rw [s.victim_eq, recency]
  rcases h with ⟨read, older⟩ | ⟨rfl, none⟩
  · have skip : back.reverse.find? s.isReadStream = none := by
      rw [List.find?_eq_none]
      intro j hj
      rw [s.isReadStream_iff]
      exact older j (List.mem_reverse.1 hj)
    simp [List.find?_append, skip, (s.isReadStream_iff k).2 read]
  · have skip : (front ++ [k]).reverse.find? s.isReadStream = .none := by
      rw [List.find?_eq_none]
      intro j _
      rw [s.isReadStream_iff]
      exact none j
    rw [skip, List.getLast?_concat, Option.none_or]

/-- What an eviction of context `k` does, which holds `x`: its chunk is UNCHECKED with no context (R86), and the context is FREE. -/
structure Evicted (s t : State) (k : Fin 3) (x : StreamCtx) (victim : Chunk) : Prop where
  chunk : ∃ d, t.chunk? x.window x.chunk = some d ∧
    d.known = (.unchecked, victim.expected, if x.kind = .read then victim.observed else none, none)
  others : ∀ u j, (u, j) ≠ (x.window, x.chunk) → t.chunk? u j = s.chunk? u j
  streams : ∀ j, t.stream j = if j = k then none else s.stream j
  recency : t.engine.recency = s.engine.recency.filter (· ≠ k)
  readback : t.engine.readback = s.engine.readback
  counters : t.reports.counters = { s.reports.counters with evictions := countUp s.reports.counters.evictions }
  goodCount : ∀ w, (t.win w).goodCount = (s.win w).goodCount
  told : Told s t []

/-- A move of a chunk leaves every other window (R71, R89). -/
theorem State.moveChunk_win_of_ne (s : State) (w : Fin 32) (i : Nat) (st : ChunkState) (d : Option Digest) {u : Fin 32}
    (h : u ≠ w) : (s.moveChunk w i st d).win u = s.win u := by
  cases hc : s.chunk? w i with
  | none => rw [s.moveChunk_none w i st d hc]
  | some c =>
    simp only [State.moveChunk, hc]
    split <;> simp [State.removeEntry, State.modChunk, Ne.symm h]

theorem State.countEviction_told (s : State) : Told s s.countEviction [] := s.modCounters_told _

theorem State.evict_evicted (s : State) (k : Fin 3) (x : StreamCtx) (victim : Chunk) (hk : s.victim = some k)
    (hx : s.stream k = some x) (hv : s.chunk? x.window x.chunk = some victim)
    (held : match x.kind with
      | .program => victim.state = .filling
      | .read => victim.state = .unchecked) : Evicted s s.evict k x victim := by
  have freed := s.countEviction.freeUnlink_step k x.window x.chunk victim hv
  have commutes : ((s.freeStream k).countEviction).unlink x.window x.chunk =
      ((s.countEviction).freeStream k).unlink x.window x.chunk := rfl
  have others : ∀ u j, (u, j) ≠ (x.window, x.chunk) →
      (((s.countEviction).freeStream k).unlink x.window x.chunk).chunk? u j = s.chunk? u j := by
    intro u j h
    rw [State.unlink, State.chunk?_modChunk_of_ne _ _ _ _ h]
    rfl
  have good : ∀ w, ((((s.countEviction).freeStream k).unlink x.window x.chunk).win w).goodCount = (s.win w).goodCount :=
    fun w => State.modChunk_goodCount _ _ _ _ _
  obtain ⟨d, hd, known⟩ := freed.chunk
  cases kind : x.kind with
  | read =>
    have evict : s.evict = ((s.countEviction).freeStream k).unlink x.window x.chunk := by
      simp only [State.evict, hk, hx, kind, commutes]
    rw [kind] at held
    dsimp only at held
    rw [evict]
    refine ⟨⟨d, hd, ?_⟩, others, freed.streams, freed.recency, freed.readback, freed.counters, good,
      s.countEviction_told.silent freed.told⟩
    rw [known, held, if_pos kind]
  | program =>
    have evict : s.evict =
        (((s.countEviction).freeStream k).unlink x.window x.chunk).moveChunk x.window x.chunk .unchecked none := by
      simp only [State.evict, hk, hx, kind, commutes]
    rw [kind] at held
    dsimp only at held
    obtain ⟨chunk, others', engine, reports, good'⟩ := State.moveChunk_spec _ x.window x.chunk .unchecked none d hd
    obtain ⟨state, expected, _, link⟩ : d.state = victim.state ∧ d.expected = victim.expected ∧ d.observed = victim.observed ∧
        d.link = none := by simpa [Chunk.known] using known
    rw [evict]
    refine ⟨⟨_, chunk, ?_⟩, fun u j h => (others' u j h).trans (others u j h), fun j => ?_, ?_, ?_, ?_, fun w => ?_,
      s.countEviction_told.silent (freed.told.silent (State.moveChunk_told _ _ _ _ _))⟩
    · simp [Chunk.known, expected, link, kind]
    · rw [State.stream, engine]; exact freed.streams j
    · rw [engine]; exact freed.recency
    · rw [engine]; exact freed.readback
    · rw [reports]; exact freed.counters
    · by_cases hw : w = x.window
      · subst hw
        rw [good', state, held]
        simp [good]
      · rw [State.moveChunk_win_of_ne _ _ _ _ _ hw]
        exact good w

/-! ### The start of a program stream (R74, R100, R101) -/

/-- `roomy` is the state with context `k` FREE for a starting program stream: an eviction happened if `k` was BUSY, and nothing
else. -/
structure Roomy (s roomy : State) (k : Fin 3) : Prop where
  context : roomy.freeContext = some k
  work : ChunkWork s roomy
  told : Told s roomy []
  victim : ∀ x victim, s.stream k = some x → s.chunk? x.window x.chunk = some victim →
    ∃ d, roomy.chunk? x.window x.chunk = some d ∧
      d.known = (.unchecked, victim.expected, if x.kind = .read then victim.observed else none, none)
  others : ∀ u j, (∀ x, s.stream k = some x → (u, j) ≠ (x.window, x.chunk)) → roomy.chunk? u j = s.chunk? u j
  streams : ∀ j, j ≠ k → roomy.stream j = s.stream j
  recency : roomy.engine.recency.filter (· ≠ k) = s.engine.recency.filter (· ≠ k)
  readback : roomy.engine.readback = s.engine.readback
  counters : roomy.reports.counters =
    if (s.stream k).isSome then { s.reports.counters with evictions := countUp s.reports.counters.evictions }
    else s.reports.counters
  goodCount : ∀ w, (roomy.win w).goodCount = (s.win w).goodCount

theorem Roomy.of_free {s : State} {k : Fin 3} (hk : s.stream k = none) (hj : ∀ j : Fin 3, j < k → (s.stream j).isSome = true) :
    Roomy s s k where
  context := s.freeContext_of k hk hj
  work := .refl s
  told := .refl s
  victim x _ hx := by rw [hk] at hx; cases hx
  others _ _ _ := rfl
  streams _ _ := rfl
  recency := rfl
  readback := rfl
  counters := by simp [hk]
  goodCount _ := rfl

theorem Roomy.of_evict {s : State} {k : Fin 3} (law : ContextLaw s) (busy : ∀ j, (s.stream j).isSome = true)
    (hv : s.victim = some k) : Roomy s s.evict k := by
  obtain ⟨x, hx⟩ := Option.isSome_iff_exists.1 (busy k)
  obtain ⟨_, _, holds, _⟩ := law
  obtain ⟨victim, hc, _, held⟩ := holds k x hx
  have out := s.evict_evicted k x victim hv hx hc held
  refine ⟨State.freeContext_of _ k ?_ fun j hj => ?_, s.evict_work, out.told, fun y other hy ho => ?_, fun u j h => ?_,
    fun j hj => ?_, ?_, out.readback, ?_, out.goodCount⟩
  · rw [out.streams, if_pos rfl]
  · rw [out.streams, if_neg (Fin.ne_of_lt hj)]; exact busy j
  · obtain rfl : x = y := by rw [hx] at hy; exact Option.some.inj hy
    obtain rfl : victim = other := by rw [hc] at ho; exact Option.some.inj ho
    exact out.chunk
  · exact out.others u j (h x hx)
  · rw [out.streams, if_neg hj]
  · rw [out.recency]; simp [List.filter_filter]
  · rw [out.counters, hx]; rfl

/-- The context a starting program stream takes is made FREE (R100, R101). -/
theorem State.roomy_of_takesContext (s : State) (k : Fin 3) (law : ContextLaw s) (takes : s.takesContext k) :
    Roomy s (if s.freeContext.isSome then s else s.evict) k := by
  rcases takes with ⟨hk, hj⟩ | ⟨busy, front, back, recency, oldest⟩
  · have free := Roomy.of_free hk hj
    rw [free.context, if_pos Option.isSome_some]
    exact free
  · rw [s.freeContext_none busy, if_neg (by simp)]
    exact .of_evict law busy (s.victim_of_takesContext k front back recency oldest)

/-- The chunk of a stream is not the ERASED chunk of the program (R98). -/
theorem ContextLaw.stream_ne_erased {s : State} (law : ContextLaw s) {w : Fin 32} {i : Nat} {ch : Chunk}
    (hc : s.chunk? w i = some ch) (he : ch.state = .erased) (k : Fin 3) :
    ∀ x, s.stream k = some x → (w, i) ≠ (x.window, x.chunk) := by
  rintro x hx h
  obtain ⟨_, _, holds, _⟩ := law
  obtain ⟨c, hxc, _, held⟩ := holds k x hx
  simp only [Prod.mk.injEq] at h
  obtain ⟨rfl, rfl⟩ := h
  rw [hc] at hxc
  obtain rfl := Option.some.inj hxc
  rw [he] at held
  cases hk : x.kind <;> rw [hk] at held <;> exact absurd held (by decide)

/-- A PROGRAM at offset 0 of an ERASED chunk starts a stream in the context made FREE for it. -/
theorem State.programEvent_starts {s roomy : State} {k : Fin 3} (w : Fin 32) (l : Landing) (data : List Byte) (ch : Chunk)
    (hc : s.chunk? w l.chunk = some ch) (he : ch.state = .erased) (normal : s.supply.state = .normal) (off : l.offset = 0)
    (wraps : l.wraps = false) (hr : roomy = if s.freeContext.isSome then s else s.evict) (hk : roomy.freeContext = some k) :
    s.programEvent w l data =
      ((roomy.begun k w l.chunk (data.take l.count)).advanceStream k (startedStream w l.chunk (data.take l.count)) .stream).closeEvent
        w (s.win w).goodCount := by
  rw [s.programEvent_normal w l data normal]
  simp only [State.programChunk, hc, he, off, wraps, and_self, if_true]
  rw [State.startProgramStream_of_roomy w l.chunk (data.take l.count) hr hk]
  rfl

/-- The events of a started stream, behind the room made for it: its step in the context, and the end of the PROGRAM. -/
theorem exec_program_starts {s roomy : State} {c : Collected} {w : Fin 32} {l : Landing} {ch : Chunk} {k : Fin 3}
    {holds : Option StreamCtx} {known : ChunkState × Option Digest × Option Digest × Option Link} {counters : Counters} {good : Nat}
    {raised : List Report}
    (hc : s.bridge.collected = some c) (hp : c.cls = .program) (hn : c.len ≠ 0) (hw : s.windowAt (pageBase c.addr) = some w)
    (hl : (s.win w).body.landing c.addr c.len = some l) (hch : s.chunk? w l.chunk = some ch) (he : ch.state = .erased)
    (normal : s.supply.state = .normal) (off : l.offset = 0) (wraps : l.wraps = false)
    (hr : roomy = if (s.touch c).freeContext.isSome then s.touch c else (s.touch c).evict) (room : Roomy (s.touch c) roomy k)
    (step : StreamStep roomy ((roomy.begun k w l.chunk (c.data.take l.count)).advanceStream k
      (startedStream w l.chunk (c.data.take l.count)) .stream) k w l.chunk holds known counters good raised) :
    ∃ t, exec .programForward s = .next t ∧ forwarded s t (landingRanges c.addr c.len) ∧ sameOutsideChunks s t ∧
      (quietRestarted s t fun v => v = w) ∧ tells s t [w] raised [] ∧
      (∃ d, t.chunk? w l.chunk = some d ∧ d.known = known) ∧ (∀ v j, (v, j) ≠ (w, l.chunk) → sameChunk roomy t v j) ∧
      t.stream k = holds ∧ (∀ j, j ≠ k → t.stream j = s.stream j) ∧
      (t.engine.recency =
        if holds.isSome = true then k :: s.engine.recency.filter (· ≠ k) else s.engine.recency.filter (· ≠ k)) ∧
      t.engine.readback = s.engine.readback ∧ t.reports.counters = counters ∧ (t.win w).goodCount = good := by
  have event := State.programEvent_starts (s := s.touch c) w l c.data ch hch he normal off wraps hr room.context
  have work := (room.work.trans (roomy.begun_work k w l.chunk (c.data.take l.count))).trans
    (State.advanceStream_work _ k (startedStream w l.chunk (c.data.take l.count)) .stream)
  have told : Told (s.touch c) _ raised := room.told.trans step.told
  obtain ⟨t, run, bridge, outside, quiet, ends, tell⟩ := exec_program_event hc hp hn hw hl work event told.reported
    told.checkReportWanted
  obtain ⟨chunk, others, streams, recency, readback, hcount, hgood⟩ := step.at_end ends
  rw [room.recency] at recency
  refine ⟨t, run, bridge, outside, quiet, tell, chunk, others, by rw [streams, if_pos rfl], fun j hj => ?_, recency,
    readback.trans room.readback, hcount, hgood⟩
  rw [streams, if_neg hj, room.streams j hj]
  rfl

/-- Settles O18: `Roomy` for the context, `State.begun_advance_short` and `State.begun_advance_whole` for the stream. -/
theorem programAtOffsetZeroOfAnErasedChunkStartsAStream :
    Obligations.ProgramAtOffsetZeroOfAnErasedChunkStartsAStream := by
  refine ⟨fun s c w l ch k hc hp hn hlen hw hl hch normal he off wraps hk hj short => ?_,
    fun s c w l ch k digest counters law takes hc hp hn hlen hw hl hch normal he off wraps hd hcounters => ?_⟩
  · have fed : (c.data.take l.count).length = l.count := by
      rw [List.length_take, hlen]
      exact Nat.min_eq_left (WinBody.landing_count_le _ _ _ _ hl)
    have room : Roomy (s.touch c) (s.touch c) k := .of_free hk hj
    have step := (s.touch c).begun_advance_short k w l.chunk (c.data.take l.count) ch hch (by rw [fed]; exact short)
    obtain ⟨t, run, bridge, outside, quiet, tell, chunk, others, stream, streams, recency, readback, count, good⟩ :=
      exec_program_starts hc hp hn hw hl hch he normal off wraps (by rw [room.context]; rfl) room step
    refine ⟨t, run, bridge, outside, quiet, chunk, others, fun j => ?_, recency, readback, count, tell⟩
    by_cases hjk : j = k
    · rw [if_pos hjk, hjk, stream, startedStream, fed]
    · rw [if_neg hjk, streams j hjk]
  · have fed : (c.data.take l.count).length = l.count := by
      rw [List.length_take, hlen]
      exact Nat.min_eq_left (WinBody.landing_count_le _ _ _ _ hl)
    have law' : ContextLaw (s.touch c) := law
    have room := (s.touch c).roomy_of_takesContext k law' takes
    generalize hr : (if (s.touch c).freeContext.isSome then s.touch c else (s.touch c).evict) = roomy at room
    have apart := law.stream_ne_erased hch he k
    have hch' : roomy.chunk? w l.chunk = some ch := (room.others _ _ apart).trans hch
    have counts : roomy.reports.counters = counters := by rw [room.counters, hcounters]; rfl
    have length : (roomy.win w).body.chunkLen l.chunk = (s.win w).body.chunkLen l.chunk := room.work.chunkLen w l.chunk
    have victims : ∀ t, (∀ v j, (v, j) ≠ (w, l.chunk) → sameChunk roomy t v j) →
        (∀ x victim, s.stream k = some x → s.chunk? x.window x.chunk = some victim →
          ∃ d, t.chunk? x.window x.chunk = some d ∧
            d.known = (.unchecked, victim.expected, if x.kind = .read then victim.observed else none, none)) ∧
        ∀ u j, (u, j) ≠ (w, l.chunk) → (∀ x, s.stream k = some x → (u, j) ≠ (x.window, x.chunk)) → sameChunk s t u j := by
      intro t others
      refine ⟨fun x victim hx hv => ?_, fun u j h hx => ?_⟩
      · exact (others _ _ (Ne.symm (apart x hx))).knows (room.victim x victim hx hv)
      · exact sameChunk.trans (congrArg (Option.map Chunk.known) (room.others u j hx)) (others u j h)
    by_cases whole : l.count = (s.win w).body.chunkLen l.chunk
    · have step := roomy.begun_advance_whole k w l.chunk (c.data.take l.count) ch hch' (by rw [fed, whole, length])
      obtain ⟨t, run, bridge, outside, quiet, tell, chunk, others, stream, streams, recency, readback, count, good⟩ :=
        exec_program_starts hc hp hn hw hl hch he normal off wraps hr.symm room step
      obtain ⟨victim, rest⟩ := victims t others
      refine ⟨t, run, bridge, outside, quiet, readback, streams, victim, rest, fun n => absurd whole n,
        fun _ => ⟨stream, recency, ?_⟩⟩
      have digests : (Running.start.absorb (c.data.take l.count)).complete = digest := hd.symm
      simp only [room.work.verdictOf, room.work.badReport, room.goodCount, counts, digests] at chunk count good tell
      exact verdict_cases rfl chunk count good tell
    · have step := roomy.begun_advance_short k w l.chunk (c.data.take l.count) ch hch' (by rw [fed, length]; exact whole)
      obtain ⟨t, run, bridge, outside, quiet, tell, chunk, others, stream, streams, recency, readback, count, good⟩ :=
        exec_program_starts hc hp hn hw hl hch he normal off wraps hr.symm room step
      obtain ⟨victim, rest⟩ := victims t others
      refine ⟨t, run, bridge, outside, quiet, readback, streams, victim, rest,
        fun _ => ⟨chunk, ?_, recency, count.trans counts, tell⟩, fun e => absurd e whole⟩
      rw [stream, startedStream, fed]

end Sys2Proof.Machine
end

section
/-! The millisecond tick (R115): what each timer's share changes, and all of them together (O44). -/

namespace Sys2Proof.Machine

/-! ### A fold over windows that writes each window once -/

theorem allWindows_nodup : allWindows.Nodup := List.nodup_finRange 32

/-- A fold that writes window after window, each by what stands in it alone. -/
theorem State.win_foldl {f : State → Fin 32 → State} {g : Fin 32 → Window → Window}
    (hf : ∀ s w u, (f s w).win u = if w = u then g w (s.win w) else s.win u) {l : List (Fin 32)} (hl : l.Nodup) (s : State)
    (u : Fin 32) : (l.foldl f s).win u = if u ∈ l then g u (s.win u) else s.win u := by
  induction l generalizing s with
  | nil => simp
  | cons w l ih =>
    obtain ⟨hw, hl⟩ := List.nodup_cons.1 hl
    rw [List.foldl_cons, ih hl, hf]
    by_cases h : w = u
    · subst h; simp [hw]
    · simp [h, Ne.symm h]

/-! ### What the timers leave -/

/-- A timer took its share of a tick: chunk records, contexts, the parser and the bridge stand, the Check Scheduler but for its queue,
and the Report Writer but for reports raised. -/
structure TimerShare (s t : State) : Prop where
  engine : t.engine = s.engine
  parser : t.parser = s.parser
  bridge : t.bridge = s.bridge
  scheduler : t.scheduler = { s.scheduler with queue := t.scheduler.queue }
  reports : t.reports = { s.reports with queue := t.reports.queue, dropped := t.reports.dropped }
  known : ∀ w i, sameChunk s t w i

theorem TimerShare.refl (s : State) : TimerShare s s := ⟨rfl, rfl, rfl, rfl, rfl, fun _ _ => rfl⟩

theorem TimerShare.trans {s t u : State} (h : TimerShare s t) (k : TimerShare t u) : TimerShare s u where
  engine := k.engine.trans h.engine
  parser := k.parser.trans h.parser
  bridge := k.bridge.trans h.bridge
  scheduler := by rw [k.scheduler, h.scheduler]
  reports := by rw [k.reports, h.reports]
  known w i := (h.known w i).trans (k.known w i)

theorem TimerShare.foldl {α : Type} (f : State → α → State) (hf : ∀ s a, TimerShare s (f s a)) (l : List α) (s : State) :
    TimerShare s (l.foldl f s) := by
  induction l generalizing s with
  | nil => exact .refl s
  | cons a l ih => exact (hf s a).trans (ih _)

theorem State.modSupply_share (s : State) (f : Supply → Supply) : TimerShare s (s.modSupply f) :=
  ⟨rfl, rfl, rfl, rfl, rfl, fun _ _ => rfl⟩

theorem State.modWin_share (s : State) (w : Fin 32) (f : Window → Window) (hb : ∀ v, (f v).body = v.body) :
    TimerShare s (s.modWin w f) :=
  ⟨rfl, rfl, rfl, rfl, rfl, fun u i => congrArg _ (State.chunk?_modWin_body s w f (hb _) u i)⟩

theorem State.raise_share (s : State) (r : Report) : TimerShare s (s.raise r) :=
  ⟨rfl, rfl, rfl, rfl, by rw [s.raise_eq], fun _ _ => rfl⟩

theorem State.refill_share (s : State) : TimerShare s s.refill where
  engine := s.refill_queueWork.engine
  parser := s.refill_queueWork.chunks.parser
  bridge := s.refill_queueWork.chunks.bridge
  scheduler := s.refill_queueWork.chunks.scheduler
  reports := by rw [s.refill_queueWork.reports]
  known := s.refill_queueWork.known

theorem State.tickQuiet_share (s : State) (w : Fin 32) : TimerShare s (s.tickQuiet w) := by
  unfold State.tickQuiet
  split
  · exact .refl s
  · split
    · exact s.modWin_share w _ fun _ => rfl
    · exact s.modWin_share w _ fun _ => rfl

theorem State.convertDip_share (s : State) (w : Fin 32) : TimerShare s (s.convertDip w) := by
  unfold State.convertDip
  split
  · exact s.modWin_share w _ fun _ => rfl
  · exact .refl s

theorem State.enterNormal_share (now : Word32) (s : State) : TimerShare s (s.enterNormal now) := by
  simp only [State.enterNormal]
  refine .trans ?_ (State.modSupply_share _ _)
  refine .trans ?_ (State.raise_share _ _)
  refine .trans ?_ (State.refill_share _)
  exact (s.modSupply_share _).trans (TimerShare.foldl _ State.convertDip_share allWindows _)

theorem State.tickSettle_share (s : State) : TimerShare s s.tickSettle := by
  unfold State.tickSettle
  split
  · split
    · exact s.enterNormal_share _
    · exact s.modSupply_share _
  all_goals exact .refl s

/-! ### Quiet timers -/

/-- A quiet timer behind a tick (R120). -/
def quietTicked (q : Option Nat) : Option Nat := q.bind fun n => if n ≤ 1 then none else some (n - 1)

/-- One window behind a tick of its quiet timer (R120, R121). -/
def Window.tickedQuiet (v : Window) : Window :=
  match v.quiet with
  | none => v
  | some n => if n ≤ 1 then { v with quiet := none, checkWanted := true } else { v with quiet := some (n - 1) }

theorem Window.tickedQuiet_quiet (v : Window) : v.tickedQuiet.quiet = quietTicked v.quiet := by
  unfold Window.tickedQuiet quietTicked
  cases hq : v.quiet with
  | none => simp [hq]
  | some n =>
    simp only [Option.bind_some]
    split <;> rfl

theorem State.tickQuiet_win (s : State) (w u : Fin 32) :
    (s.tickQuiet w).win u = if w = u then (s.win w).tickedQuiet else s.win u := by
  cases hq : (s.win w).quiet with
  | none =>
    simp only [State.tickQuiet, Window.tickedQuiet, hq]
    split
    · next h => rw [h]
    · rfl
  | some n =>
    simp only [State.tickQuiet, Window.tickedQuiet, hq]
    split
    · exact State.win_modWin _ _ _ _
    · exact State.win_modWin _ _ _ _

theorem State.win_modSupply (s : State) (f : Supply → Supply) (w : Fin 32) : (s.modSupply f).win w = s.win w := rfl

theorem State.win_raise (s : State) (r : Report) (w : Fin 32) : (s.raise r).win w = s.win w := rfl

theorem State.enterNormal_quiet (now : Word32) (s : State) (w : Fin 32) : ((s.enterNormal now).win w).quiet = (s.win w).quiet := by
  have work := (ChunkWork.foldl _ State.convertDip_work allWindows
    (s.modSupply fun p => { p with state := .normal, settle := none })).trans
    (State.refill_queueWork _).chunks
  simp only [State.enterNormal, State.win_modSupply, State.win_raise]
  exact work.quiet w

theorem State.tickSettle_quiet (s : State) (w : Fin 32) : (s.tickSettle.win w).quiet = (s.win w).quiet := by
  unfold State.tickSettle
  split
  · split
    · exact s.enterNormal_quiet _ w
    · rfl
  all_goals rfl

/-! ### All timers -/

/-- The claim count behind a tick's share of it (R16). -/
def State.tickedClaim (s : State) : Nat :=
  if s.anyReady = true ∧ s.internalInFlight = false then min 2 (s.bridge.claim + 1) else s.bridge.claim

theorem State.tickClaim_eq (s : State) : s.tickClaim = s.modBridge fun b => { b with claim := s.tickedClaim } := by
  unfold State.tickClaim State.tickedClaim
  by_cases h : s.anyReady = true ∧ s.internalInFlight = false
  · rw [if_pos h, if_pos (by simp [h])]
    rfl
  · rw [if_neg h, if_neg (by simpa using h)]
    rfl

/-- The state behind the tick's share of count, credit and claim count, ahead of the timers. -/
def State.counted (s : State) : State := s.tickClaim.modScheduler Scheduler.tick

theorem State.tickTimers_eq (s : State) : s.tickTimers = (allWindows.foldl State.tickQuiet s.counted).tickSettle.refill := rfl

theorem State.counted_eq (s : State) :
    s.counted = { s with bridge := { s.bridge with claim := s.tickedClaim }, scheduler := s.scheduler.tick } := by
  rw [State.counted, s.tickClaim_eq]
  rfl

theorem State.tickTimers_share (s : State) : TimerShare s.counted s.tickTimers := by
  rw [s.tickTimers_eq]
  exact ((TimerShare.foldl _ State.tickQuiet_share allWindows _).trans (State.tickSettle_share _)).trans (State.refill_share _)

theorem State.tickTimers_quiet (s : State) (w : Fin 32) : (s.tickTimers.win w).quiet = quietTicked (s.win w).quiet := by
  rw [s.tickTimers_eq, (State.refill_queueWork _).chunks.quiet, State.tickSettle_quiet,
    State.win_foldl (g := fun _ => Window.tickedQuiet) State.tickQuiet_win allWindows_nodup, if_pos (mem_allWindows w),
    Window.tickedQuiet_quiet, s.counted_eq]
  rfl

theorem State.tickQuiets_supply (s : State) : (allWindows.foldl State.tickQuiet s).supply = s.supply := by
  have one : ∀ (t : State) (w : Fin 32), (t.tickQuiet w).supply = t.supply := by
    intro t w
    unfold State.tickQuiet
    split
    · rfl
    · split <;> rfl
  generalize allWindows = l
  induction l generalizing s with
  | nil => rfl
  | cons w l ih => rw [List.foldl_cons, ih, one]

/-- The settle timer's share of a tick (R147, R154). -/
theorem State.tickTimers_supply (s : State) :
    (s.supply.state ≠ .settling ∨ s.supply.settle = none → s.tickTimers.supply = s.supply) ∧
      ∀ n, s.supply.state = .settling → s.supply.settle = some n →
        s.tickTimers.supply =
          if n ≤ 1 then { s.supply with state := .normal, settle := none, away := none }
          else { s.supply with settle := some (n - 1) } := by
  have supply : (allWindows.foldl State.tickQuiet s.counted).supply = s.supply := by
    rw [State.tickQuiets_supply, s.counted_eq]
  rw [s.tickTimers_eq, (State.refill_queueWork _).chunks.supply]
  generalize allWindows.foldl State.tickQuiet s.counted = t at supply ⊢
  rw [← supply]
  refine ⟨fun h => ?_, fun n settling left => ?_⟩
  · unfold State.tickSettle
    split
    · next hst hse => exact absurd h (by simp [hst, hse])
    all_goals rfl
  · have run : t.tickSettle =
        if n ≤ 1 then t.enterNormal t.scheduler.ms else t.modSupply fun p => { p with settle := some (n - 1) } := by
      simp only [State.tickSettle, settling, left]
    rw [run]
    split
    · exact State.enterNormal_supply _ _
    · rfl

/-! ### The internal program timer and the end of the tick -/

theorem State.settleClaim_anyReady (s : State) : s.settleClaim.anyReady = s.anyReady := by
  unfold State.settleClaim
  split
  · rfl
  · rfl

theorem State.settleClaim_claim (s : State) :
    s.settleClaim.bridge.claim = if s.settleClaim.anyReady = true then s.bridge.claim else 0 := by
  rw [s.settleClaim_anyReady]
  unfold State.settleClaim
  split <;> rfl

/-- The internal program timer's share of a tick, if no RESTART's mark is emptied by it (R19, R20). -/
theorem State.tickProgram_spec (s : State)
    (noRestart : ∀ kind phase timer, s.bridge.portOp = some (.program kind phase timer) → 19 ≤ timer →
      ∀ m ∈ s.reports.marks, m.restart = false) :
    let t := s.tickProgram.st
    s.tickProgram.restart = false ∧
      t = { s with
        bridge := { s.bridge with portOp := t.bridge.portOp }
        reports := { s.reports with journal := t.reports.journal, marks := t.reports.marks, alert := t.reports.alert } } ∧
      (∀ kind phase timer, s.bridge.portOp = some (.program kind phase timer) →
        (timer < 19 → t.bridge.portOp = some (.program kind phase (timer + 1)) ∧
          t.reports.journal = s.reports.journal ∧ t.reports.marks = s.reports.marks) ∧
        (19 ≤ timer → t.bridge.portOp = none ∧ t.reports.journal = .failed ∧ t.reports.marks = [] ∧ t.reports.alert = true)) ∧
      ((∀ kind phase timer, s.bridge.portOp ≠ some (.program kind phase timer)) →
        t.bridge.portOp = s.bridge.portOp ∧ t.reports.journal = s.reports.journal ∧
          t.reports.marks = s.reports.marks ∧ t.reports.alert = s.reports.alert) := by
  intro t
  cases hop : s.bridge.portOp with
  | none =>
    have ht : s.tickProgram = ⟨s, false⟩ := by simp only [State.tickProgram, hop]
    rw [show t = s from congrArg Fed.st ht, ht]
    exact ⟨rfl, rfl, nofun, fun _ => ⟨hop, rfl, rfl, rfl⟩⟩
  | some op =>
    cases op with
    | startupRead purpose =>
      have ht : s.tickProgram = ⟨s, false⟩ := by simp only [State.tickProgram, hop]
      rw [show t = s from congrArg Fed.st ht, ht]
      exact ⟨rfl, rfl, nofun, fun _ => ⟨hop, rfl, rfl, rfl⟩⟩
    | program kind phase timer =>
      by_cases h : 19 ≤ timer
      · have ht : s.tickProgram = s.timeOut := by
          simp only [State.tickProgram, hop]
          rw [if_pos (by simpa [Config.programTicks] using h)]
        have restart : s.restartWaits = false := by
          simpa [State.restartWaits] using noRestart kind phase timer hop h
        rw [show t = s.timeOut.st from congrArg Fed.st ht, ht]
        refine ⟨restart, rfl, ?_, fun no => absurd rfl (no kind phase timer)⟩
        rintro _ _ _ ⟨⟩
        exact ⟨fun n => absurd h (Nat.not_le.2 n), fun _ => ⟨rfl, rfl, rfl, rfl⟩⟩
      · have ht : s.tickProgram = ⟨s.modBridge fun b => { b with portOp := some (.program kind phase (timer + 1)) }, false⟩ := by
          simp only [State.tickProgram, hop]
          rw [if_neg (by simpa [Config.programTicks] using h)]
        rw [show t = _ from congrArg Fed.st ht, ht]
        refine ⟨rfl, rfl, ?_, fun no => absurd rfl (no kind phase timer)⟩
        rintro _ _ _ ⟨⟩
        exact ⟨fun _ => ⟨rfl, rfl, rfl⟩, fun n => absurd n h⟩

/-- Settles O44: the timers by `TimerShare`, the internal program timer by `State.tickProgram_spec`, the claim count at the end. -/
theorem tickIsSharedByEveryTimer : Obligations.TickIsSharedByEveryTimer := by
  refine fun s => ⟨fun held => ?_, fun powered noRestart => ?_⟩
  · simp only [exec, execTick, held, if_true]
  · have event := s.tickTimers_event
    have share := s.tickTimers_share
    have supply := s.tickTimers_supply
    have quiet := s.tickTimers_quiet
    have claim : s.tickTimers.bridge.claim = s.tickedClaim := by rw [share.bridge, s.counted_eq]
    obtain ⟨engine, parser, _, scheduler, reports, known⟩ := share
    simp only [s.counted_eq] at engine parser scheduler reports
    have run : exec .tick s = .next ((s.tickTimers.tickProgram.st.settleClaim).restartIf s.tickTimers.tickProgram.restart) := by
      simp only [exec, execTick, powered, if_false]
      rfl
    have known' : ∀ w i, sameChunk s s.tickTimers w i := fun w i => by
      have same := known w i
      rw [s.counted_eq] at same
      exact same
    generalize s.tickTimers = u at event supply quiet claim engine parser scheduler reports known' run
    have portOp : u.bridge.portOp = s.bridge.portOp := by rw [event.bridge]
    have marks : u.reports.marks = s.reports.marks := by rw [reports]
    have journal : u.reports.journal = s.reports.journal := by rw [reports]
    have alert : u.reports.alert = s.reports.alert := by rw [reports]
    obtain ⟨goes, frame, program, idle⟩ := u.tickProgram_spec (by rw [portOp, marks]; exact noRestart)
    rw [portOp] at program idle
    rw [journal, marks] at program
    rw [journal, marks, alert] at idle
    rw [goes] at run
    generalize u.tickProgram.st = v at frame program idle run
    have claims := v.settleClaim_claim
    have settled := v.settleClaim_eq
    have bridge : v.settleClaim.bridge = { s.bridge with claim := v.settleClaim.bridge.claim, portOp := v.bridge.portOp } := by
      rw [settled, frame, event.bridge]
    have counts : v.bridge.claim = s.tickedClaim := by rw [frame, ← claim]
    have outer : v.settleClaim = { u with bridge := v.settleClaim.bridge, reports := v.reports } := by
      rw [settled, frame]
    refine ⟨v.settleClaim, run, ?_, fun w => ?_, fun h => ?_, fun n settling left => ?_, fun kind phase timer h => ?_,
      fun h => ?_, ?_, ?_, ?_, ?_, ?_, ?_, ?_, ?_, ?_, ?_, ?_, ?_, fun w => ?_, fun w i => ?_⟩
    · rw [outer]; exact scheduler
    · rw [outer]; exact quiet w
    · rw [outer]; exact supply.1 h
    · rw [outer]; exact supply.2 n settling left
    · rw [outer, bridge]; exact program kind phase timer h
    · rw [outer, bridge]; exact idle h
    · rw [outer]; dsimp only; rw [frame, reports]
    · rw [bridge]
    · rw [claims, counts]; rfl
    · rw [outer]; exact event.pending
    · rw [outer]; exact event.part
    · rw [outer]; exact event.cause
    · rw [outer]; exact event.strapPins
    · rw [outer]; exact event.views
    · rw [outer]; exact parser
    · rw [outer]; exact event.straps
    · rw [outer]; exact engine
    · rw [outer]; exact event.ports
    · rw [outer]; exact event.geom? w
    · rw [outer]; exact known' w i

end Sys2Proof.Machine
end

section
/-! The command area fed byte by byte (R160, R161): bytes that end nothing are collected, and the last byte of a whole record
dispatches it (O28). -/

namespace Sys2Proof.Machine

/-- The parser with these bytes collected (R159). -/
def State.holding (bytes : List Byte) (taint : Bool) (s : State) : State :=
  s.modParser fun p => { p with phase := .inRecord bytes taint }

/-- The taint of a byte taken now (R152). -/
def State.unsteady (s : State) : Bool := decide (s.supply.state ≠ .normal)

/-- One live byte behind the bytes held. -/
theorem State.feed_of_holds {s : State} {got : List Byte} {taint : Bool} (h : s.parser.holds got taint) (first : Nat) (b : Byte) :
    s.feed .live first b = s.collected .live first (got ++ [b]) (taint || s.unsteady) := by
  rcases h with ⟨phase, rfl, rfl⟩ | phase
  · simp [State.feed, phase, State.unsteady]
  · simp [State.feed, phase, State.unsteady]

/-- A header of four FFh bytes gives no record length of 2 to 272 words (R160). -/
theorem not_all_FF_of_framed {s : State} {bytes : List Byte} (h4 : bytes.length = 4) (h : s.framed bytes) :
    ¬(bytes.all fun b => decide (b = 0xFF)) = true := by
  intro all
  have same : bytes = List.replicate 4 0xFF := List.eq_replicate_iff.2 ⟨h4, by simpa using all⟩
  have words : recordWords (List.replicate 4 (0xFF : Byte)) = 65535 := by decide
  rw [State.framed, same, words] at h
  omega

/-- Bytes that end neither a header nor a record are collected, and nothing else happens (R160). -/
theorem State.collected_incomplete {s : State} {bytes : List Byte} (h : s.incomplete bytes) (first : Nat) (taint : Bool) :
    s.collected .live first bytes taint = .more (s.holding bytes taint) := by
  have short : ¬(4 < bytes.length ∧ bytes.length = 4 * recordWords bytes) := by
    rcases h with h | ⟨_, h⟩ <;> omega
  unfold State.collected
  simp only
  split
  · next h4 =>
    obtain ⟨framed, _⟩ : s.framed bytes ∧ _ := h.resolve_left (by omega)
    have ⟨least, most, fits⟩ := framed
    rw [if_neg (not_all_FF_of_framed h4 framed), if_neg (by simp only [Config.recordMinWords, Config.recordMaxWords]; omega),
      if_neg (Nat.not_lt.2 fits)]
    rfl
  · rfl

/-- The last byte of a whole record has it tested and dispatched (R160, R161). -/
theorem State.collected_whole {s : State} {bytes : List Byte} (h : s.whole bytes) (first : Nat) (taint : Bool) :
    s.collected .live first bytes taint =
      if (s.liveRecord bytes taint).restart then .restart (s.liveRecord bytes taint).st else .more (s.liveRecord bytes taint).st := by
  obtain ⟨⟨least, _, _⟩, length⟩ := h
  have not4 : bytes.length ≠ 4 := by omega
  have whole : 4 < bytes.length ∧ bytes.length = 4 * recordWords bytes := ⟨by omega, length⟩
  simp only [State.collected, if_neg not4, if_pos whole]

/-- A piece of bytes that end nothing ends nothing (R160). -/
theorem State.incomplete_of_append {s : State} {bytes more : List Byte} (h : s.incomplete (bytes ++ more)) :
    s.incomplete bytes := by
  by_cases h4 : bytes.length < 4
  · exact .inl h4
  · have words := recordWords_append bytes more (by omega)
    rcases h with h | ⟨framed, h⟩
    · rw [List.length_append] at h; omega
    · rw [State.framed, words] at framed
      rw [List.length_append, words] at h
      exact .inr ⟨framed, by omega⟩

/-- A record without its last byte ends nothing (R160). -/
theorem State.incomplete_of_whole {s : State} {bytes : List Byte} {last : Byte} (h : s.whole (bytes ++ [last])) :
    s.incomplete bytes := by
  obtain ⟨framed, length⟩ := h
  have least := framed.1
  rw [List.length_append, List.length_singleton] at length
  have words := recordWords_append bytes [last] (by omega)
  rw [State.framed, words] at framed
  exact .inr ⟨framed, by omega⟩

/-- Bytes that end nothing are only collected, with the taint of the supply, whatever comes behind them (R152, R160). -/
theorem State.feedLive_incomplete {s : State} {got mid : List Byte} {taint : Bool} (holds : s.parser.holds got taint)
    (h : s.incomplete (got ++ mid)) (ne : mid ≠ []) (first : Nat) (rest : List Byte) :
    s.feedLive first (mid ++ rest) = (s.holding (got ++ mid) (taint || s.unsteady)).feedLive first rest := by
  induction mid generalizing s got taint with
  | nil => exact absurd rfl ne
  | cons b bs ih =>
    have cons : got ++ b :: bs = (got ++ [b]) ++ bs := by simp
    have step : s.feed .live first b = .more (s.holding (got ++ [b]) (taint || s.unsteady)) := by
      rw [State.feed_of_holds holds]
      rw [cons] at h
      exact State.collected_incomplete (State.incomplete_of_append h) _ _
    rw [List.cons_append, State.feedLive, step]
    cases bs with
    | nil => rfl
    | cons c cs =>
      have later := ih (s := s.holding (got ++ [b]) (taint || s.unsteady)) (got := got ++ [b]) (taint := taint || s.unsteady)
        (.inr rfl) (by rw [cons] at h; exact h) (by simp)
      have steady : (s.holding (got ++ [b]) (taint || s.unsteady)).unsteady = s.unsteady := rfl
      rw [cons]
      simp only [later, steady, Bool.or_assoc, Bool.or_self]
      rfl

/-- What stands once these bytes are collected behind those held: the parser still holds all of them. -/
theorem State.feedLive_collects {s : State} {got mid : List Byte} {taint : Bool} (holds : s.parser.holds got taint)
    (h : s.incomplete (got ++ mid)) (first : Nat) :
    ∃ t taint', s.feedLive first mid = ⟨t, false⟩ ∧ (∀ rest, s.feedLive first (mid ++ rest) = t.feedLive first rest) ∧
      t.parser.holds (got ++ mid) taint' ∧ (taint' || t.unsteady) = (taint || s.unsteady) ∧
      t.parser.cursor = s.parser.cursor ∧ t.straps = s.straps := by
  by_cases ne : mid = []
  · subst ne
    exact ⟨s, taint, rfl, fun _ => rfl, by simpa using holds, rfl, rfl, rfl⟩
  · have all := State.feedLive_incomplete holds h ne first
    have alone := all []
    rw [List.append_nil] at alone
    exact ⟨_, _, alone, all, .inr rfl, by rw [show (s.holding _ _).unsteady = s.unsteady from rfl, Bool.or_assoc, Bool.or_self],
      rfl, rfl⟩

/-- A whole record is dispatched at its last byte, whatever programs brought it, and the bytes behind it begin the next record unless
it restarts the part (R160, R161, R165). -/
theorem State.feedLive_whole {s : State} {got mid : List Byte} {last : Byte} {taint : Bool} (holds : s.parser.holds got taint)
    (h : s.whole (got ++ mid ++ [last])) (first : Nat) (rest : List Byte) :
    let record := (s.feedLive first mid).st.liveRecord (got ++ mid ++ [last]) (taint || s.unsteady)
    s.feedLive first (mid ++ last :: rest) = if record.restart = true then record else record.st.feedLive first rest := by
  obtain ⟨t, taint', fed, on, held, tainted, cursor, straps⟩ :=
    State.feedLive_collects holds (State.incomplete_of_whole h) first
  have whole : t.whole (got ++ mid ++ [last]) := by
    rw [State.whole, State.framed, cursor, straps]
    exact h
  rw [on, fed]
  dsimp only
  rw [State.feedLive, State.feed_of_holds held, tainted, State.collected_whole whole]
  generalize t.liveRecord (got ++ mid ++ [last]) (taint || s.unsteady) = record
  obtain ⟨u, restart⟩ := record
  cases restart
  · rfl
  · rfl

/-- What has become of the state, whether or not a restart takes place. -/
theorem Fed.eq_of_restart (fed : Fed) : (if fed.restart = true then fed else ⟨fed.st, false⟩) = fed := by
  obtain ⟨u, restart⟩ := fed
  cases restart
  · rfl
  · rfl

/-- A whole record brought at once to a READY parser (R160, R161). -/
theorem State.feedLive_record (s : State) (bytes : List Byte) (first : Nat) (ready : s.parser.phase = .ready)
    (least : 8 ≤ bytes.length) (length : bytes.length = 4 * recordWords bytes) (most : recordWords bytes ≤ 272)
    (fits : s.parser.cursor + bytes.length ≤ commandEnd s.straps) :
    s.feedLive first bytes = (s.holding bytes.dropLast s.unsteady).liveRecord bytes s.unsteady := by
  have ne : bytes ≠ [] := by rintro rfl; simp at least
  have holds : s.parser.holds [] false := .inl ⟨ready, rfl, rfl⟩
  have parts : [] ++ bytes.dropLast ++ [bytes.getLast ne] = bytes := by rw [List.nil_append, List.dropLast_append_getLast ne]
  have whole : s.whole ([] ++ bytes.dropLast ++ [bytes.getLast ne]) := by
    rw [parts]
    exact ⟨⟨by omega, most, by omega⟩, length⟩
  have collects := State.feedLive_incomplete holds (State.incomplete_of_whole whole)
    (by rw [← List.length_pos_iff, List.length_dropLast]; omega) first []
  rw [List.append_nil, List.nil_append, Bool.false_or] at collects
  have fed := State.feedLive_whole holds whole first []
  rw [parts, Bool.false_or, collects] at fed
  rw [List.nil_append] at parts
  rw [parts] at fed
  rw [fed]
  exact Fed.eq_of_restart _

/-- A forwarded program that lands in place in the command area feeds its bytes to the parser (R9, R160). -/
theorem exec_programForward_command {s : State} {c : Collected} (hc : s.bridge.collected = some c) (hp : c.cls = .program)
    (hn : c.len ≠ 0) (hd : c.data.length = c.len) (hw : s.windowAt (pageBase c.addr) = none)
    (hcmd : s.pageInCommandArea c.addr = true) (broken : s.parser.phase ≠ .broken) (wraps : programWraps c.addr c.len = false)
    (place : c.addr = s.parser.collectionPoint) :
    exec .programForward s =
      .next ((((s.touch c).feedLive c.addr c.data).st.refill.settleClaim).restartIf
        ((s.touch c).feedLive c.addr c.data).restart) := by
  have at' : (s.touch c).windowAt (pageBase c.addr) = none := hw
  have inside : (s.touch c).pageInCommandArea c.addr = true := hcmd
  have fed : (s.touch c).commandProgram c.addr c.data = (s.touch c).feedLive c.addr c.data := by
    rw [State.commandProgram, if_neg (show ¬(s.touch c).parser.phase = .broken from broken), hd, wraps, if_neg (by simp),
      if_neg (show ¬(c.addr ≠ (s.touch c).parser.collectionPoint) from fun h => h place)]
  unfold State.touch at at' inside fed ⊢
  simp only [exec, execProgramForward, hc, hp, if_true, State.forwardProgram, hn, if_false, State.landProgram, at', inside, fed]

/-- Settles O28. -/
theorem wholeRecordInOneProgramIsDispatchedOnce : Obligations.WholeRecordInOneProgramIsDispatchedOnce := by
  refine ⟨fun s bytes first ready least length most fits => s.feedLive_record bytes first ready least length most fits,
    fun s first got mid rest last taint holds => ⟨rfl, fun h ne => ?_, fun h => State.feedLive_whole holds h first rest⟩,
    fun s u c hc hp hn hd hw hcmd broken wraps place hu => ?_⟩
  · have fed := State.feedLive_incomplete holds h ne first []
    rw [List.append_nil] at fed
    exact fed
  · have touched : c.touched s.flashBytes = landingRanges c.addr c.len := by simp [Collected.touched, hp]
    have same : s.touch c = u := by rw [hu, ← touched]; rfl
    have run := exec_programForward_command hc hp hn hd hw hcmd broken wraps place
    rw [same] at run
    refine ⟨run, fun ready least length most fits => ?_⟩
    have record := u.feedLive_record c.data c.addr (by rw [hu]; exact ready) (by rw [hd]; exact least) (by rw [hd]; exact length)
      most (by rw [hu, hd]; exact fits)
    have steady : u.unsteady = decide (s.supply.state ≠ .normal) := by rw [hu]; rfl
    rw [record, steady] at run
    exact run

end Sys2Proof.Machine
end

section
/-! Erase events (R80, R81): what they do to the chunks their cover meets, composed chunk by chunk and window by window. -/

namespace Sys2Proof.Machine

/-! ### The good count behind a write of one chunk record (R89) -/

theorem List.modify_eq_set_of_getElem? {α : Type} {l : List α} {i : Nat} {c : α} (f : α → α) (h : l[i]? = some c) :
    l.modify i f = l.set i (f c) := by
  rw [List.modify_eq_set_getElem?, h]
  rfl

theorem countState_set {l : List Chunk} {i : Nat} {c d : Chunk} (st : ChunkState) (h : l[i]? = some c) :
    countState (l.set i d) st = countState l st + (if d.state = st then 1 else 0) - (if c.state = st then 1 else 0) := by
  obtain ⟨hi, rfl⟩ := List.getElem?_eq_some_iff.1 h
  have le : (if l[i].state = st then 1 else 0) ≤ countState l st := by
    split
    · next hs => exact List.countP_pos_iff.2 ⟨l[i], List.getElem_mem hi, decide_eq_true hs⟩
    · exact Nat.zero_le _
  rw [countState, countState, List.countP_set hi]
  simp only [decide_eq_true_eq]
  rw [countState] at le
  omega

/-- The law of R89 stands behind a write of a chunk record that moves the good count with the chunk, if a chunk that becomes GOOD has
its expected digest and its window is LOADED. -/
theorem Window.goodLaw_of_modify {v v' : Window} {i : Nat} {c : Chunk} {f : Chunk → Chunk} (law : v.goodLaw)
    (hc : (v.body.cat?.bind fun cat => cat.chunks[i]?) = some c)
    (body : v'.body = v.body.modCat fun cat => { cat with chunks := cat.chunks.modify i f })
    (good : v'.goodCount = v.goodCount + (if (f c).state = .good then 1 else 0) - (if c.state = .good then 1 else 0))
    (proven : (f c).state = .good → v.body.isLoaded = true ∧ (f c).observed = (f c).expected) : v'.goodLaw := by
  unfold Window.goodLaw at law ⊢
  rw [body, good]
  cases hb : v.body with
  | vacant | defined _ | rejected _ => rw [hb] at hc; exact absurd hc nofun
  | opened g cat =>
    rw [hb] at law hc proven
    have hi : cat.chunks[i]? = some c := hc
    have was := law.2 c (List.mem_of_getElem? hi)
    have isnt : (f c).state ≠ .good := fun h => absurd (proven h).1 nofun
    simp only [WinBody.modCat, List.modify_eq_set_of_getElem? f hi, if_neg was, if_neg isnt]
    refine ⟨law.1, fun x hx => ?_⟩
    rcases List.mem_or_eq_of_mem_set hx with h | rfl
    · exact law.2 x h
    · exact isnt
  | loaded g cat e =>
    rw [hb] at law hc proven
    have hi : cat.chunks[i]? = some c := hc
    simp only [WinBody.modCat, List.modify_eq_set_of_getElem? f hi, countState_set .good hi]
    refine ⟨by rw [law.1], fun x hx => ?_⟩
    rcases List.mem_or_eq_of_mem_set hx with h | rfl
    · exact law.2 x h
    · exact fun h => (proven h).2

/-- The law of R89 depends on what the chunk records know, and on the good count. -/
theorem goodLaw_of_same {s t : State} {w : Fin 32} (outline : (t.win w).body.outline = (s.win w).body.outline)
    (known : ∀ i, sameChunk s t w i) (good : (t.win w).goodCount = (s.win w).goodCount) (law : (s.win w).goodLaw) :
    (t.win w).goodLaw := by
  obtain ⟨chunks, body⟩ := WinBody.modCat_of_outline outline
  have same : ∀ cat, (s.win w).body.cat? = some cat → chunks.map Chunk.known = cat.chunks.map Chunk.known := by
    intro cat hcat
    refine List.ext_getElem? fun i => ?_
    have at_i := known i
    simpa [sameChunk, State.chunk?, body, hcat] using at_i
  have member : ∀ cat, (s.win w).body.cat? = some cat → ∀ x ∈ chunks, ∃ y ∈ cat.chunks, x.known = y.known := by
    intro cat hcat x hx
    have mem := List.mem_map_of_mem (f := Chunk.known) hx
    rw [same cat hcat] at mem
    obtain ⟨y, hy, e⟩ := List.mem_map.1 mem
    exact ⟨y, hy, e.symm⟩
  unfold Window.goodLaw at law ⊢
  rw [body, good]
  cases hb : (s.win w).body with
  | vacant | defined _ | rejected _ => rw [hb] at law; exact law
  | opened g cat =>
    rw [hb] at law
    refine ⟨law.1, fun x hx => ?_⟩
    obtain ⟨y, hy, e⟩ := member cat (by rw [hb]; rfl) x hx
    simp only [Chunk.known, Prod.mk.injEq] at e
    rw [e.1]
    exact law.2 y hy
  | loaded g cat e =>
    rw [hb] at law
    refine ⟨law.1.trans (countP_state_of_known (same cat (by rw [hb]; rfl)) fun st => decide (st = .good)).symm, fun x hx => ?_⟩
    obtain ⟨y, hy, e⟩ := member cat (by rw [hb]; rfl) x hx
    simp only [Chunk.known, Prod.mk.injEq] at e
    rw [e.1, e.2.1, e.2.2.1]
    exact law.2 y hy

theorem State.unlink_goodLaw (s : State) (w u : Fin 32) (i : Nat) (law : (s.win u).goodLaw) : ((s.unlink w i).win u).goodLaw := by
  simp only [State.unlink, State.modChunk, State.win_modWin]
  split
  · next h =>
    subst h
    cases hc : s.chunk? w i with
    | none =>
      have same : ((s.win w).body.modCat fun c => { c with chunks := c.chunks.modify i fun c => { c with link := none } }) =
          (s.win w).body := by
        unfold State.chunk? at hc
        cases hb : (s.win w).body <;> rw [hb] at hc <;> try rfl
        · simp only [WinBody.cat?, Option.bind_some] at hc
          simp [WinBody.modCat, List.modify_eq_set_getElem?, hc]
        · simp only [WinBody.cat?, Option.bind_some] at hc
          simp [WinBody.modCat, List.modify_eq_set_getElem?, hc]
      rw [same]
      exact law
    | some c =>
      refine Window.goodLaw_of_modify (c := c) (f := fun c => { c with link := none }) law hc rfl ?_ fun hg => ?_
      · by_cases hg : c.state = .good <;> simp [hg]
      · unfold Window.goodLaw at law
        unfold State.chunk? at hc
        cases hb : (s.win w).body with
        | vacant | defined _ | rejected _ => rw [hb] at hc; exact absurd hc nofun
        | opened g cat =>
          rw [hb] at law hc
          exact absurd hg (law.2 c (List.mem_of_getElem? hc))
        | loaded g cat e =>
          rw [hb] at law hc
          exact ⟨rfl, law.2 c (List.mem_of_getElem? hc) hg⟩
  · exact law

theorem State.endDigesting_goodLaw (s : State) (w u : Fin 32) (i : Nat) (law : (s.win u).goodLaw) :
    ((s.endDigesting w i).win u).goodLaw := by
  unfold State.endDigesting
  split
  · exact State.unlink_goodLaw _ _ _ _ law
  · exact State.unlink_goodLaw _ _ _ _ law
  · exact law

theorem State.moveChunk_goodLaw (s : State) (w u : Fin 32) (i : Nat) (st : ChunkState) (d : Option Digest) (c : Chunk)
    (hc : s.chunk? w i = some c) (proven : st = .good → (s.win w).body.isLoaded = true ∧ d = c.expected)
    (law : (s.win u).goodLaw) : ((s.moveChunk w i st d).win u).goodLaw := by
  by_cases h : u = w
  · subst h
    refine Window.goodLaw_of_modify (c := c)
      (f := fun c => { c with state := st, observed := d, queued := c.queued && decide (st = .unchecked) }) law hc ?_
      (s.moveChunk_spec u i st d c hc).2.2.2.2 proven
    simp only [State.moveChunk, hc]
    split <;> simp [State.removeEntry, State.modChunk]
  · rw [s.moveChunk_win_of_ne w i st d h]
    exact law

/-! ### Contexts and chunk records name each other (R98) -/

/-- The part of R98 that an erase needs: a BUSY context and the chunk it holds name each other. -/
structure LinkLaw (s : State) : Prop where
  stream : ∀ k x, s.stream k = some x → ∃ c, s.chunk? x.window x.chunk = some c ∧ c.link = some (.stream k)
  readback : ∀ r, s.engine.readback = some r → ∃ c, s.chunk? r.window r.chunk = some c ∧ c.link = some .readback
  ofStream : ∀ w i c k, s.chunk? w i = some c → c.link = some (.stream k) →
    ∃ x, s.stream k = some x ∧ x.window = w ∧ x.chunk = i
  ofReadback : ∀ w i c, s.chunk? w i = some c → c.link = some .readback →
    ∃ r, s.engine.readback = some r ∧ r.window = w ∧ r.chunk = i

theorem ContextLaw.links {s : State} (law : ContextLaw s) : LinkLaw s := by
  obtain ⟨_, _, streams, readback, links⟩ := law
  refine ⟨fun k x hx => ?_, fun r hr => ?_, fun w i c k hc hl => ?_, fun w i c hc hl => ?_⟩
  · obtain ⟨c, hc, hl, _⟩ := streams k x hx
    exact ⟨c, hc, hl⟩
  · obtain ⟨c, hc, hl, _⟩ := readback r hr
    exact ⟨c, hc, hl⟩
  · have stands := links w i c hc
    rw [State.linkStands, hl] at stands
    exact stands
  · have stands := links w i c hc
    rw [State.linkStands, hl] at stands
    exact stands

/-- The law depends on contexts and on what the chunk records know. -/
theorem LinkLaw.of_same {s t : State} (law : LinkLaw s) (engine : t.engine = s.engine) (known : ∀ w i, sameChunk s t w i) :
    LinkLaw t := by
  have stream : ∀ k, t.stream k = s.stream k := fun k => by simp only [State.stream, engine]
  have back : ∀ w i c, t.chunk? w i = some c → ∃ d, s.chunk? w i = some d ∧ d.link = c.link := by
    intro w i c hc
    have same := known w i
    rw [sameChunk, hc] at same
    obtain ⟨d, hd, e⟩ := Option.map_eq_some_iff.1 same.symm
    exact ⟨d, hd, congrArg (fun k => k.2.2.2) e⟩
  have forth : ∀ w i l, (∃ c, s.chunk? w i = some c ∧ c.link = l) → ∃ c, t.chunk? w i = some c ∧ c.link = l := by
    rintro w i l ⟨c, hc, rfl⟩
    obtain ⟨d, hd, e⟩ := (known w i).knows ⟨c, hc, rfl⟩
    exact ⟨d, hd, congrArg (fun k => k.2.2.2) e⟩
  refine ⟨fun k x hx => ?_, fun r hr => ?_, fun w i c k hc hl => ?_, fun w i c hc hl => ?_⟩
  · rw [stream] at hx
    exact forth _ _ _ (law.stream k x hx)
  · rw [engine] at hr
    exact forth _ _ _ (law.readback r hr)
  · obtain ⟨d, hd, e⟩ := back w i c hc
    rw [stream]
    exact law.ofStream w i d k hd (e.trans hl)
  · obtain ⟨d, hd, e⟩ := back w i c hc
    rw [engine]
    exact law.ofReadback w i d hd (e.trans hl)

/-! ### Where an erase sends a chunk (R80, R81) -/

/-- A full-cover erase with the supply NORMAL sends a chunk with this expected digest here (R80). -/
def WinBody.erasedTo (b : WinBody) (i : Nat) (expected : Option Digest) : ChunkState × Option Digest :=
  match b with
  | .loaded _ c e => if expected = some (erasedDigest c e i) then (.good, some (erasedDigest c e i)) else (.erased, none)
  | .vacant | .defined _ | .opened _ _ | .rejected _ => (.erased, none)

/-- An erase sends a chunk that its cover meets here: by R80 with the supply NORMAL and the chunk covered, and else to UNCHECKED. -/
def State.erasedTo (s : State) (w : Fin 32) (cover : Nat × Nat) (i : Nat) (expected : Option Digest) : ChunkState × Option Digest :=
  if s.supply.state = .normal ∧ (s.win w).body.chunkCovered i cover = true then (s.win w).body.erasedTo i expected
  else (.unchecked, none)

theorem WinBody.erasedTo_of_outline {a b : WinBody} (h : a.outline = b.outline) (i : Nat) (expected : Option Digest) :
    a.erasedTo i expected = b.erasedTo i expected := by
  have length := (WinBody.outline_inj h).2.2.2.1
  obtain ⟨chunks, rfl⟩ := WinBody.modCat_of_outline h
  cases b with
  | loaded g c e =>
    have same : chunks.length = c.chunks.length := length
    simp only [WinBody.modCat, WinBody.erasedTo, erasedDigest, same]
    rfl
  | _ => rfl

theorem WinBody.place_of_outline {a b : WinBody} (h : a.outline = b.outline) (i : Nat) :
    a.chunkStart i = b.chunkStart i ∧ a.chunkLen i = b.chunkLen i := by
  obtain ⟨geom, _, _, _, length⟩ := WinBody.outline_inj h
  refine ⟨?_, length i⟩
  rw [WinBody.chunkStart, WinBody.chunkStart, WinBody.base, WinBody.base, WinBody.chunkSize, WinBody.chunkSize, geom]

theorem WinBody.chunkMet_of_outline {a b : WinBody} (h : a.outline = b.outline) (i : Nat) (ranges : List (Nat × Nat)) :
    a.chunkMet i ranges = b.chunkMet i ranges := by
  obtain ⟨start, length⟩ := WinBody.place_of_outline h i
  rw [WinBody.chunkMet, WinBody.chunkMet, start, length]

theorem ChunkWork.erasedTo {s t : State} (h : ChunkWork s t) (w : Fin 32) (cover : Nat × Nat) (i : Nat)
    (expected : Option Digest) : t.erasedTo w cover i expected = s.erasedTo w cover i expected := by
  obtain ⟨start, length⟩ := WinBody.place_of_outline (h.outline w) i
  rw [State.erasedTo, State.erasedTo, h.supply, WinBody.chunkCovered, WinBody.chunkCovered, start, length,
    WinBody.erasedTo_of_outline (h.outline w)]

/-- Only a chunk with its expected digest in a LOADED window is sent to GOOD (R80, R92). -/
theorem State.erasedTo_good {s : State} {w : Fin 32} {cover : Nat × Nat} {i : Nat} {expected : Option Digest}
    (h : (s.erasedTo w cover i expected).1 = .good) :
    (s.win w).body.isLoaded = true ∧ (s.erasedTo w cover i expected).2 = expected := by
  unfold State.erasedTo at h ⊢
  split at h
  · next covered =>
    rw [if_pos covered]
    unfold WinBody.erasedTo at h ⊢
    cases hb : (s.win w).body with
    | loaded g c e =>
      rw [hb] at h
      dsimp only at h ⊢
      split at h
      · next he => rw [if_pos he]; exact ⟨rfl, he.symm⟩
      · exact absurd h nofun
    | _ => rw [hb] at h; exact absurd h nofun
  · exact absurd h nofun

/-- An erase event on a chunk that the cover meets: what digested it is ended, and it goes where R80 and R81 send it. -/
theorem State.eraseChunk_of_met (s : State) (w : Fin 32) (cover : Nat × Nat) (i : Nat) (c : Chunk) (hc : s.chunk? w i = some c)
    (met : (s.win w).body.chunkMet i [cover] = true) :
    s.eraseChunk w cover i =
      let dest := s.erasedTo w cover i c.expected
      let moved := (s.endDigesting w i).moveChunk w i dest.1 dest.2
      if s.supply.state = .normal then moved else moved.setDipTouched w := by
  unfold State.eraseChunk
  rw [if_pos met]
  by_cases normal : s.supply.state = .normal
  · simp only [if_pos normal]
    by_cases covered : (s.win w).body.chunkCovered i cover = true
    · have dest : s.erasedTo w cover i c.expected = (s.win w).body.erasedTo i c.expected := if_pos ⟨normal, covered⟩
      rw [if_pos covered, dest]
      unfold State.eraseFully WinBody.erasedTo
      cases hb : (s.win w).body with
      | loaded g cat e =>
        simp only [hc, Option.bind_some]
        split <;> rfl
      | _ => rfl
    · have dest : s.erasedTo w cover i c.expected = (.unchecked, none) := if_neg fun h => covered h.2
      rw [if_neg covered, dest]
      rfl
  · have dest : s.erasedTo w cover i c.expected = (.unchecked, none) := if_neg fun h => normal h.1
    simp only [if_neg normal, dest]
    rfl

/-! ### What erase events do, for the chunks they hit -/

/-- Erase events took place on exactly the chunks in `hit`. -/
structure Erased (s t : State) (cover : Nat × Nat) (hit : Fin 32 → Nat → Bool) : Prop where
  work : ChunkWork s t
  chunk : ∀ w i c, s.chunk? w i = some c → hit w i = true →
    ∃ d, t.chunk? w i = some d ∧
      d.known = ((s.erasedTo w cover i c.expected).1, c.expected, (s.erasedTo w cover i c.expected).2, none)
  others : ∀ w i, hit w i = false → sameChunk s t w i
  good : ∀ w, (s.win w).goodLaw → (t.win w).goodLaw
  keepsDip : ∀ w, (s.win w).dipTouched = true → (t.win w).dipTouched = true
  dip : ∀ w i c, s.chunk? w i = some c → hit w i = true → s.supply.state ≠ .normal → (t.win w).dipTouched = true
  links : LinkLaw s → LinkLaw t
  streams : LinkLaw s → ∀ k, t.stream k = (s.stream k).filter fun x => !hit x.window x.chunk
  readback : LinkLaw s → t.engine.readback = s.engine.readback.filter fun r => !hit r.window r.chunk
  counters : LinkLaw s → t.reports.counters =
    if (s.engine.readback.any fun r => hit r.window r.chunk) = true then
      { s.reports.counters with readbackAborts := countUp s.reports.counters.readbackAborts }
    else s.reports.counters

/-- Work that changes no chunk record, context or counter erases nothing. -/
theorem Erased.of_same {s t : State} (cover : Nat × Nat) (work : ChunkWork s t) (known : ∀ w i, sameChunk s t w i)
    (engine : t.engine = s.engine) (counters : t.reports.counters = s.reports.counters)
    (goodCount : ∀ w, (t.win w).goodCount = (s.win w).goodCount)
    (dip : ∀ w, (t.win w).dipTouched = (s.win w).dipTouched) : Erased s t cover fun _ _ => false where
  work := work
  chunk _ _ _ _ h := absurd h nofun
  others w i _ := known w i
  good w law := goodLaw_of_same (work.outline w) (known w) (goodCount w) law
  keepsDip w h := (dip w).trans h
  dip _ _ _ _ h := absurd h nofun
  links law := law.of_same engine known
  streams _ k := by
    rw [State.stream, engine]
    cases h : s.stream k <;> exact h
  readback _ := by
    rw [engine]
    cases s.engine.readback <;> rfl
  counters _ := by simp [counters]

theorem Erased.refl (s : State) (cover : Nat × Nat) : Erased s s cover fun _ _ => false :=
  .of_same cover (.refl s) (fun _ _ => rfl) rfl rfl (fun _ => rfl) fun _ => rfl

theorem Erased.trans {s t u : State} {cover : Nat × Nat} {a b : Fin 32 → Nat → Bool} (h : Erased s t cover a)
    (k : Erased t u cover b) : Erased s u cover fun w i => a w i || b w i where
  work := h.work.trans k.work
  chunk w i c hc hit := by
    cases hb : b w i with
    | false =>
      rw [hb, Bool.or_false] at hit
      exact (k.others w i hb).knows (h.chunk w i c hc hit)
    | true =>
      have first : ∃ d, t.chunk? w i = some d ∧ d.expected = c.expected := by
        cases ha : a w i with
        | true =>
          obtain ⟨d, hd, known⟩ := h.chunk w i c hc ha
          exact ⟨d, hd, congrArg (fun k => k.2.1) known⟩
        | false =>
          obtain ⟨d, hd, known⟩ := (h.others w i ha).knows ⟨c, hc, rfl⟩
          exact ⟨d, hd, congrArg (fun k => k.2.1) known⟩
      obtain ⟨d, hd, expected⟩ := first
      have second := k.chunk w i d hd hb
      rwa [expected, h.work.erasedTo] at second
  others w i hit := by
    obtain ⟨ha, hb⟩ := Bool.or_eq_false_iff.1 hit
    exact (h.others w i ha).trans (k.others w i hb)
  good w law := k.good w (h.good w law)
  keepsDip w hd := k.keepsDip w (h.keepsDip w hd)
  dip w i c hc hit away := by
    cases ha : a w i with
    | true => exact k.keepsDip w (h.dip w i c hc ha away)
    | false =>
      rw [ha, Bool.false_or] at hit
      obtain ⟨d, hd, _⟩ := (h.others w i ha).knows ⟨c, hc, rfl⟩
      exact k.dip w i d hd hit (by rw [h.work.supply]; exact away)
  links law := k.links (h.links law)
  streams law j := by
    rw [k.streams (h.links law), h.streams law, Option.filter_filter]
    simp only [Bool.not_or]
  readback law := by
    rw [k.readback (h.links law), h.readback law, Option.filter_filter]
    simp only [Bool.not_or]
  counters law := by
    rw [k.counters (h.links law), h.counters law, h.readback law]
    cases s.engine.readback with
    | none => rfl
    | some r => cases ha : a r.window r.chunk <;> simp [Option.filter, ha]

/-- Only chunks that there are can be hit. -/
theorem Erased.congr {s t : State} {cover : Nat × Nat} {a b : Fin 32 → Nat → Bool} (h : Erased s t cover a)
    (same : ∀ w i c, s.chunk? w i = some c → a w i = b w i) : Erased s t cover b where
  work := h.work
  chunk w i c hc hit := h.chunk w i c hc (by rw [same w i c hc]; exact hit)
  others w i hit := by
    cases hc : s.chunk? w i with
    | some c => exact h.others w i (by rw [same w i c hc]; exact hit)
    | none =>
      have gone : t.chunk? w i = none := by
        have count := h.work.count w
        have no : ¬(s.chunk? w i).isSome = true := by rw [hc]; exact nofun
        rw [State.chunk?_isSome, ← count, ← State.chunk?_isSome] at no
        simpa using no
      rw [sameChunk, hc, gone]
  good := h.good
  keepsDip := h.keepsDip
  dip w i c hc hit := h.dip w i c hc (by rw [same w i c hc]; exact hit)
  links := h.links
  streams law k := by
    rw [h.streams law]
    cases hx : s.stream k with
    | none => rfl
    | some x =>
      obtain ⟨c, hc, _⟩ := law.stream k x hx
      simp only [Option.filter, same _ _ c hc]
  readback law := by
    rw [h.readback law]
    cases hr : s.engine.readback with
    | none => rfl
    | some r =>
      obtain ⟨c, hc, _⟩ := law.readback r hr
      simp only [Option.filter, same _ _ c hc]
  counters law := by
    rw [h.counters law]
    cases hr : s.engine.readback with
    | none => rfl
    | some r =>
      obtain ⟨c, hc, _⟩ := law.readback r hr
      simp only [Option.any_some, same _ _ c hc]

/-- The erase events hit one chunk. -/
def onlyChunk (w : Fin 32) (i : Nat) (u : Fin 32) (j : Nat) : Bool := decide ((u, j) = (w, i))

theorem onlyChunk_iff {w u : Fin 32} {i j : Nat} : onlyChunk w i u j = true ↔ u = w ∧ j = i := by simp [onlyChunk]

theorem onlyChunk_eq_false {w u : Fin 32} {i j : Nat} : onlyChunk w i u j = false ↔ (u, j) ≠ (w, i) := by simp [onlyChunk]

/-- Under the law of R98 ending what digests a chunk frees exactly the contexts that hold it. -/
theorem LinkLaw.filter_stream {s : State} (law : LinkLaw s) {w : Fin 32} {i : Nat} {c : Chunk} (hc : s.chunk? w i = some c)
    (k : Fin 3) : (if c.link = some (.stream k) then none else s.stream k) =
      (s.stream k).filter fun x => !onlyChunk w i x.window x.chunk := by
  split
  · next hl =>
    obtain ⟨x, hx, rfl, rfl⟩ := law.ofStream w i c k hc hl
    simp [hx, onlyChunk, Option.filter_some]
  · next hl =>
    cases hx : s.stream k with
    | none => rfl
    | some x =>
      have apart : onlyChunk w i x.window x.chunk = false := by
        rw [onlyChunk_eq_false]
        intro e
        simp only [Prod.mk.injEq] at e
        obtain ⟨d, hd, hl'⟩ := law.stream k x hx
        rw [e.1, e.2, hc] at hd
        obtain rfl := Option.some.inj hd
        exact hl hl'
      simp [apart, Option.filter_some]

theorem LinkLaw.readback_iff {s : State} (law : LinkLaw s) {w : Fin 32} {i : Nat} {c : Chunk} (hc : s.chunk? w i = some c) :
    c.link = some .readback ↔ (s.engine.readback.any fun r => onlyChunk w i r.window r.chunk) = true := by
  rw [Option.any_eq_true]
  constructor
  · intro hl
    obtain ⟨r, hr, rfl, rfl⟩ := law.ofReadback w i c hc hl
    exact ⟨r, hr, onlyChunk_iff.2 ⟨rfl, rfl⟩⟩
  · rintro ⟨r, hr, here⟩
    obtain ⟨rfl, rfl⟩ := onlyChunk_iff.1 here
    obtain ⟨d, hd, hl⟩ := law.readback r hr
    rw [hc] at hd
    obtain rfl := Option.some.inj hd
    exact hl

theorem LinkLaw.filter_readback {s : State} (law : LinkLaw s) {w : Fin 32} {i : Nat} {c : Chunk} (hc : s.chunk? w i = some c) :
    (if c.link = some .readback then none else s.engine.readback) =
      s.engine.readback.filter fun r => !onlyChunk w i r.window r.chunk := by
  have here := law.readback_iff hc
  cases hr : s.engine.readback with
  | none => simp
  | some r =>
    rw [hr, Option.any_some] at here
    cases ho : onlyChunk w i r.window r.chunk <;> rw [ho] at here <;> simp_all [Option.filter_some]

/-- A chunk whose digesting ended is named by no context, and names none (R70). -/
theorem LinkLaw.of_ended {s t : State} (law : LinkLaw s) {w : Fin 32} {i : Nat} {c d : Chunk} (hc : s.chunk? w i = some c)
    (hd : t.chunk? w i = some d) (unlinked : d.link = none) (others : ∀ u j, (u, j) ≠ (w, i) → sameChunk s t u j)
    (streams : ∀ k, t.stream k = if c.link = some (.stream k) then none else s.stream k)
    (readback : t.engine.readback = if c.link = some .readback then none else s.engine.readback) : LinkLaw t := by
  have there : ∀ u j l, onlyChunk w i u j = false → (∃ e, s.chunk? u j = some e ∧ e.link = l) →
      ∃ e, t.chunk? u j = some e ∧ e.link = l := by
    rintro u j l apart ⟨e, he, rfl⟩
    obtain ⟨f, hf, known⟩ := (others u j (onlyChunk_eq_false.1 apart)).knows ⟨e, he, rfl⟩
    exact ⟨f, hf, congrArg (fun k => k.2.2.2) known⟩
  have back : ∀ u j e l, t.chunk? u j = some e → e.link = some l →
      (u, j) ≠ (w, i) ∧ ∃ f, s.chunk? u j = some f ∧ f.link = some l := by
    intro u j e l he hl
    have apart : (u, j) ≠ (w, i) := by
      intro h
      simp only [Prod.mk.injEq] at h
      rw [h.1, h.2, hd] at he
      obtain rfl := Option.some.inj he
      rw [unlinked] at hl
      cases hl
    have same := others u j apart
    rw [sameChunk, he] at same
    obtain ⟨f, hf, known⟩ := Option.map_eq_some_iff.1 same.symm
    exact ⟨apart, f, hf, (congrArg (fun k => k.2.2.2) known).trans hl⟩
  refine ⟨fun k x hx => ?_, fun r hr => ?_, fun u j e k he hl => ?_, fun u j e he hl => ?_⟩
  · rw [streams, law.filter_stream hc, Option.filter_eq_some_iff] at hx
    exact there _ _ _ (by simpa using hx.2) (law.stream k x hx.1)
  · rw [readback, law.filter_readback hc, Option.filter_eq_some_iff] at hr
    exact there _ _ _ (by simpa using hr.2) (law.readback r hr.1)
  · obtain ⟨apart, f, hf, hl'⟩ := back u j e _ he hl
    obtain ⟨x, hx, rfl, rfl⟩ := law.ofStream u j f k hf hl'
    refine ⟨x, ?_, rfl, rfl⟩
    rw [streams, law.filter_stream hc, Option.filter_eq_some_iff]
    exact ⟨hx, by simpa using onlyChunk_eq_false.2 apart⟩
  · obtain ⟨apart, f, hf, hl'⟩ := back u j e _ he hl
    obtain ⟨r, hr, rfl, rfl⟩ := law.ofReadback u j f hf hl'
    refine ⟨r, ?_, rfl, rfl⟩
    rw [readback, law.filter_readback hc, Option.filter_eq_some_iff]
    exact ⟨hr, by simpa using onlyChunk_eq_false.2 apart⟩

theorem State.setDipTouched_dip (s : State) (w u : Fin 32) :
    ((s.setDipTouched w).win u).dipTouched = (decide (u = w) || (s.win u).dipTouched) := by
  simp only [State.setDipTouched, State.win_modWin]
  by_cases h : w = u
  · simp [h]
  · simp [h, Ne.symm h]

/-- An erase event on one chunk that the cover meets. -/
theorem State.eraseChunk_erased (s : State) (w : Fin 32) (cover : Nat × Nat) (i : Nat) (c : Chunk) (hc : s.chunk? w i = some c)
    (met : (s.win w).body.chunkMet i [cover] = true) : Erased s (s.eraseChunk w cover i) cover (onlyChunk w i) := by
  obtain ⟨chunk, others, streams, readback, counters, _⟩ := s.endDigesting_spec w i c hc
  obtain ⟨chunk', others', engine', reports', _⟩ := (s.endDigesting w i).moveChunk_spec w i
    (s.erasedTo w cover i c.expected).1 (s.erasedTo w cover i c.expected).2 _ chunk
  have told := (s.endDigesting_told w i).silent
    (State.moveChunk_told _ w i (s.erasedTo w cover i c.expected).1 (s.erasedTo w cover i c.expected).2)
  have good : ∀ u, (s.win u).goodLaw → (((s.endDigesting w i).moveChunk w i (s.erasedTo w cover i c.expected).1
      (s.erasedTo w cover i c.expected).2).win u).goodLaw := by
    intro u law
    refine State.moveChunk_goodLaw _ w u i _ _ _ chunk (fun h => ?_) (s.endDigesting_goodLaw w u i law)
    obtain ⟨loaded, proven⟩ := State.erasedTo_good h
    exact ⟨((s.endDigesting_work w i).isLoaded w).trans loaded, proven⟩
  have work := s.eraseChunk_work w cover i
  rw [s.eraseChunk_of_met w cover i c hc met] at work ⊢
  simp only at work ⊢
  generalize (s.endDigesting w i).moveChunk w i (s.erasedTo w cover i c.expected).1 (s.erasedTo w cover i c.expected).2 = u
    at chunk' others' engine' reports' told good work ⊢
  have same : ∀ v j, (v, j) ≠ (w, i) → sameChunk s u v j := fun v j h =>
    congrArg (Option.map Chunk.known) ((others' v j h).trans (others v j h))
  have stream : ∀ k, u.stream k = if c.link = some (.stream k) then none else s.stream k := fun k => by
    rw [State.stream, engine']; exact streams k
  rw [← engine'] at readback
  rw [← reports'] at counters
  generalize ht : (if s.supply.state = .normal then u else u.setDipTouched w) = t at work ⊢
  have knows : ∀ v j, t.chunk? v j = u.chunk? v j := by
    intro v j
    rw [← ht]
    split
    · rfl
    · exact (u.setDipTouched_spec w).1 v j
  have goodCount : ∀ v, (t.win v).goodCount = (u.win v).goodCount := by
    intro v
    rw [← ht]
    split
    · rfl
    · exact ((u.setDipTouched_spec w).2.1 v).1
  have engine : t.engine = u.engine := by rw [← ht]; split <;> rfl
  have reports : t.reports = u.reports := by rw [← ht]; split <;> rfl
  have outline : ∀ v, (t.win v).body.outline = (u.win v).body.outline := by
    intro v
    rw [← ht]
    split
    · rfl
    · exact (u.setDipTouched_work w).outline v
  refine ⟨work, fun v j e he hit => ?_, fun v j hit => ?_, fun v law => ?_, fun v hd => ?_, fun v j e he hit away => ?_,
    fun law => ?_, fun law k => ?_, fun law => ?_, fun law => ?_⟩
  · obtain ⟨rfl, rfl⟩ := onlyChunk_iff.1 hit
    rw [hc] at he
    obtain rfl := Option.some.inj he
    exact ⟨_, (knows v j).trans chunk', rfl⟩
  · rw [sameChunk, knows]
    exact same v j (onlyChunk_eq_false.1 hit)
  · exact goodLaw_of_same (outline v) (fun j => by rw [sameChunk, knows]) (goodCount v) (good v law)
  · rw [← ht]
    split
    · rw [told.dipTouched, hd]
    · rw [State.setDipTouched_dip, told.dipTouched, hd, Bool.or_true]
  · obtain ⟨rfl, rfl⟩ := onlyChunk_iff.1 hit
    rw [← ht, if_neg away, State.setDipTouched_dip]
    simp
  · refine LinkLaw.of_same ?_ engine fun v j => congrArg _ (knows v j)
    exact law.of_ended hc chunk' rfl same stream readback
  · rw [State.stream, engine, ← law.filter_stream hc]
    exact stream k
  · rw [engine, readback, law.filter_readback hc]
  · rw [reports, counters]
    simp only [law.readback_iff hc]

end Sys2Proof.Machine
end

section
/-! The erase events of windows (R10, R72), one window after the other, and the reports of them all. -/

namespace Sys2Proof.Machine

/-! ### The events of one window -/

theorem State.endDigesting_win_of_ne (s : State) (w : Fin 32) (i : Nat) {u : Fin 32} (h : u ≠ w) :
    (s.endDigesting w i).win u = s.win u := by
  unfold State.endDigesting
  split
  · simp [State.unlink, State.modChunk, Ne.symm h, State.freeStream, State.modEngine]
    rfl
  · simp [State.unlink, State.modChunk, Ne.symm h]
    rfl
  · rfl

/-- An erase event on a chunk is nothing, or a move of the chunk behind the end of its digesting, with the window dip-touched or
not. -/
theorem State.eraseChunk_cases (s : State) (w : Fin 32) (cover : Nat × Nat) (i : Nat) :
    s.eraseChunk w cover i = s ∨
      ∃ st d, s.eraseChunk w cover i = (s.endDigesting w i).moveChunk w i st d ∨
        s.eraseChunk w cover i = ((s.endDigesting w i).moveChunk w i st d).setDipTouched w := by
  unfold State.eraseChunk
  split
  · refine .inr ?_
    split
    · split
      · unfold State.eraseFully
        dsimp only
        split
        · split
          · exact ⟨_, _, .inl rfl⟩
          · exact ⟨_, _, .inl rfl⟩
        all_goals exact ⟨_, _, .inl rfl⟩
      · exact ⟨_, _, .inl rfl⟩
    · exact ⟨_, _, .inr rfl⟩
  · exact .inl rfl

/-- What an event on the chunks of one window leaves of the others and of the reports before its end. -/
structure InWindow (w : Fin 32) (s t : State) : Prop where
  elsewhere : ∀ u, u ≠ w → t.win u = s.win u
  silent : reported s t []
  checkReportWanted : ∀ u, (t.win u).checkReportWanted = (s.win u).checkReportWanted

theorem InWindow.refl (w : Fin 32) (s : State) : InWindow w s s := ⟨fun _ _ => rfl, reported_nil s, fun _ => rfl⟩

theorem InWindow.trans {w : Fin 32} {s t u : State} (h : InWindow w s t) (k : InWindow w t u) : InWindow w s u :=
  ⟨fun v hv => (k.elsewhere v hv).trans (h.elsewhere v hv), h.silent.trans k.silent,
    fun v => (k.checkReportWanted v).trans (h.checkReportWanted v)⟩

theorem State.moved_inWindow (s : State) (w : Fin 32) (i : Nat) (st : ChunkState) (d : Option Digest) :
    InWindow w s ((s.endDigesting w i).moveChunk w i st d) := by
  have told := (s.endDigesting_told w i).silent (State.moveChunk_told _ w i st d)
  exact ⟨fun u h => (State.moveChunk_win_of_ne _ w i st d h).trans (s.endDigesting_win_of_ne w i h), told.reported,
    told.checkReportWanted⟩

theorem State.setDipTouched_inWindow (s : State) (w : Fin 32) : InWindow w s (s.setDipTouched w) := by
  refine ⟨fun u h => ?_, reported.of_reports_eq rfl rfl, fun u => ((s.setDipTouched_spec w).2.1 u).2⟩
  simp [State.setDipTouched, Ne.symm h]

theorem State.eraseChunk_inWindow (s : State) (w : Fin 32) (cover : Nat × Nat) (i : Nat) :
    InWindow w s (s.eraseChunk w cover i) := by
  rcases s.eraseChunk_cases w cover i with e | ⟨st, d, e | e⟩ <;> rw [e]
  · exact .refl w s
  · exact s.moved_inWindow w i st d
  · exact (s.moved_inWindow w i st d).trans (State.setDipTouched_inWindow _ w)

theorem State.eraseChunks_inWindow (s : State) (w : Fin 32) (cover : Nat × Nat) (l : List Nat) :
    InWindow w s (l.foldl (State.eraseChunk w cover) s) := by
  induction l generalizing s with
  | nil => exact .refl w s
  | cons i l ih => exact (s.eraseChunk_inWindow w cover i).trans (ih _)

/-- The erase events of the chunks in a list, which are met exactly as at the start. -/
theorem State.eraseChunks_erased (s : State) (w : Fin 32) (cover : Nat × Nat) (l : List Nat)
    (hl : ∀ i ∈ l, i < (s.win w).body.count) :
    Erased s (l.foldl (State.eraseChunk w cover) s) cover fun v j =>
      decide (v = w) && (decide (j ∈ l) && (s.win w).body.chunkMet j [cover]) := by
  induction l generalizing s with
  | nil => exact (Erased.refl s cover).congr fun _ _ _ _ => by simp
  | cons i l ih =>
    obtain ⟨c, hc⟩ := Option.isSome_iff_exists.1 ((s.chunk?_isSome w i).2 (hl i (by simp)))
    have first : Erased s (s.eraseChunk w cover i) cover fun v j =>
        onlyChunk w i v j && (s.win w).body.chunkMet i [cover] := by
      cases met : (s.win w).body.chunkMet i [cover] with
      | true => exact (s.eraseChunk_erased w cover i c hc met).congr fun _ _ _ _ => by simp
      | false =>
        have same : s.eraseChunk w cover i = s := by simp [State.eraseChunk, met]
        rw [same]
        exact (Erased.refl s cover).congr fun _ _ _ _ => by simp
    have count := first.work.count w
    have outline := first.work.outline w
    refine (first.trans (ih (s.eraseChunk w cover i) fun j hj => by rw [count]; exact hl j (by simp [hj]))).congr
      fun v j d _ => ?_
    rw [WinBody.chunkMet_of_outline outline]
    by_cases hv : v = w
    · by_cases hj : j = i
      · simp [onlyChunk, hv, hj]
      · simp [onlyChunk, hv, hj]
    · simp [onlyChunk, hv]

theorem State.closeEvent_win_of_ne (s : State) (w : Fin 32) (n : Nat) {u : Fin 32} (h : u ≠ w) :
    (s.closeEvent w n).win u = s.win u := by
  have image : (s.reportImage w n).win u = s.win u := by
    unfold State.reportImage
    split
    · dsimp only
      split
      · rfl
      · split <;> rfl
    all_goals rfl
  rw [State.closeEvent, ← image]
  generalize s.reportImage w n = t
  unfold State.completionTest
  split
  · split
    · simp [Ne.symm h]
    · rfl
  all_goals rfl

theorem State.closeEvent_erased (s : State) (w : Fin 32) (n : Nat) (cover : Nat × Nat) :
    Erased s (s.closeEvent w n) cover fun _ _ => false := by
  obtain ⟨chunks, engine, counters, _, flags⟩ := s.closeEvent_spec w n
  exact .of_same cover (s.closeEvent_work w n) (fun u i => congrArg _ (chunks u i)) engine counters (fun u => (flags u).1)
    fun u => (flags u).2.1

/-- The erase events of one window: its met chunks are erased, and it tells what is due, if one of its chunks is met (R10, R72). -/
theorem State.eraseWindow_spec (s : State) (w : Fin 32) (cover : Nat × Nat) :
    Erased s (s.eraseWindow cover w) cover (fun v j => decide (v = w) && (s.win w).body.chunkMet j [cover]) ∧
      tells s (s.eraseWindow cover w) (if (s.win w).body.anyChunkMet [cover] = true then [w] else []) [] [] ∧
      ∀ u, u ≠ w → (s.eraseWindow cover w).win u = s.win u := by
  unfold State.eraseWindow
  split
  · next met =>
    have inside := s.eraseChunks_inWindow w cover (List.range (s.win w).body.count)
    have erased := s.eraseChunks_erased w cover (List.range (s.win w).body.count) fun i hi => List.mem_range.1 hi
    refine ⟨(erased.trans (State.closeEvent_erased _ w (s.win w).goodCount cover)).congr fun v j c hc => ?_,
      tells_closeEvent w inside.silent inside.checkReportWanted, fun u hu => ?_⟩
    · by_cases hv : v = w
      · subst hv
        have there : j < (s.win v).body.count := (s.chunk?_isSome v j).1 (by rw [hc]; rfl)
        simp [there]
      · simp [hv]
    · rw [State.closeEvent_win_of_ne _ _ _ hu]
      exact inside.elsewhere u hu
  · next met =>
    refine ⟨(Erased.refl s cover).congr fun v j c hc => ?_, ⟨reported_nil s, fun v => by simp⟩, fun _ _ => rfl⟩
    by_cases hv : v = w
    · subst hv
      have there : j < (s.win v).body.count := (s.chunk?_isSome v j).1 (by rw [hc]; rfl)
      have no : (s.win v).body.chunkMet j [cover] = false := by
        by_contra yes
        exact met (List.any_eq_true.2 ⟨j, List.mem_range.2 there, by simpa using yes⟩)
      simp [no]
    · simp [hv]

/-! ### The events of all windows -/

theorem closing_congr {s s' t t' : State} {w : Fin 32} (hs : s.win w = s'.win w) (ht : t.win w = t'.win w) :
    closingReports s t w = closingReports s' t' w ∧ checkDoneDue s t w = checkDoneDue s' t' w := by
  unfold closingReports checkDoneDue
  rw [hs, ht]
  exact ⟨rfl, rfl⟩

/-- What one window tells and then the other windows, if nobody touches another's window, is told by all of them. -/
theorem tells.cons {s t u : State} {w : Fin 32} {first : Bool} {ws : List (Fin 32)} (hw : w ∉ ws)
    (h : tells s t (if first = true then [w] else []) [] []) (k : tells t u ws [] [])
    (before : ∀ v, v ≠ w → t.win v = s.win v) (behind : u.win w = t.win w) :
    tells s u (if first = true then w :: ws else ws) [] [] := by
  have rest : ∀ v ∈ ws, closingReports t u v = closingReports s u v ∧ checkDoneDue t u v = checkDoneDue s u v := fun v hv =>
    closing_congr (before v fun e => hw (e ▸ hv)) rfl
  have own : closingReports s t w = closingReports s u w ∧ checkDoneDue s t w = checkDoneDue s u w :=
    closing_congr rfl behind.symm
  have flat : ws.flatMap (closingReports t u) = ws.flatMap (closingReports s u) := by
    rw [List.flatMap_congr fun v hv => (rest v hv).1]
  obtain ⟨r₁, f₁⟩ := h
  obtain ⟨r₂, f₂⟩ := k
  have both := r₁.trans r₂
  simp only [List.nil_append, List.append_nil, flat] at both
  cases first with
  | true =>
    simp only [if_true, List.flatMap_cons, List.flatMap_nil, List.append_nil, own.1] at both f₁ ⊢
    refine ⟨by simpa using both, fun v => ?_⟩
    rw [f₂ v, f₁ v]
    by_cases hv : v = w
    · subst hv
      simp [hw, own.2]
    · by_cases hm : v ∈ ws
      · simp [hv, hm, (rest v hm).2]
      · simp [hv, hm]
  | false =>
    simp only [Bool.false_eq_true, if_false, List.flatMap_nil, List.nil_append] at both f₁ ⊢
    refine ⟨by simpa using both, fun v => ?_⟩
    rw [f₂ v, f₁ v]
    by_cases hm : v ∈ ws
    · simp [hm, (rest v hm).2]
    · simp [hm]

/-- The erase events of a list of windows (R10, R72). -/
theorem State.eraseWindow_foldl_spec (cover : Nat × Nat) {l : List (Fin 32)} (hl : l.Nodup) (s : State) :
    Erased s (l.foldl (State.eraseWindow cover) s) cover (fun v j => decide (v ∈ l) && (s.win v).body.chunkMet j [cover]) ∧
      tells s (l.foldl (State.eraseWindow cover) s) (l.filter fun w => (s.win w).body.anyChunkMet [cover]) [] [] ∧
      ∀ u, u ∉ l → (l.foldl (State.eraseWindow cover) s).win u = s.win u := by
  induction l generalizing s with
  | nil => exact ⟨(Erased.refl s cover).congr fun _ _ _ _ => by simp, ⟨reported_nil s, fun v => by simp⟩, fun _ _ => rfl⟩
  | cons w l ih =>
    obtain ⟨hw, hl⟩ := List.nodup_cons.1 hl
    obtain ⟨erased, told, elsewhere⟩ := s.eraseWindow_spec w cover
    obtain ⟨erased', told', elsewhere'⟩ := ih hl (s.eraseWindow cover w)
    have same : (l.filter fun v => ((s.eraseWindow cover w).win v).body.anyChunkMet [cover]) =
        l.filter fun v => (s.win v).body.anyChunkMet [cover] :=
      List.filter_congr fun v hv => by rw [elsewhere v fun e => hw (e ▸ hv)]
    rw [same] at told'
    rw [List.foldl_cons]
    refine ⟨(erased.trans erased').congr fun v j c _ => ?_, ?_, fun u hu => ?_⟩
    · by_cases hv : v = w
      · subst hv; simp [hw]
      · simp [hv, elsewhere v hv]
    · rw [List.filter_cons]
      exact tells.cons (fun h => hw (List.mem_filter.1 h).1) told told' elsewhere (elsewhere' w hw)
    · rw [List.mem_cons, not_or] at hu
      rw [elsewhere' u hu.2, elsewhere u hu.1]

end Sys2Proof.Machine
end

section
/-! A forwarded erase as a whole (R10): the windows' share, the control region's readers, and what comes behind (O20). -/

namespace Sys2Proof.Machine

/-! ### The readers of the control region (R162, R173) -/

/-- An erase reset readers of the control region: the parser, marks, pending commits and the journal; nothing of the windows. -/
structure ReadersReset (s t : State) : Prop where
  pending : t.pending = s.pending
  part : t.part = s.part
  cause : t.cause = s.cause
  strapPins : t.strapPins = s.strapPins
  straps : t.straps = s.straps
  bridge : t.bridge = s.bridge
  windows : t.windows = s.windows
  engine : t.engine = s.engine
  scheduler : t.scheduler = s.scheduler
  supply : t.supply = s.supply
  ports : t.ports = s.ports
  queue : t.reports.queue = s.reports.queue
  dropped : t.reports.dropped = s.reports.dropped
  counters : t.reports.counters = s.reports.counters

theorem ReadersReset.refl (s : State) : ReadersReset s s :=
  ⟨rfl, rfl, rfl, rfl, rfl, rfl, rfl, rfl, rfl, rfl, rfl, rfl, rfl, rfl⟩

theorem ReadersReset.trans {s t u : State} (h : ReadersReset s t) (k : ReadersReset t u) : ReadersReset s u :=
  ⟨k.pending.trans h.pending, k.part.trans h.part, k.cause.trans h.cause, k.strapPins.trans h.strapPins,
    k.straps.trans h.straps, k.bridge.trans h.bridge, k.windows.trans h.windows, k.engine.trans h.engine,
    k.scheduler.trans h.scheduler, k.supply.trans h.supply, k.ports.trans h.ports, k.queue.trans h.queue,
    k.dropped.trans h.dropped, k.counters.trans h.counters⟩

theorem ReadersReset.win {s t : State} (h : ReadersReset s t) (w : Fin 32) : t.win w = s.win w := by
  simp only [State.win, h.windows]

theorem ReadersReset.tells {r s t : State} (h : ReadersReset s t) {ws : List (Fin 32)} {ahead rest : List Report}
    (k : tells r s ws ahead rest) : tells r t ws ahead rest := by
  have closing : ∀ w, closingReports r t w = closingReports r s w ∧ checkDoneDue r t w = checkDoneDue r s w := fun w =>
    closing_congr rfl (h.win w)
  obtain ⟨⟨queue, dropped⟩, flag⟩ := k
  refine ⟨⟨?_, ?_⟩, fun w => ?_⟩
  · rw [funext fun w => (closing w).1, h.queue]; exact queue
  · rw [funext fun w => (closing w).1, h.dropped]; exact dropped
  · rw [h.win, (closing w).2]; exact flag w

theorem State.loseRecords_reset (cover : Nat × Nat) (l : List (Fin 8)) (s : State) :
    ReadersReset s (l.foldl (State.loseRecord cover) s) := by
  induction l generalizing s with
  | nil => exact .refl s
  | cons v l ih =>
    have one : ReadersReset s (s.loseRecord cover v) := ⟨rfl, rfl, rfl, rfl, rfl, rfl, rfl, rfl, rfl, rfl, rfl, rfl, rfl, rfl⟩
    exact one.trans (ih _)

theorem State.eraseMeetsCommand_reset (s : State) (cover : Nat × Nat) : ReadersReset s (s.eraseMeetsCommand cover).st := by
  unfold State.eraseMeetsCommand
  split
  · unfold State.eraseCommandArea
    refine ReadersReset.trans ?_ (State.loseRecords_reset cover allViews _)
    exact ⟨rfl, rfl, rfl, rfl, rfl, rfl, rfl, rfl, rfl, rfl, rfl, rfl, rfl, rfl⟩
  · exact .refl s

theorem State.eraseMeetsReport_reset (s : State) (cover : Nat × Nat) : ReadersReset s (s.eraseMeetsReport cover) := by
  unfold State.eraseMeetsReport
  split
  · unfold State.eraseReportArea
    split
    · exact .refl s
    · exact ⟨rfl, rfl, rfl, rfl, rfl, rfl, rfl, rfl, rfl, rfl, rfl, rfl, rfl, rfl⟩
  · exact .refl s

/-- An erase outside the control region meets neither of its areas (R23). -/
theorem overlaps_areas_of_region {p : Straps} {lo hi : Nat} (h : overlaps lo hi (commandBase p) (reportEnd p) = false) :
    overlaps lo hi (commandBase p) (commandEnd p) = false ∧ overlaps lo hi (reportBase p) (reportEnd p) = false := by
  simp only [overlaps, reportEnd, reportBase, commandEnd, Config.blockBytes] at h ⊢
  have apart := of_decide_eq_false h
  exact ⟨decide_eq_false (by omega), decide_eq_false (by omega)⟩

/-! ### The quiet timers (R10, R120) -/

theorem State.eraseTouches_behind (cover : Nat × Nat) (s : State) (w : Fin 32) : Behind s (s.eraseTouches cover w) := by
  unfold State.eraseTouches
  split
  · exact s.restartQuiet_behind w
  · exact .refl s

/-- One window behind the erase's touch of it (R10, R120). -/
def Window.erasedQuiet (cover : Nat × Nat) (v : Window) : Window :=
  if v.body.meets cover.1 cover.2 = true ∧ v.body.isLoaded = true then { v with quiet := v.body.quietStart } else v

theorem State.eraseTouches_win (cover : Nat × Nat) (s : State) (w u : Fin 32) :
    (s.eraseTouches cover w).win u = if w = u then (s.win w).erasedQuiet cover else s.win u := by
  unfold State.eraseTouches Window.erasedQuiet
  by_cases met : (s.win w).body.meets cover.1 cover.2 = true
  · rw [if_pos met, State.restartQuiet_spec, State.win_setWin]
    simp [met]
  · rw [if_neg met]
    by_cases h : w = u
    · subst h; simp [met]
    · simp [h]

theorem WinBody.meets_of_outline {a b : WinBody} (h : a.outline = b.outline) (lo hi : Nat) : a.meets lo hi = b.meets lo hi := by
  rw [WinBody.meets, WinBody.meets, (WinBody.outline_inj h).1]

theorem State.eraseWindows_quiet {s u : State} {cover : Nat × Nat} (work : ChunkWork s u) :
    quietRestarted s (allWindows.foldl (State.eraseTouches cover) u) fun w => (s.win w).body.meets cover.1 cover.2 = true := by
  intro w
  have meets := WinBody.meets_of_outline (work.outline w) cover.1 cover.2
  have loaded := work.isLoaded w
  rw [State.win_foldl (g := fun _ => Window.erasedQuiet cover) (State.eraseTouches_win cover) allWindows_nodup,
    if_pos (mem_allWindows w), Window.erasedQuiet, meets, loaded]
  refine ⟨fun hm hl => ?_, fun h => ?_⟩
  · rw [if_pos ⟨hm, hl⟩]
    exact WinBody.quietStart_of_outline (work.outline w)
  · rw [if_neg]
    · exact work.quiet w
    · rintro ⟨hm, hl⟩
      exact h.elim (fun n => n hm) fun n => absurd (n.symm.trans hl) nofun

/-! ### The forwarded erase -/

/-- The windows' share of a forwarded erase, ahead of the quiet timers. -/
def State.eraseEvents (cover : Nat × Nat) (s : State) : State := allWindows.foldl (State.eraseWindow cover) s

/-- What stands at the end of a forwarded erase, for the windows, contexts and reports. -/
structure EraseEnd (u t : State) : Prop where
  ends : EventEnd u t
  geom? : ∀ w, (t.win w).body.geom? = (u.win w).body.geom?
  outline : ∀ w, (t.win w).body.outline = (u.win w).body.outline
  scheduler : t.scheduler = { u.scheduler with queue := t.scheduler.queue }
  ports : t.ports = u.ports
  bridge : t.bridge = { u.bridge with claim := t.bridge.claim }

theorem EraseEnd.of_steps {u v x t : State} (first : Behind u v) (reset : ReadersReset v x) (last : Behind x t) :
    EraseEnd u t where
  ends :=
    { known := fun w i => ((first.known w i).trans
        (show sameChunk v x w i by simp only [sameChunk, State.chunk?, reset.win])).trans (last.known w i)
      engine := last.engine.trans (reset.engine.trans first.engine)
      counters := by rw [last.reports, reset.counters, first.reports]
      goodCount := fun w => by rw [last.goodCount, reset.win, first.goodCount]
      dipTouched := fun w => by rw [last.dipTouched, reset.win, first.dipTouched] }
  outline w := by rw [last.outline, reset.win, first.outline]
  geom? w := by
    rw [(WinBody.outline_inj (last.outline w)).1, reset.win, (WinBody.outline_inj (first.outline w)).1]
  scheduler := by rw [last.scheduler, reset.scheduler, first.scheduler]
  ports := last.ports.trans (reset.ports.trans first.ports)
  bridge := by rw [last.bridge, reset.bridge, first.bridge]

/-- The steps of a forwarded erase (R10), if it takes no RESTART's mark. -/
theorem exec_eraseForward {s : State} {c : Collected} {cover : Nat × Nat} (hc : s.bridge.collected = some c)
    (hp : c.cls ≠ .program) (hcover : cover = eraseCover c.cls c.addr s.flashBytes)
    (noRestart : overlaps cover.1 cover.2 (commandBase s.straps) (commandEnd s.straps) = true →
      s.reports.marks.any (fun m => m.restart && m.inCover cover) = false) :
    ∃ v x t, exec .eraseForward s = .next t ∧ v = allWindows.foldl (State.eraseTouches cover) ((s.touch c).eraseEvents cover) ∧
      x = (v.eraseMeetsCommand cover).st.eraseMeetsReport cover ∧ t = (x.refill).settleClaim := by
  refine ⟨_, _, _, ?_, rfl, rfl, rfl⟩
  have work : ChunkWork (s.touch c) ((s.touch c).eraseEvents cover) := State.eraseWindow_foldl_work _ cover
  have behind := Behind.foldl _ (State.eraseTouches_behind cover) allWindows ((s.touch c).eraseEvents cover)
  have restart : ((allWindows.foldl (State.eraseTouches cover) ((s.touch c).eraseEvents cover)).eraseMeetsCommand cover).restart
      = false := by
    generalize allWindows.foldl (State.eraseTouches cover) ((s.touch c).eraseEvents cover) = v at behind ⊢
    have straps : v.straps = s.straps := behind.straps.trans work.straps
    have marks : v.reports.marks = s.reports.marks := by rw [behind.reports, work.reports]; rfl
    unfold State.eraseMeetsCommand
    split
    · next meets =>
      rw [straps] at meets
      show (v.reports.marks.any fun m => m.restart && m.inCover cover) = false
      rw [marks]
      exact noRestart meets
    · rfl
  have run : exec .eraseForward s = .next (s.forwardErase c) := by
    simp only [exec, execEraseForward, hc, hp, if_false]
  rw [run]
  refine congrArg _ ?_
  unfold State.forwardErase
  simp only [← hcover]
  rw [show (s.emptyBuffer.busyWithHost (c.touched s.flashBytes)).eraseWindows cover =
    allWindows.foldl (State.eraseTouches cover) ((s.touch c).eraseEvents cover) from rfl, restart]
  simp only [State.restartIf, Bool.false_eq_true, if_false]

theorem nowUnchecked_of_erasedTo {s t : State} {w : Fin 32} {i : Nat} {c : Chunk} {cover : Nat × Nat}
    (known : ∃ d, t.chunk? w i = some d ∧
      d.known = ((s.erasedTo w cover i c.expected).1, c.expected, (s.erasedTo w cover i c.expected).2, none))
    (h : ¬(s.supply.state = .normal ∧ (s.win w).body.chunkCovered i cover = true)) : nowUnchecked t w i c := by
  rw [State.erasedTo, if_neg h] at known
  exact known

/-- Settles O20: `State.eraseWindow_foldl_spec` for the events, and what comes behind them keeps what they made. -/
theorem eraseSendsEachChunkWhereTheTableSays : Obligations.EraseSendsEachChunkWhereTheTableSays := by
  intro s c cover hc hp hcover noRestart
  obtain ⟨v, x, t, run, hv, hx, ht⟩ := exec_eraseForward hc hp hcover noRestart
  obtain ⟨events, told, _⟩ := State.eraseWindow_foldl_spec cover allWindows_nodup (s.touch c)
  have erased : Erased (s.touch c) ((s.touch c).eraseEvents cover) cover fun w i => (s.win w).body.chunkMet i [cover] :=
    events.congr fun w i _ _ => by rw [decide_eq_true (mem_allWindows w)]; rfl
  have links : ContextLaw s → LinkLaw (s.touch c) := fun law => ContextLaw.links (s := s.touch c) law
  have work := erased.work
  have told' : tells (s.touch c) ((s.touch c).eraseEvents cover)
    (allWindows.filter fun w => (s.win w).body.anyChunkMet [cover]) [] [] := told
  have quiet := State.eraseWindows_quiet (cover := cover) work
  have first : Behind ((s.touch c).eraseEvents cover) v := by
    rw [hv]
    exact Behind.foldl _ (State.eraseTouches_behind cover) allWindows _
  rw [← hv] at quiet
  clear hv told
  generalize (s.touch c).eraseEvents cover = u at erased told' first quiet work
  have command := v.eraseMeetsCommand_reset cover
  have reset : ReadersReset v x := by
    rw [hx]
    exact command.trans (State.eraseMeetsReport_reset _ cover)
  have refilled := x.refill_queueWork
  have last : Behind x t := by
    rw [ht]
    exact refilled.behind.trans (State.settleClaim_behind _)
  have finish := EraseEnd.of_steps first reset last
  have claim : t.bridge.claim = 0 := by
    rw [ht]
    refine State.settleClaim_claim_of_busy _ ?_
    rw [refilled.behind.busy, reset.bridge, first.busy, work.bridge]
    rfl
  have tell := last.tells (reset.tells (first.tells told'))
  have quietEnd : ∀ w, (t.win w).quiet = (v.win w).quiet := by
    intro w
    rw [ht, State.settleClaim_win, refilled.chunks.quiet, reset.win]
  have touched : c.touched s.flashBytes = [cover] := by rw [Collected.touched, if_neg hp, hcover]
  have erasedEnd : ∀ w i d, s.chunk? w i = some d → (s.win w).body.chunkMet i [cover] = true →
      ∃ e, t.chunk? w i = some e ∧
        e.known = ((s.erasedTo w cover i d.expected).1, d.expected, (s.erasedTo w cover i d.expected).2, none) := by
    intro w i d hd met
    exact (finish.ends.known w i).knows (erased.chunk w i d hd met)
  refine ⟨t, run, ⟨?_, ?_, ?_⟩, fun apart => ?_, fun w => ?_, ?_, fun law w => ?_, fun law => ⟨fun k => ?_, ?_, ?_⟩,
    fun w i d hd => ⟨fun unmet => ?_, fun met away => ⟨?_, ?_⟩, fun met _ partly => ?_, fun met normal covered => ?_⟩⟩
  · rw [finish.bridge, claim, work.bridge]
    rfl
  · rw [finish.bridge, work.bridge, ← touched]
    exact listedTouched_add _ _
  · rw [finish.ports, work.ports]
    rfl
  · have straps : v.straps = s.straps := first.straps.trans work.straps
    obtain ⟨noCommand, noReport⟩ := overlaps_areas_of_region apart
    have same : x = v := by
      rw [hx, State.eraseMeetsCommand, straps, if_neg (by simp [noCommand]), State.eraseMeetsReport]
      dsimp only
      rw [straps, if_neg (by simp [noReport])]
    subst same
    exact sameOutsideChunks_of_work work (first.trans last)
  · rw [quietEnd]
    exact quiet w
  · exact tell
  · exact goodLaw_of_same (finish.outline w) (finish.ends.known w) (finish.ends.goodCount w) (erased.good w (law w))
  · rw [finish.ends.stream, erased.streams (links law)]
    rfl
  · rw [finish.ends.engine, erased.readback (links law)]
    rfl
  · rw [finish.ends.counters, erased.counters (links law)]
    rfl
  · exact sameChunk.trans (erased.others w i unmet) (finish.ends.known w i)
  · exact nowUnchecked_of_erasedTo (erasedEnd w i d hd met) fun h => away h.1
  · rw [finish.ends.dipTouched]
    exact erased.dip w i d hd met away
  · exact nowUnchecked_of_erasedTo (erasedEnd w i d hd met) fun h => absurd (partly.symm.trans h.2) nofun
  · obtain ⟨e, he, known⟩ := erasedEnd w i d hd met
    rw [State.erasedTo, if_pos ⟨normal, covered⟩] at known
    refine ⟨e, he, fun g cat hb => ?_, fun g cat ed hb => ?_⟩
    · rw [hb] at known
      exact known
    · rw [hb, WinBody.erasedTo] at known
      rw [known]
      split <;> rfl

end Sys2Proof.Machine
end

section
/-! What a READ stands on while ticks, band changes, read-back starts and harvests fall into it: the place of each of its bytes (R33
to R36), and that only the READ itself signals fill (R133, R175). -/

namespace Sys2Proof.Machine

/-! ### The place of a byte stands -/

theorem EventWork.view {s t : State} (h : EventWork s t) (v : Fin 8) : t.view v = s.view v := by
  simp only [State.view, h.views]

theorem EventWork.viewCovers {s t : State} (h : EventWork s t) (v : View) (x : Nat) : t.viewCovers v x = s.viewCovers v x := by
  have size : t.viewSize v = s.viewSize v := by
    unfold State.viewSize WinBody.size
    rw [h.geom?]
  rw [State.viewCovers, State.viewCovers, size]

theorem EventWork.viewAt {s t : State} (h : EventWork s t) (x : Nat) : t.viewAt x = s.viewAt x := by
  simp only [State.viewAt, h.view, h.viewCovers]

theorem EventWork.mapAddr {s t : State} (h : EventWork s t) (x : Nat) : t.mapAddr x = s.mapAddr x := by
  have view : t.view = s.view := funext h.view
  unfold State.mapAddr
  rw [h.viewAt, view]
  simp only [WinBody.base, h.geom?]

theorem EventWork.windowAt {s t : State} (h : EventWork s t) (p : Nat) : t.windowAt p = s.windowAt p := by
  simp only [State.windowAt, WinBody.covers, h.geom?]

theorem WinBody.site_of_outline {a b : WinBody} (h : a.outline = b.outline) (p : Nat) : a.site p = b.site p := by
  obtain ⟨chunks, rfl⟩ := WinBody.modCat_of_outline h
  cases b <;> rfl

/-- No event moves a byte of a READ (R4, R33). -/
theorem EventWork.siteOf {s t : State} (h : EventWork s t) (x : Nat) : t.siteOf x = s.siteOf x := by
  unfold State.siteOf
  simp only [h.mapAddr, h.windowAt, h.viewAt, WinBody.site_of_outline (h.outline _)]

theorem EventWork.isProtected {s t : State} (h : EventWork s t) (b : ByteSite) : t.isProtected b = s.isProtected b := by
  simp only [State.isProtected, WinBody.guarded, h.geom?]

theorem EventWork.fillOf {s t : State} (h : EventWork s t) (b : ByteSite) : t.fillOf b = s.fillOf b := by
  unfold State.fillOf
  have geom : (fun w => (t.win w).body.geom?) = fun w => (s.win w).body.geom? := funext h.geom?
  rw [geom]

theorem EventWork.code {s t : State} (h : EventWork s t) (w : Fin 32) : (t.win w).body.code = (s.win w).body.code :=
  (WinBody.outline_inj (h.outline w)).2.2.1

theorem EventWork.chunkLen {s t : State} (h : EventWork s t) (w : Fin 32) (i : Nat) :
    (t.win w).body.chunkLen i = (s.win w).body.chunkLen i := (WinBody.outline_inj (h.outline w)).2.2.2.2 i

/-- The bridge takes the opcode of a READ and leaves the flash and everything else (R17). -/
theorem State.takeOpcode_same (s : State) : s.takeOpcode = { s with bridge := { s.bridge with pairing := false } } := rfl

/-! ### Only the READ signals fill -/

/-- No fill was signalled: reports of other kinds were raised, or lost with the dropped flag set, and the fill-reported flags and
FILL_COMMANDS stand (R133, R175, R176). -/
structure Unsignalled (s t : State) : Prop where
  raised : ∃ raised, t.reports.queue = s.reports.queue ++ raised ∧ ∀ r ∈ raised, r.fillWindow = none
  dropped : s.reports.dropped = true → t.reports.dropped = true
  fillCommands : t.reports.counters.fillCommands = s.reports.counters.fillCommands
  fillReported : ∀ w, (t.win w).fillReported = (s.win w).fillReported

theorem Unsignalled.refl (s : State) : Unsignalled s s := ⟨⟨[], by simp, nofun⟩, id, rfl, fun _ => rfl⟩

theorem Unsignalled.trans {s t u : State} (h : Unsignalled s t) (k : Unsignalled t u) : Unsignalled s u where
  raised := by
    obtain ⟨a, ha, na⟩ := h.raised
    obtain ⟨b, hb, nb⟩ := k.raised
    refine ⟨a ++ b, by rw [hb, ha, List.append_assoc], fun r hr => ?_⟩
    rcases List.mem_append.1 hr with hr | hr
    · exact na r hr
    · exact nb r hr
  dropped := k.dropped ∘ h.dropped
  fillCommands := k.fillCommands.trans h.fillCommands
  fillReported w := (k.fillReported w).trans (h.fillReported w)

theorem Unsignalled.foldl {α : Type} (f : State → α → State) (hf : ∀ s a, Unsignalled s (f s a)) (l : List α) (s : State) :
    Unsignalled s (l.foldl f s) := by
  induction l generalizing s with
  | nil => exact .refl s
  | cons a l ih => exact (hf s a).trans (ih _)

/-- Work that leaves the reports and the fill-reported flags. -/
theorem Unsignalled.of_same {s t : State} (reports : t.reports = s.reports)
    (fillReported : ∀ w, (t.win w).fillReported = (s.win w).fillReported) : Unsignalled s t :=
  ⟨⟨[], by rw [reports, List.append_nil], nofun⟩, by rw [reports]; exact id, by rw [reports], fillReported⟩

/-- An operation that told these reports, none of them GUARD_FILL. -/
theorem Told.unsignalled {s t : State} {raised : List Report} (h : Told s t raised) (kinds : ∀ r ∈ raised, r.fillWindow = none)
    (fillCommands : t.reports.counters.fillCommands = s.reports.counters.fillCommands) : Unsignalled s t where
  raised := ⟨_, h.reported.1, fun r hr => kinds r (List.mem_of_mem_take hr)⟩
  dropped hd := by rw [h.reported.2, hd, Bool.true_or]
  fillCommands := fillCommands
  fillReported := h.fillReported

theorem Behind.unsignalled {s t : State} (h : Behind s t) : Unsignalled s t := .of_same h.reports h.fillReported

theorem State.raise_unsignalled (s : State) (r : Report) (h : r.fillWindow = none) : Unsignalled s (s.raise r) :=
  (s.raise_told r).unsignalled (by simpa using h) (by simp)

theorem State.modWin_unsignalled (s : State) (w : Fin 32) (f : Window → Window) (hf : ∀ v, (f v).fillReported = v.fillReported) :
    Unsignalled s (s.modWin w f) := by
  refine .of_same rfl fun u => ?_
  rw [State.win_modWin]
  split
  · next e => rw [hf, e]
  · rfl

theorem State.modChunk_unsignalled (s : State) (w : Fin 32) (i : Nat) (f : Chunk → Chunk) : Unsignalled s (s.modChunk w i f) :=
  s.modWin_unsignalled w _ fun _ => rfl

theorem State.modEngine_unsignalled (s : State) (f : Engine → Engine) : Unsignalled s (s.modEngine f) := .of_same rfl fun _ => rfl

theorem State.modScheduler_unsignalled (s : State) (f : Scheduler → Scheduler) : Unsignalled s (s.modScheduler f) :=
  .of_same rfl fun _ => rfl

theorem State.modSupply_unsignalled (s : State) (f : Supply → Supply) : Unsignalled s (s.modSupply f) := .of_same rfl fun _ => rfl

theorem State.modParser_unsignalled (s : State) (f : Parser → Parser) : Unsignalled s (s.modParser f) := .of_same rfl fun _ => rfl

theorem State.modBridge_unsignalled (s : State) (f : Bridge → Bridge) : Unsignalled s (s.modBridge f) := .of_same rfl fun _ => rfl

theorem State.modCounters_unsignalled (s : State) (f : Counters → Counters) (hf : ∀ c, (f c).fillCommands = c.fillCommands) :
    Unsignalled s (s.modCounters f) := (s.modCounters_told f).unsignalled nofun (hf _)

theorem State.countAbort_unsignalled (s : State) : Unsignalled s s.countAbort := s.modCounters_unsignalled _ fun _ => rfl

theorem State.countGoodVerdict_unsignalled (s : State) : Unsignalled s s.countGoodVerdict :=
  s.modCounters_unsignalled _ fun _ => rfl

theorem State.countBadVerdict_unsignalled (s : State) : Unsignalled s s.countBadVerdict :=
  s.modCounters_unsignalled _ fun _ => rfl

theorem State.setDipTouched_unsignalled (s : State) (w : Fin 32) : Unsignalled s (s.setDipTouched w) :=
  s.modWin_unsignalled w _ fun _ => rfl

theorem State.endDigesting_unsignalled (s : State) (w : Fin 32) (i : Nat) : Unsignalled s (s.endDigesting w i) := by
  unfold State.endDigesting
  split
  · exact (s.modEngine_unsignalled _).trans (State.modChunk_unsignalled _ _ _ _)
  · exact ((s.modEngine_unsignalled _).trans (State.countAbort_unsignalled _)).trans
      (State.modChunk_unsignalled _ _ _ _)
  · exact .refl s

theorem State.moveChunk_unsignalled (s : State) (w : Fin 32) (i : Nat) (st : ChunkState) (d : Option Digest) :
    Unsignalled s (s.moveChunk w i st d) := by
  refine (s.moveChunk_told w i st d).unsignalled nofun ?_
  cases hc : s.chunk? w i with
  | none => rw [s.moveChunk_none w i st d hc]
  | some c => rw [(s.moveChunk_spec w i st d c hc).2.2.2.1]

theorem State.disturb_unsignalled (s : State) (w : Fin 32) (i : Nat) : Unsignalled s (s.disturb w i) :=
  (s.endDigesting_unsignalled w i).trans (State.moveChunk_unsignalled _ _ _ _ _)

theorem State.reportImage_unsignalled (s : State) (w : Fin 32) (n : Nat) : Unsignalled s (s.reportImage w n) := by
  unfold State.reportImage
  split
  · dsimp only
    split
    · exact s.raise_unsignalled _ rfl
    · split
      · exact s.raise_unsignalled _ rfl
      · exact .refl s
  all_goals exact .refl s

theorem State.completionTest_unsignalled (s : State) (w : Fin 32) : Unsignalled s (s.completionTest w) := by
  unfold State.completionTest
  split
  · split
    · exact (s.raise_unsignalled _ rfl).trans (State.modWin_unsignalled _ _ _ fun _ => rfl)
    · exact .refl s
  all_goals exact .refl s

theorem State.closeEvent_unsignalled (s : State) (w : Fin 32) (n : Nat) : Unsignalled s (s.closeEvent w n) :=
  (s.reportImage_unsignalled w n).trans (State.completionTest_unsignalled _ w)

theorem State.verdict_unsignalled (s : State) (w : Fin 32) (i : Nat) (d : Digest) (source : Source) :
    Unsignalled s (s.verdict w i d source) := by
  unfold State.verdict
  split
  · split
    · exact (s.moveChunk_unsignalled _ _ _ _).trans (State.countGoodVerdict_unsignalled _)
    · exact ((s.moveChunk_unsignalled _ _ _ _).trans (State.countBadVerdict_unsignalled _)).trans
        (State.raise_unsignalled _ _ rfl)
  · exact s.moveChunk_unsignalled _ _ _ _

theorem State.advanceStream_unsignalled (s : State) (k : Fin 3) (x : StreamCtx) (source : Source) :
    Unsignalled s (s.advanceStream k x source) := by
  unfold State.advanceStream
  split
  · exact ((s.modEngine_unsignalled _).trans (State.modChunk_unsignalled _ _ _ _)).trans (State.verdict_unsignalled _ _ _ _ _)
  · exact s.modEngine_unsignalled _

/-- Harvesting signals no fill (R105). -/
theorem State.harvest_unsignalled (s : State) (o : Offer) : Unsignalled s (s.harvest o) := by
  have starts : ∀ t : State, Unsignalled t (t.startReadStream o) := by
    intro t
    unfold State.startReadStream
    split
    · exact .refl t
    · exact ((t.modChunk_unsignalled _ _ _).trans (State.modEngine_unsignalled _ _)).trans
        (State.advanceStream_unsignalled _ _ _ _)
  have idle : Unsignalled s (s.harvestIdle o) := by
    unfold State.harvestIdle
    split
    · split
      · exact s.advanceStream_unsignalled _ _ _
      · exact s.endDigesting_unsignalled _ _
    · split
      · exact starts s
      · exact .refl s
  unfold State.harvest
  split
  · exact .refl s
  · split
    · exact .refl s
    · split
      · exact s.endDigesting_unsignalled _ _
      · exact (idle.trans (State.closeEvent_unsignalled _ _ _)).trans (State.refill_queueWork _).behind.unsignalled

theorem State.tickTimers_unsignalled (s : State) : Unsignalled s s.tickTimers := by
  have quiet : ∀ (t : State) (w : Fin 32), Unsignalled t (t.tickQuiet w) := by
    intro t w
    unfold State.tickQuiet
    split
    · exact .refl t
    · split
      · exact t.modWin_unsignalled _ _ fun _ => rfl
      · exact t.modWin_unsignalled _ _ fun _ => rfl
  have convert : ∀ (t : State) (w : Fin 32), Unsignalled t (t.convertDip w) := by
    intro t w
    unfold State.convertDip
    split
    · exact t.modWin_unsignalled _ _ fun _ => rfl
    · exact .refl t
  have normal : ∀ (now : Word32) (t : State), Unsignalled t (t.enterNormal now) := by
    intro now t
    simp only [State.enterNormal]
    refine .trans ?_ (State.modSupply_unsignalled _ _)
    refine .trans ?_ (State.raise_unsignalled _ _ rfl)
    exact ((t.modSupply_unsignalled _).trans (Unsignalled.foldl _ convert allWindows _)).trans
      (State.refill_queueWork _).behind.unsignalled
  have settle : ∀ t : State, Unsignalled t t.tickSettle := by
    intro t
    unfold State.tickSettle
    split
    · split
      · exact normal _ t
      · exact t.modSupply_unsignalled _
    all_goals exact .refl t
  rw [s.tickTimers_eq, s.counted_eq]
  have counted : Unsignalled s { s with bridge := { s.bridge with claim := s.tickedClaim }, scheduler := s.scheduler.tick } :=
    .of_same rfl fun _ => rfl
  exact ((counted.trans (Unsignalled.foldl _ quiet allWindows _)).trans (settle _)).trans
    (State.refill_queueWork _).behind.unsignalled

theorem dipChunk_unsignalled (w : Fin 32) (ranges : List (Nat × Nat)) (m : DipMark) (i : Nat) :
    Unsignalled m.st (dipChunk w ranges m i).st := by
  unfold dipChunk
  split
  · exact (m.st.disturb_unsignalled _ _).trans (State.setDipTouched_unsignalled _ _)
  · exact .refl _

theorem DipMark.foldl_unsignalled {α : Type} (f : DipMark → α → DipMark) (hf : ∀ m a, Unsignalled m.st (f m a).st) (l : List α)
    (m : DipMark) : Unsignalled m.st (l.foldl f m).st := by
  induction l generalizing m with
  | nil => exact .refl _
  | cons a l ih => exact (hf m a).trans (ih _)

theorem dipWindow_unsignalled (ranges : List (Nat × Nat)) (m : DipMark) (w : Fin 32) :
    Unsignalled m.st (dipWindow ranges m w).st := by
  unfold dipWindow
  split
  · exact (DipMark.foldl_unsignalled _ (dipChunk_unsignalled w ranges) _ m).trans (State.closeEvent_unsignalled _ _ _)
  · exact .refl _

theorem State.dipMark_unsignalled (s : State) (ranges : List (Nat × Nat)) : Unsignalled s (s.dipMark ranges).st := by
  have fold : ∀ (l : List (Fin 32)) (m : DipMark), Unsignalled m.st (l.foldl (dipWindow ranges) m).st :=
    DipMark.foldl_unsignalled _ (dipWindow_unsignalled ranges)
  exact fold allWindows { st := s, marked := 0, windows := 0 }

theorem State.enterDip_unsignalled (fresh : Bool) (s : State) : Unsignalled s (s.enterDip fresh) := by
  have strike : Unsignalled s s.dipStrike.st := by
    unfold State.dipStrike
    split
    · exact (s.dipMark_unsignalled _).trans (State.modParser_unsignalled _ _)
    · exact .refl s
  simp only [State.enterDip]
  split
  · exact (strike.trans (State.modSupply_unsignalled _ _)).trans (State.raise_unsignalled _ _ rfl)
  · exact strike.trans (State.modSupply_unsignalled _ _)

theorem State.changeBand_unsignalled (band : Band) (s : State) : Unsignalled s (s.changeBand band) := by
  have held : Unsignalled s (s.modSupply fun p => { p with band := band }) := s.modSupply_unsignalled _
  have event : Unsignalled s (s.bandEvent band) := by
    simp only [State.bandEvent]
    split
    · exact .refl s
    · split
      · exact held.trans (State.enterDip_unsignalled _ _)
      · exact held
      · exact held
      · exact held.trans (State.modSupply_unsignalled _ _)
      · exact held
      · exact held
      · exact held.trans (State.enterDip_unsignalled _ _)
      · exact held.trans (State.modSupply_unsignalled _ _)
      · exact held.trans (State.modSupply_unsignalled _ _)
  unfold State.changeBand
  split
  · exact .refl s
  · exact (event.trans (State.refill_queueWork _).behind.unsignalled).trans (State.settleClaim_behind _).unsignalled

theorem State.takeHead_unsignalled (s : State) : Unsignalled s s.takeHead := by
  unfold State.takeHead
  split
  · split
    · unfold State.startReadback
      exact ((((((s.modScheduler_unsignalled _).trans (State.endDigesting_unsignalled _ _ _)).trans
        (State.moveChunk_unsignalled _ _ _ _ _)).trans (State.modChunk_unsignalled _ _ _ _)).trans
        (State.modEngine_unsignalled _ _)).trans (State.refill_queueWork _).behind.unsignalled).trans
        (State.settleClaim_behind _).unsignalled
    · exact .refl s
  · exact .refl s

/-- No event that falls into a READ signals fill (R105). -/
theorem State.duringRead_unsignalled (s : State) (e : DuringRead) : Unsignalled s (s.duringRead e) := by
  cases e with
  | tick => exact s.tickTimers_unsignalled.trans (State.settleClaim_behind _).unsignalled
  | bandChange band => exact s.changeBand_unsignalled band
  | readbackStart => exact s.takeHead_unsignalled

end Sys2Proof.Machine
end

section
/-! A READ byte by byte (R4, R5): the READ in progress ahead of each byte, which bytes are fill, and how fill is accounted. -/

namespace Sys2Proof.Machine

/-! ### The READ in progress -/

/-- The host address of byte `k` of a READ (R32). -/
def State.readAddr (s : State) (x : HostXfer) (k : Nat) : Nat :=
  (x.addr (s.classOf x.opcode) s.flashBytes + k) % s.flashBytes

/-- The data bytes of a READ. -/
def State.readData (s : State) (x : HostXfer) : List Byte := x.readBytes (s.classOf x.opcode)

/-- The place of byte `k` of a READ (R34). -/
def State.readSite (s : State) (x : HostXfer) (k : Nat) : ByteSite := s.siteOf (s.readAddr x k)

/-- The READ with its first `k` bytes delivered, and what falls in front of the next byte not yet. -/
def State.readUpTo (s : State) (x : HostXfer) : Nat → ReadRun
  | 0 => { st := s.takeOpcode, last := none, offer := none, out := [], filled := [] }
  | k + 1 =>
    match (s.readData x)[k]? with
    | some b => ((s.readUpTo x k).between (s.readAddr x k) (eventsAt x.during k)).byte (s.readAddr x k) b
    | none => s.readUpTo x k

/-- The READ just ahead of byte `k`. -/
def State.readBefore (s : State) (x : HostXfer) (k : Nat) : ReadRun :=
  (s.readUpTo x k).between (s.readAddr x k) (eventsAt x.during k)

/-- The READ just ahead of byte `k`, its segment ended if the byte begins another. -/
def State.readCut (s : State) (x : HostXfer) (k : Nat) : ReadRun := (s.readBefore x k).cut (s.readSite x k)

/-- Byte `k` of a READ is delivered as fill (R4). -/
def State.readFills (s : State) (x : HostXfer) (k : Nat) : Bool :=
  decide (k < (s.readData x).length) && (s.readCut x k).st.fills (s.readSite x k)

theorem State.readUpTo_succ (s : State) (x : HostXfer) {k : Nat} {b : Byte} (h : (s.readData x)[k]? = some b) :
    s.readUpTo x (k + 1) = (s.readBefore x k).byte (s.readAddr x k) b := by
  simp only [State.readUpTo, h]
  rfl

/-- The READ at its end is the READ just ahead of the byte behind the last. -/
theorem State.readRun_eq (s : State) (x : HostXfer) : s.readRun x = s.readBefore x (s.readData x).length := by
  have from' : ∀ (rest : List Byte) (k : Nat), (s.readData x).drop k = rest → k ≤ (s.readData x).length →
      ReadRun.bytes (x.addr (s.classOf x.opcode) s.flashBytes) s.flashBytes x.during k rest (s.readUpTo x k) =
        s.readBefore x (s.readData x).length := by
    intro rest
    induction rest with
    | nil =>
      intro k hk le
      obtain rfl : k = (s.readData x).length := le_antisymm le (List.drop_eq_nil_iff.1 hk)
      rfl
    | cons b bs ih =>
      intro k hk _
      have lt : k < (s.readData x).length := by
        by_contra h
        rw [List.drop_eq_nil_of_le (Nat.not_lt.1 h)] at hk
        cases hk
      have head : (s.readData x)[k]? = some b := by
        rw [← List.head?_drop, hk]
        rfl
      have tail : (s.readData x).drop (k + 1) = bs := by rw [← List.tail_drop, hk, List.tail_cons]
      have later := ih (k + 1) tail lt
      rw [s.readUpTo_succ x head] at later
      exact later
  exact from' _ 0 rfl (Nat.zero_le _)

theorem State.readUpTo_event (s : State) (x : HostXfer) (k : Nat) : EventWork s.takeOpcode (s.readUpTo x k).st := by
  induction k with
  | zero => exact .refl _
  | succ k ih =>
    cases h : (s.readData x)[k]? with
    | some b =>
      rw [s.readUpTo_succ x h]
      exact (ih.trans (ReadRun.between_event _ _ _).1).trans (ReadRun.byte_event _ _ _)
    | none =>
      simp only [State.readUpTo, h]
      exact ih

theorem State.readBefore_event (s : State) (x : HostXfer) (k : Nat) : EventWork s.takeOpcode (s.readBefore x k).st :=
  (s.readUpTo_event x k).trans (ReadRun.between_event _ _ _).1

theorem State.readCut_event (s : State) (x : HostXfer) (k : Nat) : EventWork s.takeOpcode (s.readCut x k).st :=
  (s.readBefore_event x k).trans (ReadRun.cut_work _ _).1.event

/-- The place of a byte is what it was when the READ began (R4, R33). -/
theorem State.readBefore_site (s : State) (x : HostXfer) (k j : Nat) : (s.readBefore x k).st.siteOf (s.readAddr x j) = s.readSite x j :=
  (s.readBefore_event x k).siteOf _

theorem ReadRun.cut_filled (r : ReadRun) (b : ByteSite) : (r.cut b).filled = r.filled := by
  unfold ReadRun.cut
  split
  · split
    · rfl
    · unfold ReadRun.close
      split <;> rfl
  · rfl

theorem ReadRun.between_filled (r : ReadRun) (x : Nat) (events : List DuringRead) : (r.between x events).filled = r.filled := by
  cases events with
  | nil => rfl
  | cons e es => exact r.cut_filled _

theorem ReadRun.account_same (r : ReadRun) (b : ByteSite) :
    (r.account b).out = r.out ∧ (r.account b).last = r.last ∧ (r.account b).offer = r.offer := by
  unfold ReadRun.account
  split
  · split <;> exact ⟨rfl, rfl, rfl⟩
  · exact ⟨rfl, rfl, rfl⟩

/-- What byte `k` adds to a READ: its delivery, its place, its part of the offer (R4, R5). -/
theorem State.readUpTo_byte (s : State) (x : HostXfer) {k : Nat} {b : Byte} (h : (s.readData x)[k]? = some b) :
    (s.readUpTo x (k + 1)).out = (s.readUpTo x k).out ++ [if s.readFills x k then s.fillOf (s.readSite x k) else b] ∧
      (s.readUpTo x (k + 1)).last = some (s.readSite x k) ∧
      (s.readUpTo x (k + 1)).offer = (s.readCut x k).grow (s.readSite x k) b := by
  have lt : k < (s.readData x).length := by
    by_contra n
    rw [List.getElem?_eq_none (Nat.not_lt.1 n)] at h
    cases h
  have fills : s.readFills x k = (s.readCut x k).st.fills (s.readSite x k) := by
    rw [State.readFills, decide_eq_true lt, Bool.true_and]
  rw [s.readUpTo_succ x h]
  unfold ReadRun.byte
  rw [s.readBefore_site]
  obtain ⟨out, last, offer⟩ := ReadRun.account_same
    { (s.readBefore x k).cut (s.readSite x k) with
      last := some (s.readSite x k)
      offer := ((s.readBefore x k).cut (s.readSite x k)).grow (s.readSite x k) b
      out := ((s.readBefore x k).cut (s.readSite x k)).out ++
        [((s.readBefore x k).cut (s.readSite x k)).st.delivered (s.readSite x k) b] } (s.readSite x k)
  refine ⟨?_, last, offer⟩
  rw [out]
  dsimp only
  rw [(ReadRun.cut_work _ _).2, show (s.readBefore x k).out = (s.readUpTo x k).out from (ReadRun.between_event _ _ _).2,
    State.delivered, fills, show (s.readBefore x k).cut (s.readSite x k) = s.readCut x k from rfl,
    (s.readCut_event x k).fillOf]
  rfl

/-- Byte `k` of a READ is delivered as the flash gave it or as its window's fill byte (R4). -/
theorem State.readUpTo_out (s : State) (x : HostXfer) (n : Nat) (hn : n ≤ (s.readData x).length) :
    (s.readUpTo x n).out.length = n ∧ ∀ k b, k < n → (s.readData x)[k]? = some b →
      (s.readUpTo x n).out[k]? = some (if s.readFills x k = true then s.fillOf (s.readSite x k) else b) := by
  induction n with
  | zero => exact ⟨rfl, fun k b h => absurd h (Nat.not_lt_zero k)⟩
  | succ n ih =>
    obtain ⟨length, bytes⟩ := ih (by omega)
    have last : (s.readData x)[n]? = some (s.readData x)[n] := List.getElem?_eq_getElem (by omega)
    rw [(s.readUpTo_byte x last).1]
    refine ⟨by rw [List.length_append, length]; rfl, fun k b hk hb => ?_⟩
    by_cases h : k = n
    · subst h
      rw [hb] at last
      obtain rfl := Option.some.inj last
      rw [List.getElem?_append_right (by omega), length]
      simp
    · rw [List.getElem?_append_left (by omega)]
      exact bytes k b (by omega) hb

theorem State.readRun_out (s : State) (x : HostXfer) : (s.readRun x).out = (s.readUpTo x (s.readData x).length).out := by
  rw [s.readRun_eq]
  exact (ReadRun.between_event _ _ _).2

/-- An unprotected byte is delivered as the flash gave it (R4). -/
theorem State.readFills_of_unprotected (s : State) (x : HostXfer) (k : Nat) (h : s.isProtected (s.readSite x k) = false) :
    s.readFills x k = false := by
  have same : (s.readCut x k).st.isProtected (s.readSite x k) = s.isProtected (s.readSite x k) :=
    (s.readCut_event x k).isProtected _
  rw [State.readFills, State.fills, same, h, Bool.false_and, Bool.and_false]

/-- A protected byte is fill exactly if its chunk is not GOOD by then (R4). -/
theorem State.readFills_of_protected (s : State) (x : HostXfer) {k : Nat} (hk : k < (s.readData x).length)
    (h : s.isProtected (s.readSite x k) = true) : s.readFills x k = !(s.readCut x k).st.isProven (s.readSite x k) := by
  have same : (s.readCut x k).st.isProtected (s.readSite x k) = s.isProtected (s.readSite x k) :=
    (s.readCut_event x k).isProtected _
  rw [State.readFills, State.fills, same, h, decide_eq_true hk, Bool.true_and, Bool.true_and]

/-! ### The fill accounting (R5, R133, R175) -/

/-- The first fill byte of window `w` is byte `k`. -/
def FirstFill (site : Nat → ByteSite) (filled : Nat → Bool) (w : Fin 32) (k : Nat) : Prop :=
  filled k = true ∧ (site k).window = some w ∧ ∀ j, j < k → filled j = true → (site j).window ≠ some w

/-- The accounting of the first `n` bytes: the windows that had fill, their flags, and one GUARD_FILL for each that was not reported
yet, unless it is lost. -/
structure FillAccount (s : State) (site : Nat → ByteSite) (filled : Nat → Bool) (n : Nat) (t : State) (windows : List (Fin 32)) :
    Prop where
  mem : ∀ w, w ∈ windows ↔ ∃ k, k < n ∧ filled k = true ∧ (site k).window = some w
  fillCommands : t.reports.counters.fillCommands = s.reports.counters.fillCommands
  fillReported : ∀ w, (t.win w).fillReported = ((s.win w).fillReported || decide (w ∈ windows))
  raised : ∃ raised, t.reports.queue = s.reports.queue ++ raised ∧ ∀ w,
    ((s.win w).fillReported = true ∨ w ∉ windows → ∀ r ∈ raised, r.fillWindow ≠ some w) ∧
    ∀ k, k < n → FirstFill site filled w k → (s.win w).fillReported = false →
      (raised.filter fun r => decide (r.fillWindow = some w)) =
          [.guardFill w (site k).view (s.win w).body.code (s.fillOf (site k))] ∨
        ((∀ r ∈ raised, r.fillWindow ≠ some w) ∧ 16 ≤ t.reports.queue.length ∧ t.reports.dropped = true)

theorem filter_fillWindow_eq_nil {raised : List Report} {w : Fin 32} (h : ∀ r ∈ raised, r.fillWindow ≠ some w) :
    (raised.filter fun r => decide (r.fillWindow = some w)) = [] :=
  List.filter_eq_nil_iff.2 fun r hr => by simpa using h r hr

/-- What signals no fill changes nothing of the accounting. -/
theorem FillAccount.silent {s : State} {site : Nat → ByteSite} {filled : Nat → Bool} {n : Nat} {t u : State}
    {windows : List (Fin 32)} (h : FillAccount s site filled n t windows) (k : Unsignalled t u) :
    FillAccount s site filled n u windows where
  mem := h.mem
  fillCommands := k.fillCommands.trans h.fillCommands
  fillReported w := (k.fillReported w).trans (h.fillReported w)
  raised := by
    obtain ⟨a, ha, fa⟩ := h.raised
    obtain ⟨b, hb, fb⟩ := k.raised
    have no : ∀ w, ∀ r ∈ b, r.fillWindow ≠ some w := fun w r hr => by rw [fb r hr]; exact nofun
    refine ⟨a ++ b, by rw [hb, ha, List.append_assoc], fun w => ⟨fun old r hr => ?_, fun k hk first new => ?_⟩⟩
    · rcases List.mem_append.1 hr with hr | hr
      · exact (fa w).1 old r hr
      · exact no w r hr
    · rcases (fa w).2 k hk first new with one | ⟨lost, full, dropped⟩
      · left
        rw [List.filter_append, one, filter_fillWindow_eq_nil (no w), List.append_nil]
      · refine .inr ⟨fun r hr => ?_, ?_, ?_⟩
        · rcases List.mem_append.1 hr with hr | hr
          · exact lost r hr
          · exact no w r hr
        · rw [hb, List.length_append]; omega
        · exact ‹Unsignalled t u›.dropped dropped

/-- A byte that is no fill, or of no window, or of a window that has had fill, adds nothing. -/
theorem FillAccount.unfilled {s : State} {site : Nat → ByteSite} {filled : Nat → Bool} {n : Nat} {t : State}
    {windows : List (Fin 32)} (h : FillAccount s site filled n t windows)
    (old : ∀ w, filled n = true → (site n).window = some w → w ∈ windows) : FillAccount s site filled (n + 1) t windows where
  mem w := by
    rw [h.mem]
    constructor
    · rintro ⟨k, hk, hf⟩
      exact ⟨k, by omega, hf⟩
    · rintro ⟨k, hk, hf, hw⟩
      by_cases e : k = n
      · subst e
        exact (h.mem w).1 (old w hf hw)
      · exact ⟨k, by omega, hf, hw⟩
  fillCommands := h.fillCommands
  fillReported := h.fillReported
  raised := by
    obtain ⟨a, ha, fa⟩ := h.raised
    refine ⟨a, ha, fun w => ⟨(fa w).1, fun k hk first new => ?_⟩⟩
    by_cases e : k = n
    · subst e
      obtain ⟨hf, hw, before⟩ := first
      obtain ⟨j, hj, hjf, hjw⟩ := (h.mem w).1 (old w hf hw)
      exact absurd hjw (before j hj hjf)
    · exact (fa w).2 k (by omega) first new

/-- The first fill byte of a window signals fill (R133, R175). -/
theorem FillAccount.signalled {s : State} {site : Nat → ByteSite} {filled : Nat → Bool} {n : Nat} {t : State}
    {windows : List (Fin 32)} (h : FillAccount s site filled n t windows) {w : Fin 32} (hf : filled n = true)
    (hw : (site n).window = some w) (new : w ∉ windows) (code : (t.win w).body.code = (s.win w).body.code) :
    FillAccount s site filled (n + 1) (t.signalFill w (site n).view (s.fillOf (site n))) (w :: windows) := by
  have known : ∀ v, v ∈ w :: windows ↔ ∃ k, k < n + 1 ∧ filled k = true ∧ (site k).window = some v := by
    intro v
    rw [List.mem_cons, h.mem]
    constructor
    · rintro (rfl | ⟨k, hk, rest⟩)
      · exact ⟨n, by omega, hf, hw⟩
      · exact ⟨k, by omega, rest⟩
    · rintro ⟨k, hk, hkf, hkw⟩
      by_cases e : k = n
      · subst e
        rw [hw] at hkw
        exact .inl (Option.some.inj hkw).symm
      · exact .inr ⟨k, by omega, hkf, hkw⟩
  have firstOld : ∀ v k, k < n + 1 → FirstFill site filled v k → (k = n ∧ v = w) ∨ (k < n ∧ v ≠ w) := by
    rintro v k hk ⟨hkf, hkv, before⟩
    by_cases e : k = n
    · subst e
      rw [hw] at hkv
      exact .inl ⟨rfl, (Option.some.inj hkv).symm⟩
    · refine .inr ⟨by omega, ?_⟩
      rintro rfl
      exact new ((h.mem v).2 ⟨k, by omega, hkf, hkv⟩)
  obtain ⟨a, ha, fa⟩ := h.raised
  unfold State.signalFill
  cases reported : (t.win w).fillReported with
  | true =>
    rw [if_pos rfl]
    have was : (s.win w).fillReported = true := by
      have flag := h.fillReported w
      rw [reported, decide_eq_false new, Bool.or_false] at flag
      exact flag.symm
    refine ⟨known, h.fillCommands, fun v => ?_, a, ha, fun v => ⟨fun old => (fa v).1 ?_, fun k hk first fresh => ?_⟩⟩
    · rw [h.fillReported]
      by_cases e : v = w
      · subst e; simp [was]
      · simp [e]
    · rcases old with old | old
      · exact .inl old
      · exact .inr fun hv => old (List.mem_cons_of_mem _ hv)
    · rcases firstOld v k hk first with ⟨_, rfl⟩ | ⟨lt, _⟩
      · rw [was] at fresh; cases fresh
      · exact (fa v).2 k lt first fresh
  | false =>
    rw [if_neg nofun]
    have was : (s.win w).fillReported = false := by
      have flag := h.fillReported w
      rw [reported] at flag
      exact (Bool.or_eq_false_iff.1 flag.symm).1
    have flags : ∀ v, (((t.raise (.guardFill w (site n).view (t.win w).body.code (s.fillOf (site n)))).modWin w fun v =>
        { v with fillReported := true }).win v).fillReported = ((s.win v).fillReported || decide (v ∈ w :: windows)) := by
      intro v
      rw [State.win_modWin]
      by_cases e : w = v
      · subst e; simp
      · rw [if_neg e, show ((t.raise _).win v) = t.win v from rfl, h.fillReported]
        simp [Ne.symm e]
    have noW := (fa w).1 (.inr new)
    rw [code] at flags ⊢
    obtain ⟨q, hq⟩ : ∃ q, q = Report.guardFill w (site n).view (s.win w).body.code (s.fillOf (site n)) := ⟨_, rfl⟩
    have names : q.fillWindow = some w := by rw [hq]; rfl
    rw [← hq] at flags ⊢
    refine ⟨known, by simpa using h.fillCommands, flags, ?_⟩
    rw [show ((t.raise q).modWin w _).reports = (t.raise q).reports from rfl]
    by_cases room : t.reports.queue.length < 16
    · have joined : (t.raise q).reports = { t.reports with queue := t.reports.queue ++ [q] } := (t.raise_reports q).1 room
      rw [joined]
      refine ⟨a ++ [q], by rw [ha, List.append_assoc], fun v => ⟨fun old r hr => ?_, fun k hk first fresh => .inl ?_⟩⟩
      · rcases List.mem_append.1 hr with hr | hr
        · exact (fa v).1 (old.imp_right fun o hv => o (List.mem_cons_of_mem _ hv)) r hr
        · rw [List.mem_singleton.1 hr, names]
          intro e
          obtain rfl := Option.some.inj e
          rcases old with old | old
          · rw [was] at old; cases old
          · exact old List.mem_cons_self
      · rw [List.filter_append]
        rcases firstOld v k hk first with ⟨rfl, rfl⟩ | ⟨lt, ne⟩
        · rw [filter_fillWindow_eq_nil noW]
          simpa [names] using hq
        · have other : ([q].filter fun r => decide (r.fillWindow = some v)) = [] := by simp [names, Ne.symm ne]
          rcases (fa v).2 k lt first fresh with one | ⟨_, full, _⟩
          · rw [one, other, List.append_nil]
          · omega
    · have lost : (t.raise q).reports = { t.reports with dropped := true } := (t.raise_reports q).2 (Nat.not_lt.1 room)
      rw [lost]
      refine ⟨a, ha, fun v => ⟨fun old => (fa v).1 (old.imp_right fun o hv => o (List.mem_cons_of_mem _ hv)),
        fun k hk first fresh => ?_⟩⟩
      rcases firstOld v k hk first with ⟨rfl, rfl⟩ | ⟨lt, ne⟩
      · exact .inr ⟨noW, Nat.not_lt.1 room, rfl⟩
      · rcases (fa v).2 k lt first fresh with one | ⟨lost', full, _⟩
        · exact .inl one
        · exact .inr ⟨lost', full, rfl⟩

theorem ReadRun.close_unsignalled (r : ReadRun) : Unsignalled r.st r.close.st := by
  unfold ReadRun.close
  split
  · exact r.st.harvest_unsignalled _
  · exact .refl _

theorem ReadRun.cut_unsignalled (r : ReadRun) (b : ByteSite) : Unsignalled r.st (r.cut b).st := by
  unfold ReadRun.cut
  split
  · split
    · exact .refl _
    · exact r.close_unsignalled
  · exact .refl _

theorem ReadRun.between_unsignalled (r : ReadRun) (x : Nat) (events : List DuringRead) :
    Unsignalled r.st (r.between x events).st := by
  cases events with
  | nil => exact .refl _
  | cons e es => exact (r.cut_unsignalled _).trans (Unsignalled.foldl _ State.duringRead_unsignalled (e :: es) _)

/-- Ahead of byte `n`, its segment ended if it begins another, the accounting is that of the bytes before it. -/
theorem FillAccount.at_cut {s : State} {x : HostXfer} {n : Nat}
    (h : FillAccount s (s.readSite x) (s.readFills x) n (s.readUpTo x n).st (s.readUpTo x n).filled) :
    FillAccount s (s.readSite x) (s.readFills x) n (s.readCut x n).st (s.readCut x n).filled := by
  have same : (s.readCut x n).filled = (s.readUpTo x n).filled :=
    (ReadRun.cut_filled _ _).trans (ReadRun.between_filled _ _ _)
  rw [same]
  exact (h.silent (ReadRun.between_unsignalled _ _ _)).silent (ReadRun.cut_unsignalled _ _)

/-- The fill accounting of the first `n` bytes of a READ (R5, R133, R175). -/
theorem State.readUpTo_account (s : State) (x : HostXfer) (n : Nat) (hn : n ≤ (s.readData x).length) :
    FillAccount s (s.readSite x) (s.readFills x) n (s.readUpTo x n).st (s.readUpTo x n).filled := by
  induction n with
  | zero =>
    refine ⟨fun w => ⟨nofun, ?_⟩, rfl, fun w => ?_, [], (List.append_nil _).symm, fun w => ⟨fun _ => nofun, ?_⟩⟩
    · rintro ⟨k, hk, _⟩
      exact absurd hk (Nat.not_lt_zero k)
    · simp [State.readUpTo, State.takeOpcode_same]
      rfl
    · intro k hk
      exact absurd hk (Nat.not_lt_zero k)
  | succ n ih =>
    have byte : (s.readData x)[n]? = some (s.readData x)[n] := List.getElem?_eq_getElem (by omega)
    have ahead := (ih (by omega)).at_cut
    have fills : (s.readCut x n).st.fills (s.readSite x n) = s.readFills x n := by
      rw [State.readFills, decide_eq_true (show n < (s.readData x).length by omega), Bool.true_and]
    rw [s.readUpTo_succ x byte]
    unfold ReadRun.byte
    rw [s.readBefore_site]
    dsimp only
    rw [show (s.readBefore x n).cut (s.readSite x n) = s.readCut x n from rfl]
    unfold ReadRun.account
    dsimp only
    rw [fills, (s.readCut_event x n).fillOf]
    cases hw : (s.readSite x n).window with
    | none => exact ahead.unfilled fun w _ e => by rw [hw] at e; cases e
    | some w =>
      dsimp only
      split
      · next new =>
        simp only [Bool.and_eq_true, Bool.not_eq_true', List.contains_eq_mem, decide_eq_false_iff_not] at new
        exact ahead.signalled new.1 hw new.2 ((s.readCut_event x n).code w)
      · next old =>
        refine ahead.unfilled fun v hf e => ?_
        rw [hw] at e
        obtain rfl := Option.some.inj e
        simpa [hf] using old

end Sys2Proof.Machine
end

section
/-! The flash-side reads of a READ (R4, R18, R33), and harvesting under the law of contexts (R98, R105 to R109). -/

namespace Sys2Proof.Machine

/-! ### Runs of mapped addresses (R33) -/

/-- A run's addresses. -/
def runAddrs (r : Nat × Nat) : List Nat := (List.range r.2).map fun j => r.1 + j

theorem runAddrs_succ (p m : Nat) : runAddrs (p, m + 1) = p :: runAddrs (p + 1, m) := by
  simp only [runAddrs, List.range_succ_eq_map, List.map_cons, List.map_map, Nat.add_zero]
  congr 2
  funext j
  simp only [Function.comp_apply]
  omega

/-- Runs follow on nowhere. -/
def RunsApart (runs : List (Nat × Nat)) : Prop :=
  ∀ i r q, runs[i]? = some r → runs[i + 1]? = some q → q.1 ≠ r.1 + r.2

theorem RunsApart.cons {r : Nat × Nat} {rest : List (Nat × Nat)} (h : ∀ q, rest[0]? = some q → q.1 ≠ r.1 + r.2)
    (k : RunsApart rest) : RunsApart (r :: rest) := by
  intro i a b ha hb
  cases i with
  | zero =>
    obtain rfl := Option.some.inj ha
    exact h b hb
  | succ i => exact k i a b ha hb

/-- The runs of addresses: they hold the addresses in order, none is empty, and none follows on (R33). -/
theorem readRuns_spec (l : List Nat) :
    (readRuns l).flatMap runAddrs = l ∧ (∀ r ∈ readRuns l, 0 < r.2) ∧ RunsApart (readRuns l) ∧
      ((readRuns l).head?.map Prod.fst = l.head?) := by
  induction l with
  | nil => exact ⟨rfl, nofun, (fun _ _ _ h => by cases h), rfl⟩
  | cons p ps ih =>
    obtain ⟨flat, some', apart, head⟩ := ih
    cases hr : readRuns ps with
    | nil =>
      rw [hr] at flat
      have runs : readRuns (p :: ps) = [(p, 1)] := by simp only [readRuns, hr]
      rw [runs]
      refine ⟨?_, by simp, RunsApart.cons (fun q h => by cases h) (fun _ _ _ h => by cases h), rfl⟩
      rw [← flat]
      rfl
    | cons r rest =>
      obtain ⟨q, m⟩ := r
      rw [hr] at flat some' apart
      by_cases next : q = p + 1
      · have runs : readRuns (p :: ps) = (p, m + 1) :: rest := by simp only [readRuns, hr, if_pos next]
        rw [runs]
        refine ⟨?_, fun r h => ?_, RunsApart.cons (fun a ha => ?_) fun i a b ha hb => apart (i + 1) a b ha hb, rfl⟩
        · rw [List.flatMap_cons, runAddrs_succ, ← next, List.cons_append, ← List.flatMap_cons, flat]
        · rcases List.mem_cons.1 h with rfl | h
          · exact Nat.succ_pos m
          · exact some' r (List.mem_cons_of_mem _ h)
        · have := apart 0 (q, m) a rfl ha
          simp only at this ⊢
          omega
      · have runs : readRuns (p :: ps) = (p, 1) :: (q, m) :: rest := by simp only [readRuns, hr, if_neg next]
        rw [runs]
        refine ⟨?_, fun r h => ?_, RunsApart.cons (fun a ha => ?_) apart, rfl⟩
        · rw [List.flatMap_cons, flat]
          rfl
        · rcases List.mem_cons.1 h with rfl | h
          · exact Nat.one_pos
          · exact some' r h
        · obtain rfl := Option.some.inj ha
          exact next

theorem readRuns_eq_nil {l : List Nat} (h : readRuns l = []) : l = [] := by
  have head := (readRuns_spec l).2.2.2
  rw [h] at head
  exact List.head?_eq_none_iff.1 head.symm

/-- The part's own flash-side reads (R18). -/
theorem readTxn_eq (flashBytes addr len : Nat) :
    readTxn flashBytes addr len =
      if flashBytes = 0x01000000 then FlashTxn.mk 0x03 (beBytes 3 addr) len else FlashTxn.mk 0x13 (beBytes 4 addr) len := by
  simp only [readTxn, smallFlash, decide_eq_true_eq]

/-! ### The law that harvesting keeps (R98) -/

/-- What harvesting needs of R98: contexts and chunk records name each other, and no UNCHECKED chunk is being read back. -/
structure HarvestLaw (s : State) : Prop where
  links : LinkLaw s
  noReadback : ∀ w i c, s.chunk? w i = some c → c.state = .unchecked → c.link ≠ some .readback

theorem ContextLaw.harvest {s : State} (law : ContextLaw s) : HarvestLaw s := by
  refine ⟨law.links, fun w i c hc un hl => ?_⟩
  obtain ⟨r, hr, rfl, rfl⟩ := law.links.ofReadback w i c hc hl
  obtain ⟨d, hd, _, checking⟩ := law.2.2.2.1 r hr
  rw [hc] at hd
  obtain rfl := Option.some.inj hd
  rw [un] at checking
  cases checking

theorem HarvestLaw.of_same {s t : State} (law : HarvestLaw s) (engine : t.engine = s.engine) (known : ∀ w i, sameChunk s t w i) :
    HarvestLaw t := by
  refine ⟨law.links.of_same engine known, fun w i c hc un => ?_⟩
  have same := known w i
  rw [sameChunk, hc] at same
  obtain ⟨d, hd, e⟩ := Option.map_eq_some_iff.1 same.symm
  have state : d.state = c.state := congrArg Prod.fst e
  have link : d.link = c.link := congrArg (fun k => k.2.2.2) e
  rw [← link]
  exact law.noReadback w i d hd (state.trans un)

/-- An UNCHECKED chunk is linked to nothing or to a stream that holds it. -/
theorem HarvestLaw.link_cases {s : State} (law : HarvestLaw s) {w : Fin 32} {i : Nat} {c : Chunk} (hc : s.chunk? w i = some c)
    (un : c.state = .unchecked) :
    c.link = none ∨ ∃ k y, c.link = some (.stream k) ∧ s.stream k = some y ∧ y.window = w ∧ y.chunk = i := by
  cases hl : c.link with
  | none => exact .inl rfl
  | some l =>
    cases l with
    | readback => exact absurd hl (law.noReadback w i c hc un)
    | stream k =>
      obtain ⟨y, hy, hw, hi⟩ := law.links.ofStream w i c k hc hl
      exact .inr ⟨k, y, rfl, hy, hw, hi⟩

/-- A step of a stream that its chunk's record follows keeps the law. -/
theorem HarvestLaw.of_step {s t : State} (law : HarvestLaw s) {k : Fin 3} {w : Fin 32} {i : Nat} {c : Chunk}
    {holds : Option StreamCtx} {st : ChunkState} {e o : Option Digest} {link : Option Link} {counters : Counters} {good : Nat}
    {raised : List Report} (step : StreamStep s t k w i holds (st, e, o, link) counters good raised) (hc : s.chunk? w i = some c)
    (before : c.link = some (.stream k) ∨ (c.link = none ∧ s.stream k = none))
    (follows : link = holds.map fun _ => Link.stream k) (here : ∀ x, holds = some x → x.window = w ∧ x.chunk = i) :
    HarvestLaw t := by
  obtain ⟨d, hd, known⟩ := step.chunk
  have linked : d.link = holds.map fun _ => Link.stream k := (congrArg (fun q => q.2.2.2) known).trans follows
  have there : ∀ u j l, (u, j) ≠ (w, i) → (∃ f, s.chunk? u j = some f ∧ f.link = l) → ∃ f, t.chunk? u j = some f ∧ f.link = l := by
    rintro u j l apart ⟨f, hf, rfl⟩
    obtain ⟨g, hg, known⟩ := (step.others u j apart).knows ⟨f, hf, rfl⟩
    exact ⟨g, hg, congrArg (fun q => q.2.2.2) known⟩
  have back : ∀ u j f, (u, j) ≠ (w, i) → t.chunk? u j = some f → ∃ g, s.chunk? u j = some g ∧ g.link = f.link ∧ g.state = f.state := by
    intro u j f apart hf
    have same := step.others u j apart
    rw [sameChunk, hf] at same
    obtain ⟨g, hg, known⟩ := Option.map_eq_some_iff.1 same.symm
    exact ⟨g, hg, congrArg (fun q => q.2.2.2) known, congrArg Prod.fst known⟩
  have at_k : ∀ x, s.stream k = some x → x.window = w ∧ x.chunk = i := by
    intro x hx
    rcases before with named | ⟨_, free⟩
    · obtain ⟨y, hy, hw, hi⟩ := law.links.ofStream w i c k hc named
      rw [hx] at hy
      obtain rfl := Option.some.inj hy
      exact ⟨hw, hi⟩
    · rw [hx] at free; cases free
  have not_here : ∀ j x, j ≠ k → s.stream j = some x → (x.window, x.chunk) ≠ (w, i) := by
    rintro j x hj hx h
    simp only [Prod.mk.injEq] at h
    obtain ⟨f, hf, hl⟩ := law.links.stream j x hx
    rw [h.1, h.2, hc] at hf
    obtain rfl := Option.some.inj hf
    rcases before with named | ⟨free, _⟩
    · rw [named] at hl
      exact hj (by injection hl with e; injection e with e; exact e.symm)
    · rw [free] at hl; cases hl
  refine ⟨⟨fun j x hx => ?_, fun r hr => ?_, fun u j f m hf hl => ?_, fun u j f hf hl => ?_⟩, fun u j f hf un hl => ?_⟩
  · rw [step.streams] at hx
    split at hx
    · next hj =>
      obtain ⟨rfl, rfl⟩ := here x hx
      refine ⟨d, hd, ?_⟩
      rw [linked, hx, hj]
      rfl
    · next hj => exact there _ _ _ (not_here j x hj hx) (law.links.stream j x hx)
  · rw [step.readback] at hr
    obtain ⟨f, hf, hl⟩ := law.links.readback r hr
    refine there _ _ _ (fun h => ?_) ⟨f, hf, hl⟩
    simp only [Prod.mk.injEq] at h
    rw [h.1, h.2, hc] at hf
    obtain rfl := Option.some.inj hf
    rcases before with named | ⟨free, _⟩
    · rw [named] at hl; cases hl
    · rw [free] at hl; cases hl
  · by_cases apart : (u, j) = (w, i)
    · simp only [Prod.mk.injEq] at apart
      obtain ⟨rfl, rfl⟩ := apart
      rw [hd] at hf
      obtain rfl := Option.some.inj hf
      rw [linked] at hl
      cases hh : holds with
      | none => rw [hh] at hl; cases hl
      | some x =>
        rw [hh] at hl
        have mk : k = m := by injection hl with e; injection e
        subst mk
        exact ⟨x, by rw [step.streams, if_pos rfl, hh], here x hh⟩
    · obtain ⟨g, hg, link, _⟩ := back u j f apart hf
      obtain ⟨x, hx, rfl, rfl⟩ := law.links.ofStream u j g m hg (link.trans hl)
      refine ⟨x, ?_, rfl, rfl⟩
      rw [step.streams, if_neg]
      · exact hx
      · rintro rfl
        obtain ⟨hw, hi⟩ := at_k x hx
        exact apart (by rw [hw, hi])
  · by_cases apart : (u, j) = (w, i)
    · simp only [Prod.mk.injEq] at apart
      obtain ⟨rfl, rfl⟩ := apart
      rw [hd] at hf
      obtain rfl := Option.some.inj hf
      rw [linked] at hl
      cases hh : holds <;> rw [hh] at hl <;> cases hl
    · obtain ⟨g, hg, link, _⟩ := back u j f apart hf
      rw [step.readback]
      exact law.links.ofReadback u j g hg (link.trans hl)
  · by_cases apart : (u, j) = (w, i)
    · simp only [Prod.mk.injEq] at apart
      obtain ⟨rfl, rfl⟩ := apart
      rw [hd] at hf
      obtain rfl := Option.some.inj hf
      rw [linked] at hl
      cases hh : holds <;> rw [hh] at hl <;> cases hl
    · obtain ⟨g, hg, link, state⟩ := back u j f apart hf
      exact law.noReadback u j g hg (state.trans un) (link.trans hl)

end Sys2Proof.Machine
end

section
/-! Harvest offers (R105 to R109): what each does to its chunk, its context and the reports, and what all of them keep. -/

namespace Sys2Proof.Machine

/-! ### An offer on an UNCHECKED chunk with the flash not busy (R106, R107) -/

theorem State.freeContext_some {s : State} {k : Fin 3} (h : s.freeContext = some k) : s.stream k = none := by
  have found := List.find?_some h
  simpa using found

/-- The context of a read stream that an offer starts (R106). -/
def Offer.started (o : Offer) : StreamCtx :=
  { kind := .read, window := o.window, chunk := o.chunk, frontier := o.bytes.length, run := Running.start.absorb o.bytes }

/-- The record of a chunk whose read stream is in context `k`. -/
def Chunk.linkedTo (k : Fin 3) (c : Chunk) : Chunk := { c with link := some (.stream k) }

theorem State.harvestIdle_unlinked (s : State) (o : Offer) (c : Chunk) (hc : s.chunk? o.window o.chunk = some c)
    (hl : c.link = none) : s.harvestIdle o = if o.offset = 0 then s.startReadStream o else s := by
  simp only [State.harvestIdle, State.chunkStream, hc, Option.bind_some, hl]

theorem State.harvestIdle_linked (s : State) (o : Offer) (c : Chunk) (k : Fin 3) (y : StreamCtx)
    (hc : s.chunk? o.window o.chunk = some c) (hl : c.link = some (.stream k)) (hy : s.stream k = some y) :
    s.harvestIdle o =
      if o.offset = y.frontier then s.advanceStream k (y.feed o.bytes) .harvest
      else (s.freeStream k).unlink o.window o.chunk := by
  simp only [State.harvestIdle, State.chunkStream, State.endDigesting, hc, Option.bind_some, hl, hy, Option.map_some]

theorem State.startReadStream_free (s : State) (o : Offer) (k : Fin 3) (hk : s.freeContext = some k) :
    s.startReadStream o = (s.taking k o.started (Chunk.linkedTo k)).advanceStream k o.started .harvest := by
  simp only [State.startReadStream, hk]
  rfl

theorem State.startReadStream_full (s : State) (o : Offer) (hk : s.freeContext = none) : s.startReadStream o = s := by
  simp only [State.startReadStream, hk]

/-- An offer at offset 0 that does not reach the chunk's end starts a read stream (R106). -/
theorem State.harvestIdle_starts (s : State) (o : Offer) (c : Chunk) (k : Fin 3) (hc : s.chunk? o.window o.chunk = some c)
    (hl : c.link = none) (ho : o.offset = 0) (hk : s.freeContext = some k)
    (short : o.bytes.length ≠ (s.win o.window).body.chunkLen o.chunk) :
    StreamStep s (s.harvestIdle o) k o.window o.chunk (some o.started) (c.state, c.expected, c.observed, some (.stream k))
      s.reports.counters (s.win o.window).goodCount [] := by
  rw [s.harvestIdle_unlinked o c hc hl, if_pos ho, s.startReadStream_free o k hk]
  exact s.taking_advance_short k o.started (Chunk.linkedTo k) .harvest c hc short

/-- An offer of the whole chunk proves it, or not, at once (R106, R109). -/
theorem State.harvestIdle_starts_whole (s : State) (o : Offer) (c : Chunk) (k : Fin 3) (hc : s.chunk? o.window o.chunk = some c)
    (un : c.state = .unchecked) (hl : c.link = none) (ho : o.offset = 0) (hk : s.freeContext = some k)
    (whole : o.bytes.length = (s.win o.window).body.chunkLen o.chunk) :
    let st := s.verdictOf o.window c.expected (Running.start.absorb o.bytes).complete
    StreamStep s (s.harvestIdle o) k o.window o.chunk none
      (st, c.expected, some (Running.start.absorb o.bytes).complete, none) (s.reports.counters.judged st)
      ((s.win o.window).goodCount + (if st = .good then 1 else 0)) (s.badReport o.window .harvest o.chunk st) := by
  rw [s.harvestIdle_unlinked o c hc hl, if_pos ho, s.startReadStream_free o k hk]
  exact s.taking_advance_whole k o.started (Chunk.linkedTo k) .harvest c hc (by rw [Chunk.linkedTo, un]; decide) rfl whole

/-- An offer that does not begin at the frontier drops the read stream (R107). -/
theorem State.harvestIdle_drops (s : State) (o : Offer) (c : Chunk) (k : Fin 3) (y : StreamCtx)
    (hc : s.chunk? o.window o.chunk = some c) (hl : c.link = some (.stream k)) (hy : s.stream k = some y)
    (off : o.offset ≠ y.frontier) :
    StreamStep s (s.harvestIdle o) k o.window o.chunk none (c.state, c.expected, c.observed, none) s.reports.counters
      (s.win o.window).goodCount [] := by
  rw [s.harvestIdle_linked o c k y hc hl hy, if_neg off]
  exact s.freeUnlink_step k o.window o.chunk c hc

/-- An offer at the frontier that does not reach the chunk's end advances the read stream (R107). -/
theorem State.harvestIdle_advances (s : State) (o : Offer) (c : Chunk) (k : Fin 3) (y : StreamCtx)
    (hc : s.chunk? o.window o.chunk = some c) (hl : c.link = some (.stream k)) (hy : s.stream k = some y)
    (hw : y.window = o.window) (hi : y.chunk = o.chunk) (off : o.offset = y.frontier)
    (short : o.offset + o.bytes.length ≠ (s.win o.window).body.chunkLen o.chunk) :
    StreamStep s (s.harvestIdle o) k o.window o.chunk (some (y.feed o.bytes))
      (c.state, c.expected, c.observed, some (.stream k)) s.reports.counters (s.win o.window).goodCount [] := by
  have frontier : (y.feed o.bytes).frontier ≠ (s.win (y.feed o.bytes).window).body.chunkLen (y.feed o.bytes).chunk := by
    show y.frontier + o.bytes.length ≠ (s.win y.window).body.chunkLen y.chunk
    rw [hw, hi, ← off]
    exact short
  rw [s.harvestIdle_linked o c k y hc hl hy, if_pos off, s.advanceStream_short k _ .harvest frontier, ← hl]
  exact s.moveStreamToFront_step k (y.feed o.bytes) o.window o.chunk c hc

/-- An offer at the frontier that reaches the chunk's end proves the chunk, or not (R107, R109). -/
theorem State.harvestIdle_completes (s : State) (o : Offer) (c : Chunk) (k : Fin 3) (y : StreamCtx)
    (hc : s.chunk? o.window o.chunk = some c) (un : c.state = .unchecked) (hl : c.link = some (.stream k))
    (hy : s.stream k = some y) (hw : y.window = o.window) (hi : y.chunk = o.chunk) (off : o.offset = y.frontier)
    (whole : o.offset + o.bytes.length = (s.win o.window).body.chunkLen o.chunk) :
    let st := s.verdictOf o.window c.expected (y.run.absorb o.bytes).complete
    StreamStep s (s.harvestIdle o) k o.window o.chunk none
      (st, c.expected, some (y.run.absorb o.bytes).complete, none) (s.reports.counters.judged st)
      ((s.win o.window).goodCount + (if st = .good then 1 else 0)) (s.badReport o.window .harvest o.chunk st) := by
  have frontier : (y.feed o.bytes).frontier = (s.win (y.feed o.bytes).window).body.chunkLen (y.feed o.bytes).chunk := by
    show y.frontier + o.bytes.length = (s.win y.window).body.chunkLen y.chunk
    rw [hw, hi, ← off]
    exact whole
  rw [s.harvestIdle_linked o c k y hc hl hy, if_pos off, s.advanceStream_whole k _ .harvest frontier]
  have step := s.finalizeStream_step k y.window y.chunk (y.run.absorb o.bytes) .harvest c (by rw [hw, hi]; exact hc)
    (by rw [un]; decide)
  rw [hw, hi] at step
  show StreamStep s (s.finalizeStream k y.window y.chunk (y.run.absorb o.bytes) .harvest) _ _ _ _ _ _ _ _
  rw [hw, hi]
  exact step

/-! ### What a harvest keeps (R105) -/

/-- A harvest of this offer changes nothing that R105 puts out of its reach. -/
structure Harvested (o : Offer) (s t : State) : Prop where
  law : HarvestLaw t
  readback : t.engine.readback = s.engine.readback
  others : ∀ u j, (u, j) ≠ (o.window, o.chunk) → sameChunk s t u j
  settled : ∀ c, s.chunk? o.window o.chunk = some c → c.state ≠ .unchecked → sameChunk s t o.window o.chunk
  unproven : ∀ c, s.chunk? o.window o.chunk = some c → c.state = .unchecked →
    o.offset + o.bytes.length ≠ (s.win o.window).body.chunkLen o.chunk →
    ∃ d, t.chunk? o.window o.chunk = some d ∧ d.state = .unchecked

theorem Harvested.of_same (o : Offer) {s t : State} (law : HarvestLaw s) (engine : t.engine = s.engine)
    (known : ∀ w i, sameChunk s t w i) : Harvested o s t where
  law := law.of_same engine known
  readback := by rw [engine]
  others u j _ := known u j
  settled _ _ _ := known _ _
  unproven c hc un _ := by
    obtain ⟨d, hd, e⟩ := (known _ _).knows ⟨c, hc, rfl⟩
    exact ⟨d, hd, (congrArg Prod.fst e).trans un⟩

/-- A step of the chunk's stream is in reach of a harvest. -/
theorem Harvested.of_step {o : Offer} {s t : State} (law : HarvestLaw s) {k : Fin 3} {c : Chunk} {holds : Option StreamCtx}
    {st : ChunkState} {e d : Option Digest} {link : Option Link} {counters : Counters} {good : Nat} {raised : List Report}
    (step : StreamStep s t k o.window o.chunk holds (st, e, d, link) counters good raised)
    (hc : s.chunk? o.window o.chunk = some c) (un : c.state = .unchecked)
    (before : c.link = some (.stream k) ∨ (c.link = none ∧ s.stream k = none))
    (follows : link = holds.map fun _ => Link.stream k) (here : ∀ x, holds = some x → x.window = o.window ∧ x.chunk = o.chunk)
    (short : o.offset + o.bytes.length ≠ (s.win o.window).body.chunkLen o.chunk → st = .unchecked) : Harvested o s t where
  law := law.of_step step hc before follows here
  readback := step.readback
  others := step.others
  settled c' hc' un' := by
    rw [hc] at hc'
    obtain rfl := Option.some.inj hc'
    exact absurd un un'
  unproven _ _ _ hs := by
    obtain ⟨f, hf, known⟩ := step.chunk
    exact ⟨f, hf, (congrArg Prod.fst known).trans (short hs)⟩

theorem Harvested.trans_same {o : Offer} {s t u : State} (h : Harvested o s t) (engine : u.engine = t.engine)
    (known : ∀ w i, sameChunk t u w i) : Harvested o s u where
  law := h.law.of_same engine known
  readback := by rw [engine, h.readback]
  others v j hv := (h.others v j hv).trans (known v j)
  settled c hc un := (h.settled c hc un).trans (known _ _)
  unproven c hc un short := by
    obtain ⟨d, hd, state⟩ := h.unproven c hc un short
    obtain ⟨f, hf, e⟩ := (known _ _).knows ⟨d, hd, rfl⟩
    exact ⟨f, hf, (congrArg Prod.fst e).trans state⟩

theorem State.harvestIdle_harvested (s : State) (o : Offer) (c : Chunk) (law : HarvestLaw s)
    (hc : s.chunk? o.window o.chunk = some c) (un : c.state = .unchecked) : Harvested o s (s.harvestIdle o) := by
  rcases law.link_cases hc un with hl | ⟨k, y, hl, hy, hw, hi⟩
  · by_cases ho : o.offset = 0
    · cases hk : s.freeContext with
      | none =>
        rw [s.harvestIdle_unlinked o c hc hl, if_pos ho, s.startReadStream_full o hk]
        exact .of_same o law rfl fun _ _ => rfl
      | some k =>
        have before : c.link = some (.stream k) ∨ (c.link = none ∧ s.stream k = none) :=
          .inr ⟨hl, State.freeContext_some hk⟩
        by_cases whole : o.bytes.length = (s.win o.window).body.chunkLen o.chunk
        · exact .of_step law (s.harvestIdle_starts_whole o c k hc un hl ho hk whole) hc un before rfl nofun
            fun short => absurd (by rw [ho, Nat.zero_add, whole]) short
        · refine .of_step law (s.harvestIdle_starts o c k hc hl ho hk whole) hc un before rfl ?_ fun _ => un
          rintro _ ⟨⟩
          exact ⟨rfl, rfl⟩
    · rw [s.harvestIdle_unlinked o c hc hl, if_neg ho]
      exact .of_same o law rfl fun _ _ => rfl
  · by_cases off : o.offset = y.frontier
    · by_cases whole : o.offset + o.bytes.length = (s.win o.window).body.chunkLen o.chunk
      · exact .of_step law (s.harvestIdle_completes o c k y hc un hl hy hw hi off whole) hc un (.inl hl) rfl nofun
          fun short => absurd whole short
      · refine .of_step law (s.harvestIdle_advances o c k y hc hl hy hw hi off whole) hc un (.inl hl) rfl ?_ fun _ => un
        rintro _ ⟨⟩
        exact ⟨hw, hi⟩
    · exact .of_step law (s.harvestIdle_drops o c k y hc hl hy off) hc un (.inl hl) rfl nofun fun _ => un

theorem State.harvest_idle (s : State) (o : Offer) (c : Chunk) (hc : s.chunk? o.window o.chunk = some c)
    (un : c.state = .unchecked) (idle : o.busy = false) :
    s.harvest o = ((s.harvestIdle o).closeEvent o.window (s.win o.window).goodCount).refill := by
  simp [State.harvest, hc, un, idle]

theorem State.harvest_busy (s : State) (o : Offer) (c : Chunk) (hc : s.chunk? o.window o.chunk = some c)
    (un : c.state = .unchecked) (busy : o.busy = true) : s.harvest o = s.endDigesting o.window o.chunk := by
  simp [State.harvest, hc, un, busy]

theorem State.harvest_none (s : State) (o : Offer) (hc : s.chunk? o.window o.chunk = none) : s.harvest o = s := by
  simp [State.harvest, hc]

/-- With the flash busy the chunk's read stream is dropped, and nothing else happens (R108). -/
theorem State.endDigesting_harvested (s : State) (o : Offer) (c : Chunk) (law : HarvestLaw s)
    (hc : s.chunk? o.window o.chunk = some c) (un : c.state = .unchecked) : Harvested o s (s.endDigesting o.window o.chunk) := by
  obtain ⟨chunk, others, streams, readback, _⟩ := s.endDigesting_spec o.window o.chunk c hc
  have links := law.links.of_ended hc chunk rfl (fun u j h => congrArg _ (others u j h)) streams readback
  refine ⟨⟨links, fun u j d hd un' hl => ?_⟩, ?_, fun u j h => congrArg _ (others u j h), fun d hd un' => ?_, fun d hd _ _ => ?_⟩
  · by_cases apart : (u, j) = (o.window, o.chunk)
    · simp only [Prod.mk.injEq] at apart
      rw [apart.1, apart.2, chunk] at hd
      obtain rfl := Option.some.inj hd
      cases hl
    · rw [others u j apart] at hd
      exact law.noReadback u j d hd un' hl
  · rw [readback, if_neg (law.noReadback _ _ c hc un)]
  · rw [hc] at hd
    obtain rfl := Option.some.inj hd
    exact absurd un un'
  · exact ⟨_, chunk, un⟩

theorem State.harvest_harvested (s : State) (o : Offer) (law : HarvestLaw s) : Harvested o s (s.harvest o) := by
  cases hc : s.chunk? o.window o.chunk with
  | none =>
    rw [s.harvest_none o hc]
    exact .of_same o law rfl fun _ _ => rfl
  | some c =>
    by_cases un : c.state = .unchecked
    · cases hb : o.busy with
      | true =>
        rw [s.harvest_busy o c hc un hb]
        exact s.endDigesting_harvested o c law hc un
      | false =>
        have ends : EventEnd (s.harvestIdle o) (s.harvest o) := by
          rw [s.harvest_idle o c hc un hb]
          exact .of_close (State.refill_queueWork _).behind
        exact (s.harvestIdle_harvested o c law hc un).trans_same ends.engine ends.known
    · rw [s.harvest_of_not_unchecked o c hc un]
      exact .of_same o law rfl fun _ _ => rfl

end Sys2Proof.Machine
end

section
/-! A READ into which nothing falls behind its first byte: where its offers lie, and that only harvesting a chunk's last byte proves
the chunk (R4, R105). -/

namespace Sys2Proof.Machine

/-! ### Where an offer lies (R5, R34) -/

/-- Bytes that follow on in one chunk have offsets that follow on (R36). -/
theorem WinBody.site_succ {b : WinBody} {p i o o' : Nat} (covers : b.covers p = true) (h : b.site p = some (i, o))
    (h' : b.site (p + 1) = some (i, o')) : o' = o + 1 := by
  unfold WinBody.site at h h'
  unfold WinBody.covers at covers
  cases hg : b.geom? with
  | none => rw [hg] at covers; cases covers
  | some g =>
    cases hc : b.cat? with
    | none => rw [hg, hc] at h; cases h
    | some cat =>
      rw [hg] at covers
      simp only [hg, hc, Option.ite_none_right_eq_some, Option.some.injEq, Prod.mk.injEq] at h h'
      have base := ((g.covers_iff p).1 covers).1
      obtain ⟨_, rfl, rfl⟩ := h
      obtain ⟨_, same, rfl⟩ := h'
      have at_p := Nat.div_add_mod (p - g.base) g.chunkSize
      have at_next := Nat.div_add_mod (p + 1 - g.base) g.chunkSize
      rw [same] at at_next
      omega

theorem State.siteOf_window {s : State} {x : Nat} {w : Fin 32} (h : (s.siteOf x).window = some w) :
    (s.win w).body.covers (s.siteOf x).addr = true ∧ (s.siteOf x).site = (s.win w).body.site (s.siteOf x).addr := by
  have at' : s.windowAt (s.mapAddr x) = some w := h
  obtain ⟨g, hg, low, high⟩ := s.windowAt_some _ w at'
  have covers : (s.win w).body.covers (s.mapAddr x) = true := by
    simp only [WinBody.covers, hg]
    exact (g.covers_iff _).2 ⟨low, high⟩
  refine ⟨covers, ?_⟩
  show ((s.windowAt (s.mapAddr x)).bind fun w => (s.win w).body.site (s.mapAddr x)) = _
  rw [at']
  rfl

/-- The next image byte of a segment is at the next offset of its chunk (R34, R36). -/
theorem State.sameSegment_site {s : State} {x y : Nat} (h : (s.siteOf x).sameSegment (s.siteOf y) = true) {w : Fin 32} {i o : Nat}
    (hw : (s.siteOf x).window = some w) (hs : (s.siteOf x).site = some (i, o)) :
    (s.siteOf y).window = some w ∧ (s.siteOf y).site = some (i, o + 1) := by
  simp only [ByteSite.sameSegment, Bool.and_eq_true, decide_eq_true_eq] at h
  obtain ⟨⟨⟨addr, _⟩, window⟩, site⟩ := h
  have hw' : (s.siteOf y).window = some w := window ▸ hw
  obtain ⟨covers, at_x⟩ := State.siteOf_window hw
  obtain ⟨_, at_y⟩ := State.siteOf_window hw'
  refine ⟨hw', ?_⟩
  rw [hs, Option.map_some] at site
  obtain ⟨⟨i', o'⟩, found, e⟩ := Option.map_eq_some_iff.1 site.symm
  simp only at e
  subst e
  rw [found]
  rw [at_y, addr] at found
  rw [at_x] at hs
  rw [WinBody.site_succ covers hs found]

/-- Byte `n` of a READ is an image byte of chunk `i` of window `w`. -/
def State.readsChunk (s : State) (x : HostXfer) (n : Nat) (w : Fin 32) (i : Nat) : Prop :=
  (s.readSite x n).window = some w ∧ (s.readSite x n).site.map Prod.fst = some i

/-- Byte `n` of a READ is the last byte of chunk `i` of window `w`. -/
def State.readsLast (s : State) (x : HostXfer) (n : Nat) (w : Fin 32) (i : Nat) : Prop :=
  (s.readSite x n).window = some w ∧ (s.readSite x n).site = some (i, (s.win w).body.chunkLen i - 1)

/-- The place of a READ in progress ahead of byte `n`: its last byte, and the offer of the open segment, which ends with that byte. -/
structure InProgress (s : State) (x : HostXfer) (n : Nat) (r : ReadRun) : Prop where
  last : r.last = if n = 0 then none else some (s.readSite x (n - 1))
  offered : ∀ o, r.offer = some o → 1 ≤ n ∧ 1 ≤ o.bytes.length ∧ (s.readSite x (n - 1)).window = some o.window ∧
    (s.readSite x (n - 1)).site = some (o.chunk, o.offset + o.bytes.length - 1) ∧ o.busy = s.bridge.busy
  unoffered : r.offer = none → 1 ≤ n → ∀ w i, ¬s.readsChunk x (n - 1) w i

/-- Ahead of byte `n` the segment goes on, or its offer has been handed on (R5). -/
theorem ReadRun.cut_cases (r : ReadRun) (b : ByteSite) :
    (r.cut b = r ∧ ∀ l, r.last = some l → l.sameSegment b = true) ∨
      (r.cut b = r.close ∧ ∃ l, r.last = some l ∧ l.sameSegment b = false) := by
  unfold ReadRun.cut
  cases hl : r.last with
  | none => exact .inl ⟨rfl, nofun⟩
  | some l =>
    dsimp only
    cases hs : l.sameSegment b with
    | true => exact .inl ⟨rfl, by rintro _ ⟨⟩; exact hs⟩
    | false => exact .inr ⟨rfl, l, rfl, hs⟩

theorem ReadRun.close_offer (r : ReadRun) : r.close.offer = none := r.close_work.2.1

/-- A new segment's offer begins with its first image byte (R5). -/
theorem ReadRun.grow_image {r : ReadRun} {b : ByteSite} {w : Fin 32} {i o : Nat} (byte : Byte) (h : r.offer = none)
    (hw : b.window = some w) (hs : b.site = some (i, o)) :
    r.grow b byte = some { window := w, chunk := i, offset := o, busy := r.st.bridge.busy, bytes := [byte] } := by
  simp only [ReadRun.grow, h, hw, hs]

/-- A new segment of bytes that are no image bytes has no offer (R5). -/
theorem ReadRun.grow_no_image {r : ReadRun} {b : ByteSite} (byte : Byte) (h : r.offer = none)
    (no : b.window = none ∨ b.site = none) : r.grow b byte = none := by
  rcases no with no | no
  · simp only [ReadRun.grow, h, no]
  · cases hw : b.window <;> simp only [ReadRun.grow, h, no, hw]

theorem State.readCut_busy (s : State) (x : HostXfer) (n : Nat) : (s.readCut x n).st.bridge.busy = s.bridge.busy := by
  rw [(s.readCut_event x n).bridge]
  rfl

/-- A new segment is in its place. -/
theorem InProgress.begin {s : State} {x : HostXfer} {n : Nat} {r : ReadRun} (hn : 1 ≤ n)
    (last : r.last = some (s.readSite x (n - 1)))
    (offer : ∃ q : ReadRun, q.offer = none ∧ q.st.bridge.busy = s.bridge.busy ∧ ∃ b, r.offer = q.grow (s.readSite x (n - 1)) b) :
    InProgress s x n r := by
  obtain ⟨q, none', busy, b, offer⟩ := offer
  refine ⟨by rw [last, if_neg (by omega)], fun o ho => ?_, fun ho _ w i reads => ?_⟩
  · rw [offer] at ho
    cases hw : (s.readSite x (n - 1)).window with
    | none => rw [ReadRun.grow_no_image b none' (.inl hw)] at ho; cases ho
    | some w =>
      cases hs : (s.readSite x (n - 1)).site with
      | none => rw [ReadRun.grow_no_image b none' (.inr hs)] at ho; cases ho
      | some at' =>
        obtain ⟨i, o'⟩ := at'
        rw [ReadRun.grow_image b none' hw hs] at ho
        obtain rfl := Option.some.inj ho
        exact ⟨hn, Nat.le_refl 1, rfl, rfl, busy⟩
  · obtain ⟨hw, hs⟩ := reads
    obtain ⟨⟨i', o'⟩, site, _⟩ := Option.map_eq_some_iff.1 hs
    rw [offer, ReadRun.grow_image b none' hw site] at ho
    cases ho

/-- Each byte leaves the READ in its place (R5, R34). -/
theorem InProgress.byte {s : State} {x : HostXfer} {n : Nat} {b : Byte} (h : InProgress s x n (s.readBefore x n))
    (hb : (s.readData x)[n]? = some b) : InProgress s x (n + 1) (s.readUpTo x (n + 1)) := by
  obtain ⟨_, last, offer⟩ := s.readUpTo_byte x hb
  have busy := s.readCut_busy x n
  rcases (s.readBefore x n).cut_cases (s.readSite x n) with ⟨goes, same⟩ | ⟨ends, _⟩
  · have cut : s.readCut x n = s.readBefore x n := goes
    cases hn : n with
    | zero =>
      subst hn
      have fresh : (s.readBefore x 0).offer = none := by
        cases ho : (s.readBefore x 0).offer with
        | none => rfl
        | some o => exact absurd (h.offered o ho).1 (by omega)
      exact .begin (by omega) last ⟨_, by rw [cut]; exact fresh, busy, b, offer⟩
    | succ m =>
      rw [hn] at h same offer cut last busy
      have segment := same _ (by rw [h.last, if_neg (Nat.succ_ne_zero m)])
      rw [cut] at offer
      simp only [Nat.add_sub_cancel] at segment h
      cases ho : (s.readBefore x (m + 1)).offer with
      | none =>
        refine .begin (by omega) last ⟨_, ho, by rw [← cut]; exact busy, b, offer⟩
      | some o =>
        obtain ⟨_, length, hw, hs, was⟩ := h.offered o ho
        obtain ⟨hw', hs'⟩ := State.sameSegment_site segment hw hs
        have grown : (s.readUpTo x (m + 1 + 1)).offer = some { o with bytes := o.bytes ++ [b] } := by
          rw [offer, ReadRun.grow, ho]
        refine ⟨by rw [last, if_neg (by omega)]; rfl, fun o' ho' => ?_, fun none' => by rw [grown] at none'; cases none'⟩
        rw [grown] at ho'
        obtain rfl := Option.some.inj ho'
        refine ⟨by omega, by simp, hw', ?_, was⟩
        rw [Nat.add_sub_cancel, show s.readSite x (m + 1) = _ from rfl]
        refine hs'.trans ?_
        have offset : o.offset + o.bytes.length - 1 + 1 = o.offset + (o.bytes ++ [b]).length - 1 := by
          rw [List.length_append, List.length_singleton]
          omega
        rw [offset]
  · have cut : s.readCut x n = (s.readBefore x n).close := ends
    exact .begin (by omega) last ⟨_, by rw [cut]; exact ReadRun.close_offer _, busy, b, offer⟩

/-- With nothing falling in behind the first byte, a READ is in its place ahead of each byte. -/
theorem State.readBefore_inProgress (s : State) (x : HostXfer) (later : ∀ k, 1 ≤ k → eventsAt x.during k = []) (n : Nat)
    (hn : n ≤ (s.readData x).length) : InProgress s x n (s.readBefore x n) := by
  induction n with
  | zero =>
    have start : (s.readBefore x 0).last = none ∧ (s.readBefore x 0).offer = none := by
      unfold State.readBefore ReadRun.between
      split <;> exact ⟨rfl, rfl⟩
    refine ⟨start.1, fun o ho => ?_, fun _ h => absurd h (by omega)⟩
    rw [start.2] at ho
    cases ho
  | succ n ih =>
    have byte : (s.readData x)[n]? = some (s.readData x)[n] := List.getElem?_eq_getElem (by omega)
    have placed := (ih (by omega)).byte byte
    rw [State.readBefore, later (n + 1) (by omega), ReadRun.between_nil]
    exact placed

/-! ### What the harvests of a READ keep (R105) -/

/-- The harvests of a READ left alone every chunk that was not UNCHECKED in `base`, and proved none whose last byte had not passed. -/
structure ReadLaw (base : State) (passed : Fin 32 → Nat → Prop) (t : State) : Prop where
  law : HarvestLaw t
  readback : t.engine.readback = base.engine.readback
  settled : ∀ w i c, base.chunk? w i = some c → c.state ≠ .unchecked → sameChunk base t w i
  unproven : ∀ w i c, base.chunk? w i = some c → c.state = .unchecked → ¬passed w i →
    ∃ d, t.chunk? w i = some d ∧ d.state = .unchecked

theorem ReadLaw.refl {base : State} (law : HarvestLaw base) (passed : Fin 32 → Nat → Prop) : ReadLaw base passed base :=
  ⟨law, rfl, fun _ _ _ _ _ => rfl, fun _ _ c hc un _ => ⟨c, hc, un⟩⟩

theorem ReadLaw.mono {base t : State} {passed later : Fin 32 → Nat → Prop} (h : ReadLaw base passed t)
    (more : ∀ w i, passed w i → later w i) : ReadLaw base later t :=
  ⟨h.law, h.readback, h.settled, fun w i c hc un n => h.unproven w i c hc un fun p => n (more w i p)⟩

theorem ReadLaw.same {base t u : State} {passed : Fin 32 → Nat → Prop} (h : ReadLaw base passed t) (engine : u.engine = t.engine)
    (known : ∀ w i, sameChunk t u w i) : ReadLaw base passed u := by
  refine ⟨h.law.of_same engine known, by rw [engine, h.readback], fun w i c hc n => (h.settled w i c hc n).trans (known w i),
    fun w i c hc un n => ?_⟩
  obtain ⟨d, hd, state⟩ := h.unproven w i c hc un n
  obtain ⟨e, he, k⟩ := (known w i).knows ⟨d, hd, rfl⟩
  exact ⟨e, he, (congrArg Prod.fst k).trans state⟩

/-- A harvest proves a chunk only at its last byte (R105, R109). -/
theorem ReadLaw.harvest {base t : State} {passed : Fin 32 → Nat → Prop} (h : ReadLaw base passed t) (o : Offer)
    (complete : o.offset + o.bytes.length = (t.win o.window).body.chunkLen o.chunk → passed o.window o.chunk) :
    ReadLaw base passed (t.harvest o) := by
  have step := t.harvest_harvested o h.law
  refine ⟨step.law, step.readback.trans h.readback, fun w i c hc n => ?_, fun w i c hc un n => ?_⟩
  · by_cases here : (w, i) = (o.window, o.chunk)
    · simp only [Prod.mk.injEq] at here
      obtain ⟨rfl, rfl⟩ := here
      obtain ⟨d, hd, e⟩ := (h.settled _ _ c hc n).knows ⟨c, hc, rfl⟩
      have state : d.state ≠ .unchecked := fun un => n ((congrArg Prod.fst e).symm.trans un)
      exact (h.settled _ _ c hc n).trans (step.settled d hd state)
    · exact (h.settled w i c hc n).trans (step.others w i here)
  · obtain ⟨d, hd, state⟩ := h.unproven w i c hc un n
    by_cases here : (w, i) = (o.window, o.chunk)
    · simp only [Prod.mk.injEq] at here
      obtain ⟨rfl, rfl⟩ := here
      exact step.unproven d hd state fun whole => n (complete whole)
    · obtain ⟨e, he, k⟩ := (step.others w i here).knows ⟨d, hd, rfl⟩
      exact ⟨e, he, (congrArg Prod.fst k).trans state⟩

/-- Ahead of byte `n` the last byte of the chunk has been delivered. -/
def State.hasPassed (s : State) (x : HostXfer) (n : Nat) (w : Fin 32) (i : Nat) : Prop := ∃ j, j < n ∧ s.readsLast x j w i

/-- The open segment of a READ in its place is harvested within the law. -/
theorem ReadLaw.close {base s : State} {x : HostXfer} {n : Nat} (placed : InProgress s x n (s.readBefore x n))
    (h : ReadLaw base (s.hasPassed x n) (s.readBefore x n).st) : ReadLaw base (s.hasPassed x n) (s.readBefore x n).close.st := by
  unfold ReadRun.close
  split
  · next o ho =>
    refine h.harvest o fun whole => ⟨n - 1, ?_, ?_⟩
    · have := (placed.offered o ho).1
      omega
    · obtain ⟨_, length, hw, hs, _⟩ := placed.offered o ho
      refine ⟨hw, hs.trans ?_⟩
      rw [whole, (s.readBefore_event x n).chunkLen]
      rfl
  · exact h

theorem State.signalFill_same (s : State) (w : Fin 32) (view : Option (Fin 8)) (fill : Byte) :
    (s.signalFill w view fill).engine = s.engine ∧ ∀ u i, sameChunk s (s.signalFill w view fill) u i := by
  unfold State.signalFill
  split
  · exact ⟨rfl, fun _ _ => rfl⟩
  · exact ⟨rfl, fun u i => congrArg (Option.map Chunk.known) (State.chunk?_modWin_body _ w _ rfl u i)⟩

/-- What a byte itself does to the state is to signal fill, or nothing (R133). -/
theorem State.readUpTo_st (s : State) (x : HostXfer) {n : Nat} {b : Byte} (hb : (s.readData x)[n]? = some b) :
    (s.readUpTo x (n + 1)).st = (s.readCut x n).st ∨
      ∃ w view fill, (s.readUpTo x (n + 1)).st = (s.readCut x n).st.signalFill w view fill := by
  rw [s.readUpTo_succ x hb]
  unfold ReadRun.byte
  rw [s.readBefore_site]
  unfold ReadRun.account
  dsimp only
  split
  · split
    · exact .inr ⟨_, _, _, rfl⟩
    · exact .inl rfl
  · exact .inl rfl

/-- The law stands ahead of every byte of a READ into which nothing falls behind its first byte (R105). -/
theorem State.readBefore_law (s : State) (x : HostXfer) (later : ∀ k, 1 ≤ k → eventsAt x.during k = [])
    (law : HarvestLaw (s.readBefore x 0).st) (n : Nat) (hn : n ≤ (s.readData x).length) :
    ReadLaw (s.readBefore x 0).st (s.hasPassed x n) (s.readBefore x n).st ∧
      ReadLaw (s.readBefore x 0).st (s.hasPassed x n) (s.readCut x n).st ∧
      ReadLaw (s.readBefore x 0).st (s.hasPassed x n) (s.readBefore x n).close.st := by
  have cut : ∀ n, n ≤ (s.readData x).length → ReadLaw (s.readBefore x 0).st (s.hasPassed x n) (s.readBefore x n).st →
      ReadLaw (s.readBefore x 0).st (s.hasPassed x n) (s.readBefore x n).st ∧
        ReadLaw (s.readBefore x 0).st (s.hasPassed x n) (s.readCut x n).st ∧
        ReadLaw (s.readBefore x 0).st (s.hasPassed x n) (s.readBefore x n).close.st := by
    intro n hn h
    have closed := ReadLaw.close (s.readBefore_inProgress x later n hn) h
    refine ⟨h, ?_, closed⟩
    unfold State.readCut
    rcases (s.readBefore x n).cut_cases (s.readSite x n) with ⟨e, _⟩ | ⟨e, _⟩
    · rw [e]; exact h
    · rw [e]; exact closed
  induction n with
  | zero => exact cut 0 hn (.refl law _)
  | succ n ih =>
    have byte : (s.readData x)[n]? = some (s.readData x)[n] := List.getElem?_eq_getElem (by omega)
    refine cut (n + 1) hn ?_
    have ahead := (ih (by omega)).2.1.mono (later := s.hasPassed x (n + 1)) fun w i ⟨j, hj, last⟩ => ⟨j, by omega, last⟩
    have same : s.readBefore x (n + 1) = s.readUpTo x (n + 1) := by
      rw [State.readBefore, later (n + 1) (by omega), ReadRun.between_nil]
    rw [same]
    rcases s.readUpTo_st x byte with e | ⟨w, view, fill, e⟩
    · rw [e]; exact ahead
    · rw [e]
      obtain ⟨engine, known⟩ := (s.readCut x n).st.signalFill_same w view fill
      exact ahead.same engine known

/-! ### What that makes of the bytes (R4, R105) -/

theorem State.isProven_iff (s : State) (b : ByteSite) :
    s.isProven b = true ↔
      ∃ w i o c, b.window = some w ∧ b.site = some (i, o) ∧ s.chunk? w i = some c ∧ c.state = .good := by
  unfold State.isProven
  cases hw : b.window with
  | none => simp
  | some w =>
    cases hs : b.site with
    | none => simp
    | some q =>
      obtain ⟨i, o⟩ := q
      cases hc : s.chunk? w i <;> simp [hc]

theorem State.stateAt_eq_some (s : State) (b : ByteSite) (st : ChunkState) :
    s.stateAt b = some st ↔
      ∃ w i o c, b.window = some w ∧ b.site = some (i, o) ∧ s.chunk? w i = some c ∧ c.state = st := by
  unfold State.stateAt
  cases hw : b.window with
  | none => simp
  | some w =>
    cases hs : b.site with
    | none => simp
    | some q =>
      obtain ⟨i, o⟩ := q
      simp

theorem State.readBefore_zero_quiet (s : State) (x : HostXfer) (quiet : x.during = []) : (s.readBefore x 0).st = s.takeOpcode := by
  rw [State.readBefore, quiet]
  rfl

/-- The law that harvesting keeps stands ahead of the first byte. -/
theorem ContextLaw.readBefore_zero {s : State} (law : ContextLaw s) (x : HostXfer) (quiet : x.during = []) :
    HarvestLaw (s.readBefore x 0).st := by
  rw [s.readBefore_zero_quiet x quiet]
  exact law.harvest.of_same rfl fun _ _ => rfl

/-- In a READ without events a protected byte of a GOOD chunk comes from flash, and one of a chunk that is not proven by then is fill
(R4, R105). -/
theorem State.readFills_spec (s : State) (x : HostXfer) (quiet : x.during = []) (law : ContextLaw s) {k : Nat}
    (hk : k < (s.readData x).length) (hp : s.isProtected (s.readSite x k) = true) :
    (s.stateAt (s.readSite x k) = some .good → s.readFills x k = false) ∧
      (s.stateAt (s.readSite x k) ≠ some .good → s.stateAt (s.readSite x k) ≠ some .unchecked → s.readFills x k = true) ∧
      ∀ w i o, s.stateAt (s.readSite x k) = some .unchecked → (s.readSite x k).window = some w →
        (s.readSite x k).site = some (i, o) → (∀ j, j < k → ¬s.readsLast x j w i) → s.readFills x k = true := by
  have read := (s.readBefore_law x (fun _ _ => by rw [quiet]; rfl) (law.readBefore_zero x quiet) k hk.le).2.1
  rw [s.readBefore_zero_quiet x quiet] at read
  have fills := s.readFills_of_protected x hk hp
  have count : ∀ w i, s.chunk? w i = none → (s.readCut x k).st.chunk? w i = none := by
    intro w i hc
    have no : ¬(s.chunk? w i).isSome = true := by rw [hc]; exact nofun
    have same := (WinBody.outline_inj ((s.readCut_event x k).outline w)).2.2.2.1
    rw [State.chunk?_isSome, show s.win w = s.takeOpcode.win w from rfl, ← same, ← State.chunk?_isSome] at no
    simpa using no
  have unproven : (∀ w i o d, (s.readSite x k).window = some w → (s.readSite x k).site = some (i, o) →
      (s.readCut x k).st.chunk? w i = some d → d.state ≠ .good) → s.readFills x k = true := by
    intro no
    have not : (s.readCut x k).st.isProven (s.readSite x k) = false := by
      rw [← Bool.not_eq_true, State.isProven_iff]
      rintro ⟨w, i, o, d, hw, hs, hd, good⟩
      exact no w i o d hw hs hd good
    rw [fills, not]
    rfl
  refine ⟨fun good => ?_, fun notGood notUnchecked => unproven fun w i o d hw hs hd => ?_,
    fun w i o un hw hs pending => unproven fun w' i' o' d hw' hs' hd => ?_⟩
  · obtain ⟨w, i, o, c, hw, hs, hc, state⟩ := (s.stateAt_eq_some _ _).1 good
    obtain ⟨d, hd, e⟩ := (read.settled w i c hc (by rw [state]; decide)).knows ⟨c, hc, rfl⟩
    have proven := ((s.readCut x k).st.isProven_iff (s.readSite x k)).2
      ⟨w, i, o, d, hw, hs, hd, (congrArg Prod.fst e).trans state⟩
    rw [fills, proven]
    rfl
  · cases hc : s.chunk? w i with
    | none => rw [count w i hc] at hd; cases hd
    | some c =>
      have un : c.state ≠ .unchecked := fun e => notUnchecked ((s.stateAt_eq_some _ _).2 ⟨w, i, o, c, hw, hs, hc, e⟩)
      obtain ⟨d', hd', e⟩ := (read.settled w i c hc un).knows ⟨c, hc, rfl⟩
      rw [hd] at hd'
      obtain rfl := Option.some.inj hd'
      intro good
      exact notGood ((s.stateAt_eq_some _ _).2 ⟨w, i, o, c, hw, hs, hc, (congrArg Prod.fst e).symm.trans good⟩)
  · rw [hw] at hw'
    rw [hs] at hs'
    simp only [Option.some.injEq, Prod.mk.injEq] at hw' hs'
    obtain ⟨rfl, rfl, rfl⟩ := And.intro hw' hs'
    obtain ⟨u, j, _, c, hu, hj, hc, state⟩ := (s.stateAt_eq_some _ _).1 un
    rw [hw] at hu
    rw [hs] at hj
    simp only [Option.some.injEq, Prod.mk.injEq] at hu hj
    obtain ⟨rfl, rfl, rfl⟩ := And.intro hu hj
    obtain ⟨e, he, un'⟩ := read.unproven w i c hc state fun ⟨j, hj, last⟩ => pending j hj last
    rw [hd] at he
    obtain rfl := Option.some.inj he
    rw [un']
    decide

end Sys2Proof.Machine
end

section
/-! The READ as one step (O13): its delivery, its flash-side reads, its fill accounting, and what it leaves unchanged. -/

namespace Sys2Proof.Machine

/-! ### A READ at its end (R5, R105) -/

/-- The state of a READ with its last segment handed on. -/
def State.readEnd (s : State) (x : HostXfer) : State := (s.readBefore x (s.readData x).length).close.st

/-- The windows that had fill in a READ. -/
def State.readFilled (s : State) (x : HostXfer) : List (Fin 32) := (s.readUpTo x (s.readData x).length).filled

/-- What is on the Flash Port after a READ (R18, R33). -/
def State.readReads (s : State) (x : HostXfer) : List FlashTxn :=
  s.flashReads x (s.classOf x.opcode) (x.addr (s.classOf x.opcode) s.flashBytes) (s.readData x).length

theorem State.exec_read {s : State} {x : HostXfer} (h : s.hostKind x = .cls .read) : exec (.read x) s = .next (s.readCommand x) := by
  rw [exec_of_hostRow (x := x) (by simp [hostRows])]
  simp only [State.hostCommand, h]

/-- Behind its last segment a READ has only FILL_COMMANDS, the ports and the claim count left to set (R5, R16). -/
theorem State.readCommand_eq_end (s : State) (x : HostXfer) :
    s.readCommand x =
      { s.readEnd x with
        bridge := { (s.readEnd x).bridge with claim := (s.readCommand x).bridge.claim }
        ports := { toHost := (s.readUpTo x (s.readData x).length).out, toFlash := s.readReads x }
        reports :=
          { (s.readEnd x).reports with
            counters :=
              { (s.readEnd x).reports.counters with
                fillCommands :=
                  if (s.readFilled x).isEmpty = true then (s.readEnd x).reports.counters.fillCommands
                  else countUp (s.readEnd x).reports.counters.fillCommands } } } := by
  have filled : (s.readRun x).filled = s.readFilled x := by
    rw [s.readRun_eq]
    exact ReadRun.between_filled _ _ _
  have finish : (s.readRun x).finish =
      if (s.readFilled x).isEmpty = true then s.readEnd x else (s.readEnd x).countFillCommand := by
    rw [ReadRun.finish, filled, s.readRun_eq]
    rfl
  conv_lhs => rw [State.readCommand_eq, State.settleClaim_eq, ← State.readCommand_eq]
  rw [finish, s.readRun_out]
  split <;> rfl

theorem State.readEnd_event (s : State) (x : HostXfer) : EventWork s.takeOpcode (s.readEnd x) :=
  (s.readBefore_event x _).trans (ReadRun.close_work _).1.event

/-- The fill accounting of a whole READ but for FILL_COMMANDS (R5, R133, R175). -/
theorem State.readEnd_account (s : State) (x : HostXfer) :
    FillAccount s (s.readSite x) (s.readFills x) (s.readData x).length (s.readEnd x) (s.readFilled x) :=
  ((s.readUpTo_account x _ le_rfl).silent (ReadRun.between_unsignalled _ _ _)).silent (ReadRun.close_unsignalled _)

/-! ### The flash-side reads (R4, R18, R33) -/

/-- A flash-side read in the part's own form (R18). -/
def State.ownRead (s : State) (r : Nat × Nat) : FlashTxn :=
  if s.flashBytes = 0x01000000 then FlashTxn.mk 0x03 (beBytes 3 r.1) r.2 else FlashTxn.mk 0x13 (beBytes 4 r.1) r.2

/-- The first flash-side read of a READ: the host's own command if it begins outside every view (R4, R33). -/
def State.openingRead (s : State) (x : HostXfer) (r : Nat × Nat) : FlashTxn :=
  if s.viewAt (x.addr (s.classOf x.opcode) s.flashBytes) = none then
    FlashTxn.mk x.opcode (x.sent.take ((s.classOf x.opcode).addrLen + (s.classOf x.opcode).dummies)) r.2
  else s.ownRead r

/-- The mapped addresses of the bytes of a READ (R33). -/
def State.readMapped (s : State) (x : HostXfer) : List Nat :=
  (List.range (s.readData x).length).map fun k => s.mapAddr (s.readAddr x k)

theorem State.readReads_eq (s : State) (x : HostXfer) :
    s.readReads x =
      match readRuns (s.readMapped x) with
      | [] => [s.openingRead x (s.mapAddr (x.addr (s.classOf x.opcode) s.flashBytes), 0)]
      | r :: rest => s.openingRead x r :: rest.map s.ownRead := by
  have opening : ∀ r : Nat × Nat, (if (s.viewAt (x.addr (s.classOf x.opcode) s.flashBytes)).isSome then
      readTxn s.flashBytes r.1 r.2 else hostReadTxn x (s.classOf x.opcode) r.2) = s.openingRead x r := by
    intro r
    unfold State.openingRead
    cases s.viewAt (x.addr (s.classOf x.opcode) s.flashBytes) with
    | none => rfl
    | some v => exact readTxn_eq _ _ _
  have mapped : ((List.range (s.readData x).length).map fun k =>
      s.mapAddr ((x.addr (s.classOf x.opcode) s.flashBytes + k) % s.flashBytes)) = s.readMapped x := rfl
  rw [State.readReads, State.flashReads, mapped]
  cases readRuns (s.readMapped x) with
  | nil => exact congrArg (fun t => [t]) (opening _)
  | cons r rest => exact congrArg₂ List.cons (opening r) (List.map_congr_left fun r _ => readTxn_eq _ _ _)

theorem State.readReads_of_data (s : State) (x : HostXfer) (h : s.readData x ≠ []) :
    s.readReads x = (readRuns (s.readMapped x)).mapIdx fun i r => if i = 0 then s.openingRead x r else s.ownRead r := by
  rw [s.readReads_eq]
  cases hr : readRuns (s.readMapped x) with
  | nil =>
    have none' : (s.readMapped x).length = 0 := by rw [readRuns_eq_nil hr, List.length_nil]
    rw [State.readMapped, List.length_map, List.length_range] at none'
    exact absurd (List.length_eq_zero_iff.1 none') h
  | cons r rest =>
    rw [List.mapIdx_cons]
    have later : (rest.mapIdx fun i r => if i + 1 = 0 then s.openingRead x r else s.ownRead r) = rest.map s.ownRead := by
      refine List.ext_getElem (by simp) fun i _ _ => ?_
      simp
    rw [later]
    rfl

theorem State.readReads_of_no_data (s : State) (x : HostXfer) (h : s.readData x = []) :
    s.readReads x = [s.openingRead x (s.mapAddr (x.addr (s.classOf x.opcode) s.flashBytes), 0)] := by
  have none' : s.readMapped x = [] := by rw [State.readMapped, h]; rfl
  rw [s.readReads_eq, none']
  rfl

/-! ### A READ without events (R5) -/

theorem State.signalFill_work (s : State) (w : Fin 32) (view : Option (Fin 8)) (fill : Byte) :
    ChunkWork s (s.signalFill w view fill) := by
  unfold State.signalFill
  split
  · exact .refl s
  · exact (s.raise_work _).trans (State.modWin_work _ _ _ (fun _ => rfl) fun _ => rfl)

/-- Until the first event a READ is the work of harvests and fill signals (R5, R105, R133). -/
theorem State.readUpTo_work (s : State) (x : HostXfer) (n : Nat) (hn : n ≤ (s.readData x).length)
    (quiet : ∀ k, k < n → eventsAt x.during k = []) : ChunkWork s.takeOpcode (s.readUpTo x n).st := by
  induction n with
  | zero => exact .refl _
  | succ n ih =>
    have byte : (s.readData x)[n]? = some (s.readData x)[n] := List.getElem?_eq_getElem (by omega)
    have before : s.readBefore x n = s.readUpTo x n := by
      rw [State.readBefore, quiet n (by omega), ReadRun.between_nil]
    have cut : ChunkWork s.takeOpcode (s.readCut x n).st := by
      rw [State.readCut, before]
      exact (ih (by omega) fun k hk => quiet k (by omega)).trans (ReadRun.cut_work _ _).1
    rcases s.readUpTo_st x byte with e | ⟨w, view, fill, e⟩
    · rw [e]
      exact cut
    · rw [e]
      exact cut.trans (State.signalFill_work _ _ _ _)

theorem State.readEnd_work (s : State) (x : HostXfer) (quiet : x.during = []) : ChunkWork s.takeOpcode (s.readEnd x) := by
  have before : s.readBefore x (s.readData x).length = s.readUpTo x (s.readData x).length := by
    rw [State.readBefore, quiet]
    rfl
  rw [State.readEnd, before]
  exact (s.readUpTo_work x _ le_rfl fun _ _ => by rw [quiet]; rfl).trans (ReadRun.close_work _).1

/-- A READ without events changes the blocks that know about chunks, reports and the pairing flag (R5). -/
theorem State.readCommand_sameOutsideChunks (s : State) (x : HostXfer) (quiet : x.during = []) :
    sameOutsideChunks s (s.readCommand x) := by
  obtain ⟨pending, part, cause, pins, straps, views, supply, parser, scheduler, reports, geom⟩ :=
    (s.readEnd_work x quiet).sameOutsideChunks
  rw [s.readCommand_eq_end]
  refine ⟨pending, part, cause, pins, straps, views, supply, parser, scheduler, ?_, geom⟩
  dsimp only
  rw [reports]
  rfl

/-- A READ without events keeps the law of its harvests, from the state it began in (R105). -/
theorem State.readEnd_law (s : State) (x : HostXfer) (quiet : x.during = []) (law : ContextLaw s) :
    ReadLaw s.takeOpcode (s.hasPassed x (s.readData x).length) (s.readEnd x) := by
  have read := (s.readBefore_law x (fun _ _ => by rw [quiet]; rfl) (law.readBefore_zero x quiet) _ le_rfl).2.2
  rw [s.readBefore_zero_quiet x quiet] at read
  exact read

/-! ### The statement -/

/-- A READ counts as one with fill exactly if one of its bytes was a window's fill (R5). -/
theorem State.readFilled_isEmpty (s : State) (x : HostXfer) :
    (s.readFilled x).isEmpty = true ↔
      ¬((List.range (s.readData x).length).any fun k => s.readFills x k && (s.readSite x k).window.isSome) = true := by
  simp only [List.isEmpty_iff, List.eq_nil_iff_forall_not_mem, (s.readEnd_account x).mem, List.any_eq_true, List.mem_range,
    Bool.and_eq_true, Option.isSome_iff_exists]
  constructor
  · rintro no ⟨k, hk, hf, w, hw⟩
    exact no w ⟨k, hk, hf, hw⟩
  · rintro no w ⟨k, hk, hf, hw⟩
    exact no ⟨k, hk, hf, w, hw⟩

theorem State.mem_readFilled (s : State) (x : HostXfer) (w : Fin 32) :
    decide (w ∈ s.readFilled x) =
      (List.range (s.readData x).length).any fun k => s.readFills x k && decide ((s.readSite x k).window = some w) := by
  rw [Bool.eq_iff_iff, decide_eq_true_iff, (s.readEnd_account x).mem]
  simp only [List.any_eq_true, List.mem_range, Bool.and_eq_true, decide_eq_true_eq]

/-- Settles O13. -/
theorem readDeliversFlashOrFillAndKeepsTheRest : Obligations.ReadDeliversFlashOrFillAndKeepsTheRest := by
  intro x s hk
  have shape := s.readCommand_eq_end x
  obtain ⟨length, bytes⟩ := s.readUpTo_out x _ le_rfl
  have account := s.readEnd_account x
  have frame := s.readEnd_event x
  obtain ⟨flat, some', apart, _⟩ := readRuns_spec (s.readMapped x)
  have ports : (s.readCommand x).ports = { toHost := (s.readUpTo x (s.readData x).length).out, toFlash := s.readReads x } := by
    rw [shape]
  have win : (s.readCommand x).win = (s.readEnd x).win := by
    rw [shape]
    rfl
  have queue : (s.readCommand x).reports.queue = (s.readEnd x).reports.queue ∧
      (s.readCommand x).reports.dropped = (s.readEnd x).reports.dropped := by
    rw [shape]
    exact ⟨rfl, rfl⟩
  refine ⟨s.readCommand x, s.readFills x, State.exec_read hk, ?_, fun k byte hb => ⟨?_, ?_, fun quiet law hp => ?_⟩,
    ⟨readRuns (s.readMapped x), flat, some', apart, fun h => ?_, fun h => ?_⟩, ?_, fun w => ?_, ?_, ?_, ?_, ?_, ?_, ?_, ?_,
    fun w => ?_, s.readCommand_bridge x, s.readCommand_sameOutsideChunks x, fun quiet law => ?_⟩
  · rw [ports]
    exact length
  · rw [ports]
    exact bytes k byte (List.getElem?_eq_some_iff.1 hb).1 hb
  · exact s.readFills_of_unprotected x k
  · exact s.readFills_spec x quiet law (List.getElem?_eq_some_iff.1 hb).1 hp
  · rw [ports]
    exact s.readReads_of_data x h
  · rw [ports]
    exact s.readReads_of_no_data x h
  · have count : (s.readCommand x).reports.counters.fillCommands =
        if (s.readFilled x).isEmpty = true then (s.readEnd x).reports.counters.fillCommands
        else countUp (s.readEnd x).reports.counters.fillCommands := by
      rw [shape]
    rw [count, account.fillCommands]
    simp only [s.readFilled_isEmpty, ite_not]
    rfl
  · rw [win, account.fillReported, s.mem_readFilled]
    rfl
  · rw [queue.1, queue.2]
    obtain ⟨raised, hq, of⟩ := account.raised
    refine ⟨raised, hq, fun w => ⟨fun old => (of w).1 (old.imp_right fun no mem => ?_), fun k hk hf hw new first =>
      (of w).2 k hk ⟨hf, hw, first⟩ new⟩⟩
    obtain ⟨k, hk, hf, hw⟩ := (account.mem w).1 mem
    exact no k hk hf hw
  · rw [shape]; exact frame.pending
  · rw [shape]; exact frame.part
  · rw [shape]; exact frame.cause
  · rw [shape]; exact frame.strapPins
  · rw [shape]; exact frame.straps
  · rw [shape]; exact frame.views
  · rw [win]; exact frame.geom? w
  · have engine : (s.readCommand x).engine = (s.readEnd x).engine := by rw [shape]
    rw [engine]
    exact (s.readEnd_law x quiet law).readback

end Sys2Proof.Machine
end

section
/-! A dip that falls into a READ over a host-busy flash: the chunks under the touched list are not GOOD from the next byte on (R88,
R105, R108, R149). -/

namespace Sys2Proof.Machine

/-- Chunk `i` of window `w`, if there is one, is not GOOD. -/
def State.notGood (w : Fin 32) (i : Nat) (s : State) : Prop := ∀ c, s.chunk? w i = some c → c.state ≠ .good

theorem State.notGood.same {s t : State} {w : Fin 32} {i : Nat} (h : s.notGood w i) (same : sameChunk s t w i) : t.notGood w i := by
  intro c hc good
  rw [sameChunk, hc] at same
  obtain ⟨d, hd, known⟩ := Option.map_eq_some_iff.1 same.symm
  exact h d hd ((congrArg Prod.fst known).trans good)

theorem State.notGood.of_eq {s t : State} {w : Fin 32} {i : Nat} (h : s.notGood w i) (same : t.chunk? w i = s.chunk? w i) :
    t.notGood w i := h.same (congrArg (Option.map Chunk.known) same)

theorem State.endDigesting_none {s : State} {w : Fin 32} {i : Nat} (h : s.chunk? w i = none) : s.endDigesting w i = s := by
  simp [State.endDigesting, h]

theorem State.disturb_none {s : State} {w : Fin 32} {i : Nat} (h : s.chunk? w i = none) : s.disturb w i = s := by
  rw [State.disturb, State.endDigesting_none h, State.moveChunk_none _ _ _ _ _ h]

/-- A disturbed chunk is not GOOD (R70). -/
theorem State.disturb_makes_notGood (s : State) (w : Fin 32) (i : Nat) : (s.disturb w i).notGood w i := by
  cases hc : s.chunk? w i with
  | none =>
    intro c h
    rw [State.disturb_none hc, hc] at h
    cases h
  | some c =>
    intro d hd
    rw [(s.disturb_spec w i c hc).1] at hd
    obtain rfl := Option.some.inj hd
    exact nofun

theorem State.notGood.disturb {s : State} {w : Fin 32} {i : Nat} (h : s.notGood w i) (u : Fin 32) (j : Nat) :
    (s.disturb u j).notGood w i := by
  by_cases here : (w, i) = (u, j)
  · simp only [Prod.mk.injEq] at here
    rw [here.1, here.2]
    exact s.disturb_makes_notGood u j
  · cases hc : s.chunk? u j with
    | none => rw [State.disturb_none hc]; exact h
    | some c => exact h.of_eq ((s.disturb_spec u j c hc).2.1 w i here)

theorem State.notGood.endDigesting {s : State} {w : Fin 32} {i : Nat} (h : s.notGood w i) (u : Fin 32) (j : Nat) :
    (s.endDigesting u j).notGood w i := by
  cases hc : s.chunk? u j with
  | none => rw [State.endDigesting_none hc]; exact h
  | some c =>
    obtain ⟨chunk, others, _⟩ := s.endDigesting_spec u j c hc
    by_cases here : (w, i) = (u, j)
    · simp only [Prod.mk.injEq] at here
      obtain ⟨rfl, rfl⟩ := here
      intro d hd
      rw [chunk] at hd
      obtain rfl := Option.some.inj hd
      exact h c hc
    · exact h.of_eq (others w i here)

/-! ### The dip mark (R88) -/

/-- A fold whose steps keep what holds, and that meets a step that makes it, makes it. -/
theorem foldl_makes {σ α : Type} (f : σ → α → σ) (fixed made : σ → Prop) (keeps_fixed : ∀ m a, fixed m → fixed (f m a))
    (keeps_made : ∀ m a, made m → made (f m a)) {a : α} (makes : ∀ m, fixed m → made (f m a)) (l : List α) (ha : a ∈ l) (m : σ)
    (h : fixed m) : made (l.foldl f m) := by
  have keeps : ∀ (l : List α) (m : σ), made m → made (l.foldl f m) := by
    intro l
    induction l with
    | nil => exact fun _ h => h
    | cons b l ih => exact fun m h => ih _ (keeps_made m b h)
  induction l generalizing m with
  | nil => cases ha
  | cons b l ih =>
    rcases List.mem_cons.1 ha with rfl | ha
    · exact keeps l _ (makes m h)
    · exact ih ha _ (keeps_fixed m b h)

theorem State.notGood.dipChunk {w : Fin 32} {i : Nat} {m : DipMark} (h : m.st.notGood w i) (u : Fin 32)
    (ranges : List (Nat × Nat)) (j : Nat) : (Machine.dipChunk u ranges m j).st.notGood w i := by
  unfold Machine.dipChunk
  split
  · exact (h.disturb u j).of_eq (State.chunk?_modWin_body _ u _ rfl w i)
  · exact h

theorem State.dipChunk_makes_notGood {w : Fin 32} {i : Nat} {m : DipMark} {ranges : List (Nat × Nat)}
    (met : (m.st.win w).body.chunkMet i ranges = true) : (Machine.dipChunk w ranges m i).st.notGood w i := by
  rw [Machine.dipChunk, if_pos met]
  exact (m.st.disturb_makes_notGood w i).of_eq (State.chunk?_modWin_body _ w _ rfl w i)

theorem State.notGood.dipWindow {w : Fin 32} {i : Nat} {m : DipMark} (h : m.st.notGood w i) (ranges : List (Nat × Nat))
    (u : Fin 32) : (Machine.dipWindow ranges m u).st.notGood w i := by
  have fold : ∀ (l : List Nat) (m : DipMark), m.st.notGood w i → (l.foldl (Machine.dipChunk u ranges) m).st.notGood w i := by
    intro l
    induction l with
    | nil => exact fun _ h => h
    | cons j l ih => exact fun m h => ih _ (h.dipChunk u ranges j)
  unfold Machine.dipWindow
  split
  · exact (fold _ m h).of_eq ((State.closeEvent_spec _ _ _).1 w i)
  · exact h

/-- Window `w` as the dip mark finds it: chunk `i` is there and met. -/
def State.dipMeets (w : Fin 32) (i : Nat) (ranges : List (Nat × Nat)) (s : State) : Prop :=
  i < (s.win w).body.count ∧ (s.win w).body.chunkMet i ranges = true

theorem State.dipMeets.work {w : Fin 32} {i : Nat} {ranges : List (Nat × Nat)} {s t : State} (h : s.dipMeets w i ranges)
    (outline : (t.win w).body.outline = (s.win w).body.outline) : t.dipMeets w i ranges := by
  refine ⟨?_, ?_⟩
  · rw [(WinBody.outline_inj outline).2.2.2.1]
    exact h.1
  · rw [WinBody.chunkMet_of_outline outline]
    exact h.2

theorem State.dipWindow_makes_notGood {w : Fin 32} {i : Nat} {m : DipMark} {ranges : List (Nat × Nat)}
    (h : m.st.dipMeets w i ranges) : (Machine.dipWindow ranges m w).st.notGood w i := by
  have some' : (m.st.win w).body.anyChunkMet ranges = true := by
    unfold WinBody.anyChunkMet
    rw [List.any_eq_true]
    exact ⟨i, List.mem_range.2 h.1, h.2⟩
  rw [Machine.dipWindow, if_pos some']
  have marked : ((List.range (m.st.win w).body.count).foldl (Machine.dipChunk w ranges) m).st.notGood w i :=
    foldl_makes (Machine.dipChunk w ranges) (fun m => m.st.dipMeets w i ranges) (fun m => m.st.notGood w i)
      (fun m j h => h.work ((dipChunk_work w ranges m j).outline w)) (fun _ j h => h.dipChunk w ranges j)
      (fun _ h => State.dipChunk_makes_notGood h.2) _ (List.mem_range.2 h.1) m h
  exact marked.of_eq ((State.closeEvent_spec _ _ _).1 w i)

/-- The dip mark leaves no chunk that it meets GOOD (R88). -/
theorem State.dipMark_notGood {s : State} {w : Fin 32} {i : Nat} {ranges : List (Nat × Nat)} (h : s.dipMeets w i ranges) :
    (s.dipMark ranges).st.notGood w i := by
  have mark : ∀ l : List (Fin 32), w ∈ l → ∀ m : DipMark, m.st.dipMeets w i ranges →
      (l.foldl (Machine.dipWindow ranges) m).st.notGood w i :=
    foldl_makes (Machine.dipWindow ranges) (fun m => m.st.dipMeets w i ranges) (fun m => m.st.notGood w i)
      (fun m u h => h.work ((dipWindow_work ranges m u).outline w)) (fun _ u h => h.dipWindow ranges u)
      (fun _ h => State.dipWindow_makes_notGood h)
  exact mark allWindows (mem_allWindows w) { st := s, marked := 0, windows := 0 } h

/-- A part that enters DIP over a host-busy flash leaves no chunk under the touched list GOOD (R149). -/
theorem State.enterDip_notGood {s : State} (fresh : Bool) {w : Fin 32} {i : Nat} (busy : s.bridge.busy = true)
    (owner : s.bridge.owner = .host) (h : s.dipMeets w i (s.bridge.touched.ranges s.flashBytes)) :
    (s.enterDip fresh).notGood w i := by
  have strike : s.dipStrike.st.notGood w i := by
    rw [State.dipStrike, if_pos ⟨busy, owner⟩]
    exact (State.dipMark_notGood h).of_eq (State.modParser_chunk? _ _ _ _)
  have dipped := strike.of_eq (State.modSupply_chunk? _ (Supply.enterDip fresh s.scheduler.ms) w i)
  unfold State.enterDip
  dsimp only
  split
  · exact dipped.of_eq (State.raise_chunk? _ _ _ _)
  · exact dipped

/-- A change to LOW outside DIP is such an entry (R147, R149). -/
theorem State.changeBand_low_notGood {s : State} {w : Fin 32} {i : Nat} (band : s.supply.band ≠ .low) (away : s.supply.state ≠ .dip)
    (busy : s.bridge.busy = true) (owner : s.bridge.owner = .host)
    (h : s.dipMeets w i (s.bridge.touched.ranges s.flashBytes)) : (s.changeBand .low).notGood w i := by
  have held : ∀ fresh, ((s.modSupply fun p => { p with band := .low }).enterDip fresh).notGood w i := fun fresh =>
    State.enterDip_notGood fresh busy owner h
  have event : (s.bandEvent .low).notGood w i := by
    unfold State.bandEvent
    rw [if_neg (Ne.symm band)]
    dsimp only
    cases hs : s.supply.state with
    | normal => exact held true
    | dip => exact absurd hs away
    | settling => exact held false
  rw [State.changeBand, if_neg (Ne.symm band)]
  exact (event.same ((State.refill_queueWork _).known w i)).same ((State.settleClaim_behind _).known w i)

/-! ### The READ behind the dip (R105, R108) -/

/-- Each offer of a READ says whether the flash was busy when the READ began (R105). -/
theorem State.readBefore_offer_busy (s : State) (x : HostXfer) (n : Nat) (hn : n ≤ (s.readData x).length) (o : Offer)
    (h : (s.readBefore x n).offer = some o) : o.busy = s.bridge.busy := by
  have cut : ∀ {o : Offer} (r : ReadRun) (b : ByteSite), (r.cut b).offer = some o → r.offer = some o := by
    intro o r b h
    rcases r.cut_cases b with ⟨e, _⟩ | ⟨e, _⟩
    · rwa [e] at h
    · rw [e, r.close_offer] at h
      cases h
  have between : ∀ {o : Offer} (r : ReadRun) (p : Nat) (l : List DuringRead), (r.between p l).offer = some o →
      r.offer = some o := by
    intro o r p l h
    cases l with
    | nil => exact h
    | cons e es => exact cut r _ h
  induction n generalizing o with
  | zero => cases between _ _ _ h
  | succ n ih =>
    have byte : (s.readData x)[n]? = some (s.readData x)[n] := List.getElem?_eq_getElem (by omega)
    have grown := between _ _ _ h
    rw [(s.readUpTo_byte x byte).2.2] at grown
    unfold ReadRun.grow at grown
    split at grown
    · next o' ho =>
      obtain rfl := Option.some.inj grown
      exact ih (by omega) o' (cut _ _ ho)
    · split at grown
      · obtain rfl := Option.some.inj grown
        exact s.readCut_busy x n
      · cases grown

theorem State.notGood.harvest_busy {s : State} {w : Fin 32} {i : Nat} (h : s.notGood w i) (o : Offer) (busy : o.busy = true) :
    (s.harvest o).notGood w i := by
  cases hc : s.chunk? o.window o.chunk with
  | none => rw [s.harvest_none o hc]; exact h
  | some c =>
    by_cases un : c.state = .unchecked
    · rw [s.harvest_busy o c hc un busy]
      exact h.endDigesting _ _
    · rw [s.harvest_of_not_unchecked o c hc un]
      exact h

theorem State.notGood.cut {s : State} {x : HostXfer} {w : Fin 32} {i n : Nat} (hn : n ≤ (s.readData x).length)
    (busy : s.bridge.busy = true) (h : (s.readBefore x n).st.notGood w i) : (s.readCut x n).st.notGood w i := by
  unfold State.readCut
  rcases (s.readBefore x n).cut_cases (s.readSite x n) with ⟨e, _⟩ | ⟨e, _⟩
  · rw [e]; exact h
  · rw [e, ReadRun.close]
    split
    · next o ho => exact h.harvest_busy o ((s.readBefore_offer_busy x n hn o ho).trans busy)
    · exact h

/-- With the dip in front of byte `m`, a chunk under the touched list is not GOOD ahead of any byte from `m` on (R149). -/
theorem State.readCut_dipped (s : State) (x : HostXfer) (m : Nat) (dips : x.during = [(m, .bandChange .low)])
    (band : s.supply.band ≠ .low) (away : s.supply.state ≠ .dip) (busy : s.bridge.busy = true) (owner : s.bridge.owner = .host)
    {w : Fin 32} {i : Nat} (met : s.dipMeets w i (s.bridge.touched.ranges s.flashBytes)) (n : Nat) (hm : m ≤ n)
    (hn : n ≤ (s.readData x).length) : (s.readCut x n).st.notGood w i := by
  have quiet : ∀ k, k ≠ m → eventsAt x.during k = [] := by
    intro k hk
    simp [eventsAt, dips, Ne.symm hk]
  have event : eventsAt x.during m = [.bandChange .low] := by simp [eventsAt, dips]
  induction n, hm using Nat.le_induction with
  | base =>
    have work : ChunkWork s.takeOpcode ((s.readUpTo x m).cut ((s.readUpTo x m).st.siteOf (s.readAddr x m))).st :=
      (s.readUpTo_work x m hn fun k hk => quiet k (by omega)).trans (ReadRun.cut_work _ _).1
    refine State.notGood.cut hn busy ?_
    rw [State.readBefore, event]
    show (((s.readUpTo x m).cut ((s.readUpTo x m).st.siteOf (s.readAddr x m))).st.changeBand .low).notGood w i
    have bytes : ((s.readUpTo x m).cut ((s.readUpTo x m).st.siteOf (s.readAddr x m))).st.flashBytes = s.flashBytes := by
      rw [State.flashBytes, work.straps]
      rfl
    refine State.changeBand_low_notGood (by rw [work.supply]; exact band) (by rw [work.supply]; exact away)
      (by rw [work.bridge]; exact busy) (by rw [work.bridge]; exact owner) ?_
    rw [bytes, work.bridge]
    exact met.work (work.outline w)
  | succ n hm ih =>
    have byte : (s.readData x)[n]? = some (s.readData x)[n] := List.getElem?_eq_getElem (by omega)
    have ahead := ih (by omega)
    refine State.notGood.cut hn busy ?_
    rw [State.readBefore, quiet (n + 1) (by omega), ReadRun.between_nil]
    rcases s.readUpTo_st x byte with e | ⟨v, view, fill, e⟩
    · rw [e]
      exact ahead
    · rw [e]
      exact ahead.same ((State.signalFill_same _ v view fill).2 w i)

/-- A protected image byte of such a chunk is fill from there on (R4, R149). -/
theorem State.readFills_dipped (s : State) (x : HostXfer) (m : Nat) (dips : x.during = [(m, .bandChange .low)])
    (band : s.supply.band ≠ .low) (away : s.supply.state ≠ .dip) (busy : s.bridge.busy = true) (owner : s.bridge.owner = .host)
    {w : Fin 32} {i o k : Nat} (hm : m ≤ k) (hk : k < (s.readData x).length) (hp : s.isProtected (s.readSite x k) = true)
    (hw : (s.readSite x k).window = some w) (hs : (s.readSite x k).site = some (i, o))
    (met : (s.win w).body.chunkMet i (s.bridge.touched.ranges s.flashBytes) = true) : s.readFills x k = true := by
  have not : (s.readCut x k).st.isProven (s.readSite x k) = false := by
    rw [← Bool.not_eq_true, State.isProven_iff]
    rintro ⟨w', i', o', d, hw', hs', hd, good⟩
    rw [hw] at hw'
    rw [hs] at hs'
    simp only [Option.some.injEq, Prod.mk.injEq] at hw' hs'
    obtain ⟨rfl, rfl, rfl⟩ := And.intro hw' hs'
    have count : i < (s.win w).body.count := by
      have same := (WinBody.outline_inj ((s.readCut_event x k).outline w)).2.2.2.1
      rw [show s.win w = s.takeOpcode.win w from rfl, ← same, ← State.chunk?_isSome, hd]
      rfl
    exact s.readCut_dipped x m dips band away busy owner ⟨count, met⟩ k hm hk.le d hd good
  rw [s.readFills_of_protected x hk hp, not]
  rfl

end Sys2Proof.Machine
end

section
/-! What a READ does to a chunk it does not read, and, with the flash busy, to one it does (R105, R108). -/

namespace Sys2Proof.Machine

/-- The open offer of a READ lies in the chunk of the last byte. -/
theorem InProgress.offer_reads {s : State} {x : HostXfer} {n : Nat} {r : ReadRun} (h : InProgress s x n r) {o : Offer}
    (ho : r.offer = some o) : 1 ≤ n ∧ s.readsChunk x (n - 1) o.window o.chunk := by
  obtain ⟨hn, _, hw, hs, _⟩ := h.offered o ho
  exact ⟨hn, hw, by rw [hs]; rfl⟩

theorem State.readBefore_eq_readUpTo (s : State) (x : HostXfer) {n : Nat} (quiet : eventsAt x.during n = []) :
    s.readBefore x n = s.readUpTo x n := by
  rw [State.readBefore, quiet, ReadRun.between_nil]

/-! ### A chunk that the READ does not read -/

/-- A READ in its place whose bytes so far are none of the chunk's hands on no offer of the chunk. -/
theorem InProgress.close_sameChunk {s : State} {x : HostXfer} {n : Nat} {r : ReadRun} (h : InProgress s x n r)
    (law : HarvestLaw r.st) {w : Fin 32} {i : Nat} (no : ∀ k, k < n → ¬s.readsChunk x k w i) : sameChunk r.st r.close.st w i := by
  unfold ReadRun.close
  split
  · next o ho =>
    refine (State.harvest_harvested _ o law).others w i fun e => ?_
    simp only [Prod.mk.injEq] at e
    obtain ⟨hn, reads⟩ := h.offer_reads ho
    rw [← e.1, ← e.2] at reads
    exact no (n - 1) (by omega) reads
  · rfl

/-- A READ without events leaves the chunks it does not read (R105). -/
theorem State.readBefore_sameChunk (s : State) (x : HostXfer) (quiet : x.during = []) (law : ContextLaw s) {w : Fin 32} {i : Nat}
    (n : Nat) (hn : n ≤ (s.readData x).length) (no : ∀ k, k < n → ¬s.readsChunk x k w i) :
    sameChunk s (s.readBefore x n).st w i := by
  have later : ∀ k, eventsAt x.during k = [] := fun k => by rw [quiet]; rfl
  induction n with
  | zero =>
    rw [s.readBefore_zero_quiet x quiet]
    rfl
  | succ n ih =>
    have byte : (s.readData x)[n]? = some (s.readData x)[n] := List.getElem?_eq_getElem (by omega)
    have before := ih (by omega) fun k hk => no k (by omega)
    have placed := s.readBefore_inProgress x (fun k _ => later k) n (by omega)
    have law' := (s.readBefore_law x (fun k _ => later k) (law.readBefore_zero x quiet) n (by omega)).1.law
    have cut : sameChunk s (s.readCut x n).st w i := by
      rcases (s.readBefore x n).cut_cases (s.readSite x n) with ⟨e, _⟩ | ⟨e, _⟩
      · rw [State.readCut, e]; exact before
      · rw [State.readCut, e]; exact before.trans (placed.close_sameChunk law' fun k hk => no k (by omega))
    rw [s.readBefore_eq_readUpTo x (later _)]
    rcases s.readUpTo_st x byte with e | ⟨v, view, fill, e⟩
    · rw [e]; exact cut
    · rw [e]; exact cut.trans ((State.signalFill_same _ v view fill).2 w i)

theorem State.readEnd_sameChunk (s : State) (x : HostXfer) (quiet : x.during = []) (law : ContextLaw s) {w : Fin 32} {i : Nat}
    (no : ∀ k, k < (s.readData x).length → ¬s.readsChunk x k w i) : sameChunk s (s.readEnd x) w i := by
  have later : ∀ k, 1 ≤ k → eventsAt x.during k = [] := fun k _ => by rw [quiet]; rfl
  exact (s.readBefore_sameChunk x quiet law _ le_rfl no).trans
    ((s.readBefore_inProgress x later _ le_rfl).close_sameChunk
      (s.readBefore_law x later (law.readBefore_zero x quiet) _ le_rfl).1.law no)

/-! ### A chunk that the READ reads while the flash is busy (R108) -/

/-- The UNCHECKED chunk that was `ch` names no context, and the stream context it named is FREE. -/
structure Dropped (ch : Chunk) (w : Fin 32) (i : Nat) (t : State) : Prop where
  chunk : ∃ d, t.chunk? w i = some d ∧ d.known = (.unchecked, ch.expected, ch.observed, none)
  stream : ∀ k, ch.link = some (.stream k) → t.stream k = none ∧ k ∉ t.engine.recency

theorem Dropped.same {ch : Chunk} {w : Fin 32} {i : Nat} {t u : State} (h : Dropped ch w i t) (engine : u.engine = t.engine)
    (known : sameChunk t u w i) : Dropped ch w i u where
  chunk := known.knows h.chunk
  stream k hk := by
    rw [State.stream, engine]
    exact h.stream k hk

/-- Ending what digests a chunk takes its stream, and no other, off the recency list (R99). -/
theorem State.endDigesting_recency (s : State) (w : Fin 32) (i : Nat) (c : Chunk) (hc : s.chunk? w i = some c) :
    (∀ k, k ∉ s.engine.recency → k ∉ (s.endDigesting w i).engine.recency) ∧
      ∀ k, c.link = some (.stream k) → k ∉ (s.endDigesting w i).engine.recency := by
  rcases hl : c.link with _ | (k | _)
  · have e : s.endDigesting w i = s := by simp [State.endDigesting, hc, hl]
    rw [e]
    exact ⟨fun _ h => h, nofun⟩
  · have e : s.endDigesting w i = (s.freeStream k).unlink w i := by simp [State.endDigesting, hc, hl]
    have recency : (s.endDigesting w i).engine.recency = s.engine.recency.filter (· ≠ k) := by rw [e]; rfl
    rw [recency]
    refine ⟨fun j hj mem => hj (List.mem_filter.1 mem).1, fun j hj => ?_⟩
    simp only [Option.some.injEq, Link.stream.injEq] at hj
    subst hj
    simp
  · have e : s.endDigesting w i = ((s.setReadback none).countAbort).unlink w i := by simp [State.endDigesting, hc, hl]
    rw [e]
    exact ⟨fun _ h => h, fun _ h => by cases h⟩

theorem Dropped.endDigesting {ch : Chunk} {w : Fin 32} {i : Nat} {t : State} (h : Dropped ch w i t) (u : Fin 32) (j : Nat) :
    Dropped ch w i (t.endDigesting u j) := by
  cases hc : t.chunk? u j with
  | none => rw [State.endDigesting_none hc]; exact h
  | some c =>
    obtain ⟨chunk, others, streams, _⟩ := t.endDigesting_spec u j c hc
    refine ⟨?_, fun k hk => ?_⟩
    · by_cases here : (w, i) = (u, j)
      · simp only [Prod.mk.injEq] at here
        obtain ⟨rfl, rfl⟩ := here
        obtain ⟨d, hd, known⟩ := h.chunk
        rw [hc] at hd
        obtain rfl := Option.some.inj hd
        refine ⟨_, chunk, ?_⟩
        simp only [Chunk.known, Prod.mk.injEq] at known ⊢
        exact ⟨known.1, known.2.1, known.2.2.1, trivial⟩
      · rw [others w i here]
        exact h.chunk
    · obtain ⟨free, absent⟩ := h.stream k hk
      refine ⟨?_, (t.endDigesting_recency u j c hc).1 k absent⟩
      rw [streams, free, ite_self]

/-- Ending what digests the chunk as it was drops it. -/
theorem Dropped.of_endDigesting {ch : Chunk} {w : Fin 32} {i : Nat} {t : State} (un : ch.state = .unchecked)
    (h : ∃ d, t.chunk? w i = some d ∧ d.known = ch.known) : Dropped ch w i (t.endDigesting w i) := by
  obtain ⟨d, hd, known⟩ := h
  simp only [Chunk.known, Prod.mk.injEq] at known
  obtain ⟨state, expected, observed, link⟩ := known
  obtain ⟨chunk, _, streams, _⟩ := t.endDigesting_spec w i d hd
  refine ⟨⟨_, chunk, ?_⟩, fun k hk => ⟨?_, (t.endDigesting_recency w i d hd).2 k (link.trans hk)⟩⟩
  · simp only [Chunk.known, state, expected, observed, un]
  · rw [streams, if_pos (link.trans hk)]

/-- The chunk is as it was, or dropped. -/
def KeptOrDropped (ch : Chunk) (w : Fin 32) (i : Nat) (t : State) : Prop :=
  (∃ d, t.chunk? w i = some d ∧ d.known = ch.known) ∨ Dropped ch w i t

theorem KeptOrDropped.same {ch : Chunk} {w : Fin 32} {i : Nat} {t u : State} (h : KeptOrDropped ch w i t)
    (engine : u.engine = t.engine) (known : sameChunk t u w i) : KeptOrDropped ch w i u :=
  h.imp known.knows fun d => d.same engine known

theorem KeptOrDropped.chunk {ch : Chunk} {w : Fin 32} {i : Nat} {t : State} (un : ch.state = .unchecked)
    (h : KeptOrDropped ch w i t) : ∃ d, t.chunk? w i = some d ∧ d.state = .unchecked := by
  rcases h with ⟨d, hd, known⟩ | ⟨⟨d, hd, known⟩, _⟩
  · exact ⟨d, hd, (congrArg Prod.fst known).trans un⟩
  · exact ⟨d, hd, congrArg Prod.fst known⟩

theorem KeptOrDropped.endDigesting {ch : Chunk} {w : Fin 32} {i : Nat} {t : State} (un : ch.state = .unchecked)
    (h : KeptOrDropped ch w i t) (u : Fin 32) (j : Nat) :
    KeptOrDropped ch w i (t.endDigesting u j) ∧ ((u, j) = (w, i) → Dropped ch w i (t.endDigesting u j)) := by
  rcases h with kept | dropped
  · by_cases here : (u, j) = (w, i)
    · simp only [Prod.mk.injEq] at here
      obtain ⟨rfl, rfl⟩ := here
      have drops := Dropped.of_endDigesting un kept
      exact ⟨.inr drops, fun _ => drops⟩
    · refine ⟨.inl ?_, fun e => absurd e here⟩
      cases hc : t.chunk? u j with
      | none => rw [State.endDigesting_none hc]; exact kept
      | some c => rw [(t.endDigesting_spec u j c hc).2.1 w i (Ne.symm here)]; exact kept
  · exact ⟨.inr (dropped.endDigesting u j), fun _ => dropped.endDigesting u j⟩

/-- With the flash busy a harvest drops the stream of the chunk it meets, and does nothing to another (R108). -/
theorem KeptOrDropped.harvest_busy {ch : Chunk} {w : Fin 32} {i : Nat} {t : State} (un : ch.state = .unchecked)
    (h : KeptOrDropped ch w i t) (o : Offer) (busy : o.busy = true) :
    KeptOrDropped ch w i (t.harvest o) ∧ (Dropped ch w i t ∨ (o.window, o.chunk) = (w, i) → Dropped ch w i (t.harvest o)) := by
  have unchecked : (o.window, o.chunk) = (w, i) → ∃ c, t.chunk? o.window o.chunk = some c ∧ c.state = .unchecked := by
    intro e
    simp only [Prod.mk.injEq] at e
    rw [e.1, e.2]
    exact h.chunk un
  have ignored : ((o.window, o.chunk) ≠ (w, i)) → t.harvest o = t →
      KeptOrDropped ch w i (t.harvest o) ∧ (Dropped ch w i t ∨ (o.window, o.chunk) = (w, i) → Dropped ch w i (t.harvest o)) := by
    intro apart e
    rw [e]
    exact ⟨h, fun d => d.resolve_right apart⟩
  cases hc : t.chunk? o.window o.chunk with
  | none =>
    refine ignored (fun e => ?_) (t.harvest_none o hc)
    obtain ⟨c, found, _⟩ := unchecked e
    rw [hc] at found
    cases found
  | some c =>
    by_cases state : c.state = .unchecked
    · rw [t.harvest_busy o c hc state busy]
      obtain ⟨keeps, drops⟩ := h.endDigesting un o.window o.chunk
      exact ⟨keeps, fun d => d.elim (fun d => d.endDigesting _ _) drops⟩
    · refine ignored (fun e => ?_) (t.harvest_of_not_unchecked o c hc state)
      obtain ⟨d, found, un'⟩ := unchecked e
      rw [hc] at found
      obtain rfl := Option.some.inj found
      exact state un'

/-- A READ over a busy flash ahead of byte `n`: the chunk is as it was or dropped, and once the READ has read a byte of it, it is
dropped, or its offer is still open. -/
structure BusyRead (s : State) (x : HostXfer) (ch : Chunk) (w : Fin 32) (i n : Nat) (r : ReadRun) : Prop where
  kept : KeptOrDropped ch w i r.st
  read : (∃ k, k < n ∧ s.readsChunk x k w i) → Dropped ch w i r.st ∨ ∃ o, r.offer = some o ∧ (o.window, o.chunk) = (w, i)
  busy : ∀ o, r.offer = some o → o.busy = true

/-- With its offer handed on, a chunk that the READ has read is dropped (R108). -/
theorem BusyRead.close {s : State} {x : HostXfer} {ch : Chunk} {w : Fin 32} {i n : Nat} {r : ReadRun} (un : ch.state = .unchecked)
    (h : BusyRead s x ch w i n r) :
    KeptOrDropped ch w i r.close.st ∧ ((∃ k, k < n ∧ s.readsChunk x k w i) → Dropped ch w i r.close.st) := by
  unfold ReadRun.close
  split
  · next o ho =>
    obtain ⟨kept, drops⟩ := h.kept.harvest_busy un o (h.busy o ho)
    refine ⟨kept, fun reads => drops ((h.read reads).imp_right fun ⟨o', ho', e⟩ => ?_)⟩
    rw [ho] at ho'
    obtain rfl := Option.some.inj ho'
    exact e
  · next none' =>
    refine ⟨h.kept, fun reads => (h.read reads).resolve_right fun ⟨o, ho, _⟩ => ?_⟩
    rw [none'] at ho
    cases ho

theorem State.readBefore_busyRead (s : State) (x : HostXfer) (quiet : x.during = []) (busy : s.bridge.busy = true) {w : Fin 32}
    {i : Nat} {ch : Chunk} (hc : s.chunk? w i = some ch) (un : ch.state = .unchecked) (n : Nat)
    (hn : n ≤ (s.readData x).length) : BusyRead s x ch w i n (s.readBefore x n) := by
  have later : ∀ k, eventsAt x.during k = [] := fun k => by rw [quiet]; rfl
  have offers : ∀ n, n ≤ (s.readData x).length → ∀ o, (s.readBefore x n).offer = some o → o.busy = true := fun n hn o ho =>
    (s.readBefore_offer_busy x n hn o ho).trans busy
  induction n with
  | zero =>
    refine ⟨.inl ⟨ch, ?_, rfl⟩, fun ⟨k, hk, _⟩ => absurd hk (Nat.not_lt_zero k), offers 0 hn⟩
    rw [s.readBefore_zero_quiet x quiet]
    exact hc
  | succ n ih =>
    have byte : (s.readData x)[n]? = some (s.readData x)[n] := List.getElem?_eq_getElem (by omega)
    have before := ih (by omega)
    have placed := s.readBefore_inProgress x (fun k _ => later k) (n + 1) hn
    have offers' := offers (n + 1) hn
    obtain ⟨_, _, grown⟩ := s.readUpTo_byte x byte
    have cut : KeptOrDropped ch w i (s.readCut x n).st ∧ ((∃ k, k < n ∧ s.readsChunk x k w i) →
        Dropped ch w i (s.readCut x n).st ∨ ∃ o, (s.readUpTo x (n + 1)).offer = some o ∧ (o.window, o.chunk) = (w, i)) := by
      rcases (s.readBefore x n).cut_cases (s.readSite x n) with ⟨e, _⟩ | ⟨e, _⟩
      · rw [State.readCut, e] at grown ⊢
        refine ⟨before.kept, fun reads => (before.read reads).imp_right fun ⟨o, ho, at'⟩ => ?_⟩
        rw [grown, ReadRun.grow, ho]
        exact ⟨_, rfl, at'⟩
      · rw [State.readCut, e]
        obtain ⟨kept, drops⟩ := before.close un
        exact ⟨kept, fun reads => .inl (drops reads)⟩
    rw [s.readBefore_eq_readUpTo x (later _)] at placed offers' ⊢
    have read : (∃ k, k < n + 1 ∧ s.readsChunk x k w i) →
        Dropped ch w i (s.readCut x n).st ∨ ∃ o, (s.readUpTo x (n + 1)).offer = some o ∧ (o.window, o.chunk) = (w, i) := by
      rintro ⟨k, hk, reads⟩
      by_cases h : k < n
      · exact cut.2 ⟨k, h, reads⟩
      · obtain rfl : k = n := by omega
        cases ho : (s.readUpTo x (k + 1)).offer with
        | none => exact absurd reads (placed.unoffered ho (by omega) w i)
        | some o =>
          refine .inr ⟨o, rfl, ?_⟩
          obtain ⟨_, hw, hi⟩ := placed.offer_reads ho
          obtain ⟨hw', hi'⟩ := reads
          rw [Nat.add_sub_cancel] at hw hi
          rw [hw] at hw'
          rw [hi] at hi'
          rw [Option.some.inj hw', Option.some.inj hi']
    rcases s.readUpTo_st x byte with e | ⟨v, view, fill, e⟩
    · exact ⟨by rw [e]; exact cut.1, by rw [e]; exact read, offers'⟩
    · obtain ⟨engine, known⟩ := State.signalFill_same (s.readCut x n).st v view fill
      exact ⟨by rw [e]; exact cut.1.same engine (known w i),
        by rw [e]; exact fun reads => (read reads).imp_left fun d => d.same engine (known w i), offers'⟩

/-- A READ without events over a busy flash drops the read stream of each UNCHECKED chunk it reads (R108). -/
theorem State.readEnd_dropped (s : State) (x : HostXfer) (quiet : x.during = []) (busy : s.bridge.busy = true) {w : Fin 32}
    {i : Nat} {ch : Chunk} (hc : s.chunk? w i = some ch) (un : ch.state = .unchecked)
    (reads : ∃ k, k < (s.readData x).length ∧ s.readsChunk x k w i) : Dropped ch w i (s.readEnd x) :=
  ((s.readBefore_busyRead x quiet busy hc un _ le_rfl).close un).2 reads

end Sys2Proof.Machine
end

section
/-! A READ within one UNCHECKED chunk (R105 to R107, R109): it hands on one offer, of all its bytes, behind the fill signal of its
first byte. -/

namespace Sys2Proof.Machine

/-! ### The fill signal of a byte (R133) -/

theorem State.signalFill_chunk? (s : State) (w : Fin 32) (view : Option (Fin 8)) (fill : Byte) (u : Fin 32) (j : Nat) :
    (s.signalFill w view fill).chunk? u j = s.chunk? u j := by
  unfold State.signalFill
  split
  · rfl
  · exact State.chunk?_modWin_body _ w _ rfl u j

/-- What the accounting of byte `n` does to the state and to the list of windows that had fill (R5). -/
theorem State.readUpTo_signals (s : State) (x : HostXfer) {n : Nat} {b : Byte} {w : Fin 32} (hb : (s.readData x)[n]? = some b)
    (hw : (s.readSite x n).window = some w) :
    (s.readUpTo x (n + 1)).st =
        (if s.readFills x n = true ∧ w ∉ (s.readUpTo x n).filled then
          (s.readCut x n).st.signalFill w (s.readSite x n).view (s.fillOf (s.readSite x n))
        else (s.readCut x n).st) ∧
      (s.readUpTo x (n + 1)).filled =
        if s.readFills x n = true ∧ w ∉ (s.readUpTo x n).filled then w :: (s.readUpTo x n).filled else (s.readUpTo x n).filled := by
  have lt : n < (s.readData x).length := (List.getElem?_eq_some_iff.1 hb).1
  have fills : (s.readCut x n).st.fills (s.readSite x n) = s.readFills x n := by
    rw [State.readFills, decide_eq_true lt, Bool.true_and]
  have filled : (s.readCut x n).filled = (s.readUpTo x n).filled :=
    (ReadRun.cut_filled _ _).trans (ReadRun.between_filled _ _ _)
  rw [s.readUpTo_succ x hb]
  unfold ReadRun.byte
  rw [s.readBefore_site]
  dsimp only
  rw [show (s.readBefore x n).cut (s.readSite x n) = s.readCut x n from rfl]
  unfold ReadRun.account
  simp only [hw, fills, filled, (s.readCut_event x n).fillOf]
  by_cases h : s.readFills x n = true ∧ w ∉ (s.readUpTo x n).filled
  · have test : (s.readFills x n && !(s.readUpTo x n).filled.contains w) = true := by simpa using h
    rw [if_pos test, if_pos h, if_pos h]
    exact ⟨rfl, rfl⟩
  · have test : ¬(s.readFills x n && !(s.readUpTo x n).filled.contains w) = true := by simpa using h
    rw [if_neg test, if_neg h, if_neg h]
    exact ⟨rfl, rfl⟩

/-! ### One segment -/

/-- A READ without events, with the flash not busy, of bytes that follow on in one UNCHECKED chunk. -/
structure OneSegment (s : State) (x : HostXfer) (w : Fin 32) (i off : Nat) (ch : Chunk) : Prop where
  quiet : x.during = []
  idle : s.bridge.busy = false
  data : s.readData x ≠ []
  chunk : s.chunk? w i = some ch
  unchecked : ch.state = .unchecked
  sites : ∃ v p, ∀ k, k < (s.readData x).length →
    s.readSite x k = { view := v, addr := p + k, window := some w, site := some (i, off + k) }

/-- The offer of such a READ (R5). -/
def State.wholeOffer (s : State) (x : HostXfer) (w : Fin 32) (i off : Nat) : Offer :=
  { window := w, chunk := i, offset := off, busy := false, bytes := s.readData x }

/-- The state in which such a READ hands on its offer: its first byte has signalled fill if it is protected. -/
def State.readSignalled (s : State) (x : HostXfer) (w : Fin 32) : State :=
  if s.isProtected (s.readSite x 0) = true then
    s.takeOpcode.signalFill w (s.readSite x 0).view (s.fillOf (s.readSite x 0))
  else s.takeOpcode

section
variable {s : State} {x : HostXfer} {w : Fin 32} {i off : Nat} {ch : Chunk}

theorem OneSegment.window (h : OneSegment s x w i off ch) {k : Nat} (hk : k < (s.readData x).length) :
    (s.readSite x k).window = some w := by
  obtain ⟨v, p, sites⟩ := h.sites
  rw [sites k hk]

theorem OneSegment.length_pos (h : OneSegment s x w i off ch) : 0 < (s.readData x).length := List.length_pos_iff.2 h.data

theorem OneSegment.isProtected (h : OneSegment s x w i off ch) {k : Nat} (hk : k < (s.readData x).length) :
    s.isProtected (s.readSite x k) = s.isProtected (s.readSite x 0) := by
  obtain ⟨v, p, sites⟩ := h.sites
  rw [sites k hk, sites 0 h.length_pos]
  rfl

theorem OneSegment.goes_on (h : OneSegment s x w i off ch) {k : Nat} (hk : k + 1 < (s.readData x).length) :
    (s.readSite x k).sameSegment (s.readSite x (k + 1)) = true := by
  obtain ⟨v, p, sites⟩ := h.sites
  rw [sites k (by omega), sites (k + 1) hk]
  simp [ByteSite.sameSegment]
  omega

theorem State.readSignalled_chunk? (s : State) (x : HostXfer) (w u : Fin 32) (j : Nat) :
    (s.readSignalled x w).chunk? u j = s.chunk? u j := by
  unfold State.readSignalled
  split
  · exact State.signalFill_chunk? _ _ _ _ _ _
  · rfl

/-- Until its last byte has passed, the protected bytes of such a READ are fill (R4). -/
theorem OneSegment.fills (h : OneSegment s x w i off ch) {k : Nat} (hk : k < (s.readData x).length)
    (unchecked : ∃ d, (s.readCut x k).st.chunk? w i = some d ∧ d.state = .unchecked) :
    s.readFills x k = s.isProtected (s.readSite x 0) := by
  cases hp : s.isProtected (s.readSite x 0) with
  | false => exact s.readFills_of_unprotected x k ((h.isProtected hk).trans hp)
  | true =>
    have not : (s.readCut x k).st.isProven (s.readSite x k) = false := by
      obtain ⟨v, p, sites⟩ := h.sites
      obtain ⟨d, hd, un⟩ := unchecked
      rw [sites k hk]
      simp [State.isProven, hd, un]
    rw [s.readFills_of_protected x hk ((h.isProtected hk).trans hp), not]
    rfl

/-- Behind its first `n` bytes the READ has signalled fill once, if at all, and holds one offer of all its bytes (R5, R133). -/
theorem OneSegment.readUpTo (h : OneSegment s x w i off ch) (n : Nat) (hn : n + 1 ≤ (s.readData x).length) :
    (s.readUpTo x (n + 1)).st = s.readSignalled x w ∧
      (s.readUpTo x (n + 1)).filled = (if s.isProtected (s.readSite x 0) = true then [w] else []) ∧
      (s.readUpTo x (n + 1)).offer =
        some { window := w, chunk := i, offset := off, busy := false, bytes := (s.readData x).take (n + 1) } := by
  have before : ∀ k, s.readBefore x k = s.readUpTo x k := fun k => s.readBefore_eq_readUpTo x (by rw [h.quiet]; rfl)
  have byte : ∀ k, k < (s.readData x).length → (s.readData x)[k]? = some ((s.readData x)[k]!) := fun k hk => by
    rw [List.getElem?_eq_getElem hk, List.getElem!_eq_getElem?_getD, List.getElem?_eq_getElem hk]
    rfl
  induction n with
  | zero =>
    have cut : s.readCut x 0 = s.readUpTo x 0 := by rw [State.readCut, before]; rfl
    obtain ⟨st, filled⟩ := s.readUpTo_signals x (byte 0 h.length_pos) (h.window h.length_pos)
    have fills := h.fills h.length_pos (by rw [cut]; exact ⟨ch, h.chunk, h.unchecked⟩)
    have fresh : (s.readFills x 0 = true ∧ w ∉ (s.readUpTo x 0).filled) ↔ s.isProtected (s.readSite x 0) = true := by
      rw [fills]
      exact and_iff_left List.not_mem_nil
    simp only [fresh, cut] at st filled
    refine ⟨st, filled, ?_⟩
    obtain ⟨v, p, sites⟩ := h.sites
    have site := sites 0 h.length_pos
    rw [(s.readUpTo_byte x (byte 0 h.length_pos)).2.2, cut,
      ReadRun.grow_image (w := w) (i := i) (o := off) _ rfl (by rw [site]) (by rw [site]; rfl)]
    have one : (s.readData x).take 1 = [(s.readData x)[0]!] := by
      rw [List.take_one, List.head?_eq_getElem?, byte 0 h.length_pos]
      rfl
    rw [Nat.zero_add, one, show (s.readUpTo x 0).st.bridge.busy = false from h.idle]
  | succ n ih =>
    obtain ⟨ih_st, ih_filled, ih_offer⟩ := ih (by omega)
    have last := (s.readUpTo_byte x (byte n (by omega))).2.1
    have cut : s.readCut x (n + 1) = s.readUpTo x (n + 1) := by
      rw [State.readCut, before, ReadRun.cut, last]
      simp only [h.goes_on (show n + 1 < (s.readData x).length by omega), if_true]
    obtain ⟨st, filled⟩ := s.readUpTo_signals x (byte (n + 1) (by omega)) (h.window (by omega))
    have fills := h.fills (k := n + 1) (by omega) (by
      rw [cut, ih_st, s.readSignalled_chunk?]
      exact ⟨ch, h.chunk, h.unchecked⟩)
    have old : ¬(s.readFills x (n + 1) = true ∧ w ∉ (s.readUpTo x (n + 1)).filled) := by
      rintro ⟨hf, new⟩
      rw [fills] at hf
      rw [ih_filled, if_pos hf] at new
      exact new List.mem_cons_self
    rw [if_neg old, cut] at st
    rw [if_neg old] at filled
    refine ⟨st.trans ih_st, filled.trans ih_filled, ?_⟩
    rw [(s.readUpTo_byte x (byte (n + 1) (by omega))).2.2, cut, ReadRun.grow, ih_offer]
    have more : (s.readData x).take (n + 1 + 1) = (s.readData x).take (n + 1) ++ [(s.readData x)[n + 1]!] := by
      rw [List.take_add_one, byte (n + 1) (by omega)]
      rfl
    rw [more]

/-- Such a READ is one harvest of all its bytes (R105). -/
theorem OneSegment.readEnd (h : OneSegment s x w i off ch) :
    s.readEnd x = (s.readSignalled x w).harvest (s.wholeOffer x w i off) := by
  obtain ⟨n, hn⟩ := Nat.exists_eq_succ_of_ne_zero h.length_pos.ne'
  obtain ⟨st, _, offer⟩ := h.readUpTo n hn.ge
  rw [State.readEnd, s.readBefore_eq_readUpTo x (by rw [h.quiet]; rfl), hn, Nat.succ_eq_add_one, ReadRun.close, offer]
  dsimp only
  rw [st, State.wholeOffer, List.take_of_length_le hn.le]

end

end Sys2Proof.Machine
end

section
/-! What a READ within one UNCHECKED chunk leaves (R72, R90, R91, R99, R105 to R109, R123), and a READ in front of which a read-back
starts (R84, R105, R110). -/

namespace Sys2Proof.Machine

/-! ### The queue, its wants and the queued fields -/

/-- The check queue, the wants of the windows and the chunks' queued fields are as they were (R116, R120, R121). -/
structure QueueSame (s t : State) : Prop where
  scheduler : t.scheduler = s.scheduler
  wanted : ∀ v, (t.win v).checkWanted = (s.win v).checkWanted
  queued : ∀ u j, (t.chunk? u j).map (fun c => c.queued) = (s.chunk? u j).map fun c => c.queued

theorem QueueSame.refl (s : State) : QueueSame s s := ⟨rfl, fun _ => rfl, fun _ _ => rfl⟩

theorem QueueSame.trans {s t u : State} (h : QueueSame s t) (k : QueueSame t u) : QueueSame s u :=
  ⟨k.scheduler.trans h.scheduler, fun v => (k.wanted v).trans (h.wanted v), fun u j => (k.queued u j).trans (h.queued u j)⟩

theorem State.modEngine_queueSame (s : State) (f : Engine → Engine) : QueueSame s (s.modEngine f) :=
  ⟨rfl, fun _ => rfl, fun _ _ => rfl⟩

theorem State.modChunk_queueSame (s : State) (w : Fin 32) (i : Nat) (f : Chunk → Chunk) (hf : ∀ c, (f c).queued = c.queued) :
    QueueSame s (s.modChunk w i f) := by
  refine ⟨rfl, fun v => ?_, fun u j => ?_⟩
  · rw [State.modChunk, State.win_modWin]
    split
    · next e => rw [e]
    · rfl
  · rw [State.chunk?_modChunk]
    split
    · cases s.chunk? u j with
      | none => rfl
      | some c => exact congrArg some (hf c)
    · rfl

theorem State.closeEvent_queueSame (s : State) (w : Fin 32) (n : Nat) : QueueSame s (s.closeEvent w n) := by
  obtain ⟨chunks, _, _, scheduler, flags⟩ := s.closeEvent_spec w n
  exact ⟨scheduler, fun v => (flags v).2.2, fun u j => congrArg _ (chunks u j)⟩

theorem State.signalFill_queueSame (s : State) (w : Fin 32) (view : Option (Fin 8)) (fill : Byte) :
    QueueSame s (s.signalFill w view fill) := by
  refine ⟨?_, fun v => ?_, fun u j => congrArg _ (s.signalFill_chunk? w view fill u j)⟩
  · unfold State.signalFill
    split <;> rfl
  · unfold State.signalFill
    split
    · rfl
    · rw [State.win_modWin]
      split
      · next e => rw [e]; rfl
      · rfl

theorem QueueSame.noRefill {s t : State} (h : QueueSame s t) (loaded : ∀ v, (t.win v).body.isLoaded = (s.win v).body.isLoaded)
    (k : s.noRefill) : t.noRefill := by
  intro v hv
  rw [h.wanted]
  exact k v (by rw [← loaded]; exact hv)

/-! ### The state behind the fill signal -/

/-- The GUARD_FILL that a READ within one chunk raises (R133). -/
def State.fillReports (s : State) (x : HostXfer) (w : Fin 32) : List Report :=
  if s.isProtected (s.readSite x 0) = true ∧ (s.win w).fillReported = false then
    [.guardFill w (s.readSite x 0).view (s.win w).body.code (s.fillOf (s.readSite x 0))]
  else []

/-- The fill signal raises its report, if one is due, and leaves what an event looks at. -/
structure Signalled (s t : State) (raised : List Report) : Prop where
  work : ChunkWork s t
  reported : reported s t raised
  engine : t.engine = s.engine
  counters : t.reports.counters = s.reports.counters
  goodCount : ∀ v, (t.win v).goodCount = (s.win v).goodCount
  checkReportWanted : ∀ v, (t.win v).checkReportWanted = (s.win v).checkReportWanted
  queue : QueueSame s t

theorem State.signalFill_signalled (s : State) (w : Fin 32) (view : Option (Fin 8)) (fill : Byte) :
    Signalled s (s.signalFill w view fill)
      (if (s.win w).fillReported = false then [.guardFill w view (s.win w).body.code fill] else []) := by
  have queue := s.signalFill_queueSame w view fill
  have work := s.signalFill_work w view fill
  cases hf : (s.win w).fillReported with
  | true =>
    have same : s.signalFill w view fill = s := by rw [State.signalFill, if_pos hf]
    rw [same] at queue ⊢
    exact ⟨.refl s, reported_nil s, rfl, rfl, fun _ => rfl, fun _ => rfl, queue⟩
  | false =>
    have signal : s.signalFill w view fill =
        (s.raise (.guardFill w view (s.win w).body.code fill)).modWin w fun v => { v with fillReported := true } := by
      rw [State.signalFill, if_neg (by rw [hf]; exact nofun)]
    have flag : ∀ v, ((s.signalFill w view fill).win v).goodCount = (s.win v).goodCount ∧
        ((s.signalFill w view fill).win v).checkReportWanted = (s.win v).checkReportWanted := by
      intro v
      rw [signal, State.win_modWin]
      split
      · next e => rw [e]; exact ⟨rfl, rfl⟩
      · exact ⟨rfl, rfl⟩
    refine ⟨work, ?_, ?_, ?_, fun v => (flag v).1, fun v => (flag v).2, queue⟩
    · rw [signal]
      exact s.raise_reported _
    · rw [signal]; rfl
    · rw [signal]
      exact s.raise_counters _

theorem State.readSignalled_signalled (s : State) (x : HostXfer) (w : Fin 32) :
    Signalled s.takeOpcode (s.readSignalled x w) (s.fillReports x w) := by
  unfold State.readSignalled State.fillReports
  cases hp : s.isProtected (s.readSite x 0) with
  | true =>
    have signal := s.takeOpcode.signalFill_signalled w (s.readSite x 0).view (s.fillOf (s.readSite x 0))
    rw [if_pos rfl]
    simp only [true_and]
    exact signal
  | false =>
    rw [if_neg nofun, if_neg fun h => by cases h.1]
    exact ⟨.refl _, reported_nil _, rfl, rfl, fun _ => rfl, fun _ => rfl, .refl _⟩

/-! ### The end of such a READ -/

section
variable {s : State} {x : HostXfer} {w : Fin 32} {i off : Nat} {ch : Chunk}

/-- What stands at the end of such a READ whose harvest left `u`. -/
structure SegmentEnd (s u t : State) (x : HostXfer) (w : Fin 32) (raised : List Report) : Prop where
  known : ∀ v j, sameChunk u t v j
  engine : t.engine = u.engine
  counters : t.reports.counters = { u.reports.counters with fillCommands := t.reports.counters.fillCommands }
  goodCount : ∀ v, (t.win v).goodCount = (u.win v).goodCount
  tell : tells s t [w] (s.fillReports x w ++ raised) []
  queue : u.scheduler.queue <+: t.scheduler.queue
  idle : u.noRefill → QueueSame u t

theorem tells.of_same {s t u : State} {ws : List (Fin 32)} {ahead rest : List Report} (h : tells s t ws ahead rest)
    (win : u.win = t.win) (queue : u.reports.queue = t.reports.queue) (dropped : u.reports.dropped = t.reports.dropped) :
    tells s u ws ahead rest := by
  have due : checkDoneDue s u = checkDoneDue s t := by unfold checkDoneDue; rw [win]
  have closing : closingReports s u = closingReports s t := by unfold closingReports; rw [win, due]
  unfold tells reported
  rw [closing, queue, dropped, due, win]
  exact h

theorem OneSegment.atEnd (h : OneSegment s x w i off ch) {raised : List Report}
    (told : reported (s.readSignalled x w) ((s.readSignalled x w).harvestIdle (s.wholeOffer x w i off)) raised)
    (flags : ∀ v, (((s.readSignalled x w).harvestIdle (s.wholeOffer x w i off)).win v).checkReportWanted =
      ((s.readSignalled x w).win v).checkReportWanted) :
    SegmentEnd s ((s.readSignalled x w).harvestIdle (s.wholeOffer x w i off)) (s.readCommand x) x w raised := by
  have signalled := s.readSignalled_signalled x w
  have finish : s.readEnd x = (((s.readSignalled x w).harvestIdle (s.wholeOffer x w i off)).closeEvent w
      (s.win w).goodCount).refill := by
    rw [h.readEnd, State.harvest_idle _ _ ch ((s.readSignalled_chunk? x w w i).trans h.chunk) h.unchecked rfl,
      show (s.wholeOffer x w i off).window = w from rfl, signalled.goodCount]
    rfl
  have shape := s.readCommand_eq_end x
  generalize (s.readSignalled x w).harvestIdle (s.wholeOffer x w i off) = u at told flags finish ⊢
  have behind := (State.refill_queueWork (u.closeEvent w (s.win w).goodCount)).behind
  rw [← finish] at behind
  have ends := EventEnd.of_close behind
  have ahead : reported s u (s.fillReports x w ++ raised) := signalled.reported.trans told
  have win : (s.readCommand x).win = (s.readEnd x).win := by rw [shape]; rfl
  have chunks : ∀ v j, (s.readCommand x).chunk? v j = (s.readEnd x).chunk? v j := fun v j => by rw [shape]; rfl
  have engine : (s.readCommand x).engine = (s.readEnd x).engine := by rw [shape]
  have scheduler : (s.readCommand x).scheduler = (s.readEnd x).scheduler := by rw [shape]
  refine ⟨fun v j => ?_, engine.trans ends.engine, ?_, fun v => ?_, ?_, ?_, fun none' => ?_⟩
  · rw [sameChunk, chunks]
    exact ends.known v j
  · conv_lhs => rw [shape]
    rw [← ends.counters]
    conv_rhs => rw [shape]
  · rw [win]
    exact ends.goodCount v
  · refine (behind.tells (tells_closeEvent w ahead fun v => (flags v).trans (signalled.checkReportWanted v))).of_same win ?_ ?_
    · rw [shape]
    · rw [shape]
  · have closed := (u.closeEvent_queueSame w (s.win w).goodCount).scheduler
    rw [scheduler, finish, ← closed]
    exact State.refill_prefix _
  · have closed := u.closeEvent_queueSame w (s.win w).goodCount
    have idle := closed.noRefill (fun v => (u.closeEvent_work w (s.win w).goodCount).isLoaded v) none'
    rw [State.refill_of_noRefill _ idle] at finish
    rw [← finish] at closed
    exact ⟨scheduler.trans closed.scheduler, fun v => by rw [win]; exact closed.wanted v,
      fun v j => by rw [chunks]; exact closed.queued v j⟩

/-! ### A chunk that stays UNCHECKED (R106, R107) -/

theorem checkDoneDue_of_unchecked {s t : State} {w : Fin 32} {i : Nat} (h : ∃ d, t.chunk? w i = some d ∧ d.state = .unchecked) :
    checkDoneDue s t w = false := by
  obtain ⟨d, hd, un⟩ := h
  unfold checkDoneDue
  cases hb : (t.win w).body with
  | loaded g c e =>
    simp only [State.chunk?, hb, WinBody.cat?, Option.bind_some] at hd
    have pending : (c.chunks.all fun x => decide (x.state ∉ [ChunkState.unchecked, .checking, .filling])) = false := by
      rw [List.all_eq_false]
      exact ⟨d, List.mem_of_getElem? hd, by simp [un]⟩
    dsimp only
    rw [pending, Bool.and_false]
  | vacant | defined _ | opened _ _ | rejected _ => rw [Bool.and_false]

theorem closingReports_of_unchanged {s t : State} {w : Fin 32} (due : checkDoneDue s t w = false)
    (good : (t.win w).goodCount = (s.win w).goodCount) : closingReports s t w = [] := by
  unfold closingReports
  cases (t.win w).body with
  | loaded g c e =>
    dsimp only
    rw [due, good, if_neg (fun h => by omega), if_neg (fun h => by omega)]
    rfl
  | vacant | defined _ | opened _ _ | rejected _ => rfl

theorem tells.unclosed {s t : State} {w : Fin 32} {ahead : List Report} (h : tells s t [w] ahead [])
    (due : checkDoneDue s t w = false) (closing : closingReports s t w = []) : tells s t [] ahead [] := by
  obtain ⟨reports, flags⟩ := h
  refine ⟨by simpa [closing] using reports, fun v => ?_⟩
  rw [flags v]
  by_cases hv : v = w
  · subst hv; simp [due]
  · simp [hv]

/-- The READ has told its fill, and left the chunk UNCHECKED and everything else as it was but FILL_COMMANDS and what a refill adds. -/
def LeftUnproven (s t : State) (x : HostXfer) (w : Fin 32) (i : Nat) (ch : Chunk) : Prop :=
  (∀ u j, (u, j) ≠ (w, i) → sameChunk s t u j) ∧
    t.reports.counters = { s.reports.counters with fillCommands := t.reports.counters.fillCommands } ∧
    tells s t [] (s.fillReports x w) [] ∧ s.scheduler.queue <+: t.scheduler.queue ∧
    (s.noRefill → t.scheduler.queue = s.scheduler.queue ∧ (t.chunk? w i).map (fun c => c.queued) = some ch.queued)

/-- The stream context that a READ leaves in `k`, the others as they were, and the recency list (R99). -/
def LeftStream (s t : State) (k : Fin 3) (stream : Option StreamCtx) : Prop :=
  (∀ j, t.stream j = if j = k then stream else s.stream j) ∧
    t.engine.recency =
      if stream.isSome = true then k :: s.engine.recency.filter (· ≠ k) else s.engine.recency.filter (· ≠ k)

/-- The UNCHECKED chunk knows what it knew, and names this context. -/
def LeftLinked (t : State) (w : Fin 32) (i : Nat) (ch : Chunk) (link : Option Link) : Prop :=
  ∃ d, t.chunk? w i = some d ∧ d.known = (.unchecked, ch.expected, ch.observed, link)

theorem OneSegment.leftUnproven (h : OneSegment s x w i off ch) {u : State} {link : Option Link}
    (ends : SegmentEnd s u (s.readCommand x) x w []) (work : ChunkWork s.takeOpcode u) (linked : LeftLinked u w i ch link)
    (others : ∀ v j, (v, j) ≠ (w, i) → sameChunk s u v j) (counters : u.reports.counters = s.reports.counters)
    (good : (u.win w).goodCount = (s.win w).goodCount) (queue : QueueSame s.takeOpcode u) :
    LeftUnproven s (s.readCommand x) x w i ch ∧ LeftLinked (s.readCommand x) w i ch link := by
  have linked' : LeftLinked (s.readCommand x) w i ch link := (ends.known w i).knows linked
  obtain ⟨d, hd, known⟩ := linked'
  have due : checkDoneDue s (s.readCommand x) w = false := checkDoneDue_of_unchecked ⟨d, hd, congrArg Prod.fst known⟩
  have tell := ends.tell
  rw [List.append_nil] at tell
  refine ⟨⟨fun v j hv => (others v j hv).trans (ends.known v j), ?_,
    tell.unclosed due (closingReports_of_unchanged due ((ends.goodCount w).trans good)), ?_, fun idle => ?_⟩, d, hd, known⟩
  · rw [← counters]
    exact ends.counters
  · have ahead := ends.queue
    rw [queue.scheduler] at ahead
    exact ahead
  · have still := queue.trans (ends.idle (queue.noRefill (fun v => work.isLoaded v) idle))
    refine ⟨congrArg Scheduler.queue still.scheduler, (still.queued w i).trans ?_⟩
    exact congrArg (Option.map fun c => c.queued) h.chunk

/-- The READ starts no stream: at another offset than 0, or with no context FREE (R106). -/
theorem OneSegment.starts_nothing (h : OneSegment s x w i off ch) (link : ch.link = none)
    (no : off ≠ 0 ∨ ∀ k, (s.stream k).isSome = true) :
    LeftUnproven s (s.readCommand x) x w i ch ∧ LeftLinked (s.readCommand x) w i ch none ∧
      (s.readCommand x).engine = s.engine := by
  have signalled := s.readSignalled_signalled x w
  have chunk := (s.readSignalled_chunk? x w w i).trans h.chunk
  have same : (s.readSignalled x w).harvestIdle (s.wholeOffer x w i off) = s.readSignalled x w := by
    rw [State.harvestIdle_unlinked _ _ ch chunk link]
    split
    · next zero =>
      refine State.startReadStream_full _ _ (State.freeContext_none _ fun k => ?_)
      rw [State.stream, signalled.engine]
      exact no.resolve_left (fun ne => ne zero) k
    · rfl
  have ends := h.atEnd (raised := []) (by rw [same]; exact reported_nil _) fun v => by rw [same]
  rw [same] at ends
  obtain ⟨left, linked⟩ := h.leftUnproven ends signalled.work (link := none)
    ⟨ch, chunk, by rw [Chunk.known, link, h.unchecked]⟩
    (fun v j _ => congrArg (Option.map Chunk.known) (s.readSignalled_chunk? x w v j)) signalled.counters (signalled.goodCount w)
    signalled.queue
  exact ⟨left, linked, ends.engine.trans signalled.engine⟩

/-- A step of the chunk's stream that leaves it UNCHECKED. -/
theorem OneSegment.steps (h : OneSegment s x w i off ch) {k : Fin 3} {holds : Option StreamCtx} {link : Option Link}
    (step : StreamStep (s.readSignalled x w) ((s.readSignalled x w).harvestIdle (s.wholeOffer x w i off)) k w i holds
      (ch.state, ch.expected, ch.observed, link) (s.readSignalled x w).reports.counters ((s.readSignalled x w).win w).goodCount [])
    (queue : QueueSame (s.readSignalled x w) ((s.readSignalled x w).harvestIdle (s.wholeOffer x w i off))) :
    LeftUnproven s (s.readCommand x) x w i ch ∧ LeftLinked (s.readCommand x) w i ch link ∧
      LeftStream s (s.readCommand x) k holds := by
  have signalled := s.readSignalled_signalled x w
  have ends := h.atEnd step.told.reported step.told.checkReportWanted
  obtain ⟨d, hd, known⟩ := step.chunk
  rw [h.unchecked] at known
  obtain ⟨left, linked⟩ := h.leftUnproven ends (signalled.work.trans (State.harvestIdle_work _ _)) ⟨d, hd, known⟩
    (fun v j hv => sameChunk.trans (congrArg (Option.map Chunk.known) (s.readSignalled_chunk? x w v j)) (step.others v j hv))
    (step.counters.trans signalled.counters) (step.goodCount.trans (signalled.goodCount w)) (signalled.queue.trans queue)
  refine ⟨left, linked, fun j => ?_, ?_⟩
  · rw [State.stream, ends.engine]
    refine (step.streams j).trans ?_
    rw [State.stream, signalled.engine]
    rfl
  · rw [ends.engine, step.recency, signalled.engine]
    rfl

end

end Sys2Proof.Machine
end

section
/-! A READ within one UNCHECKED chunk that takes its bytes or proves it, a READ in front of which a read-back starts, and O14. -/

namespace Sys2Proof.Machine

/-! ### What the streams of a harvest leave of the queue (R106, R107) -/

theorem State.moveStreamToFront_queueSame (s : State) (k : Fin 3) (y : StreamCtx) : QueueSame s (s.moveStreamToFront k y) :=
  s.modEngine_queueSame _

theorem State.taking_queueSame (s : State) (k : Fin 3) (y : StreamCtx) : QueueSame s (s.taking k y (Chunk.linkedTo k)) :=
  (s.modChunk_queueSame y.window y.chunk (Chunk.linkedTo k) fun _ => rfl).trans (State.moveStreamToFront_queueSame _ k y)

theorem State.harvestIdle_starts_queueSame (s : State) (o : Offer) (c : Chunk) (k : Fin 3)
    (hc : s.chunk? o.window o.chunk = some c) (hl : c.link = none) (ho : o.offset = 0) (hk : s.freeContext = some k)
    (short : o.bytes.length ≠ (s.win o.window).body.chunkLen o.chunk) : QueueSame s (s.harvestIdle o) := by
  have frontier : o.started.frontier ≠
      ((s.taking k o.started (Chunk.linkedTo k)).win o.started.window).body.chunkLen o.started.chunk := by
    rw [(s.taking_work k o.started (Chunk.linkedTo k)).chunkLen]
    exact short
  rw [s.harvestIdle_unlinked o c hc hl, if_pos ho, s.startReadStream_free o k hk, State.advanceStream_short _ _ _ _ frontier]
  exact (s.taking_queueSame k _).trans (State.moveStreamToFront_queueSame _ k _)

theorem State.harvestIdle_drops_queueSame (s : State) (o : Offer) (c : Chunk) (k : Fin 3) (y : StreamCtx)
    (hc : s.chunk? o.window o.chunk = some c) (hl : c.link = some (.stream k)) (hy : s.stream k = some y)
    (off : o.offset ≠ y.frontier) : QueueSame s (s.harvestIdle o) := by
  rw [s.harvestIdle_linked o c k y hc hl hy, if_neg off]
  exact (s.modEngine_queueSame _).trans (State.modChunk_queueSame _ _ _ _ fun _ => rfl)

theorem State.harvestIdle_advances_queueSame (s : State) (o : Offer) (c : Chunk) (k : Fin 3) (y : StreamCtx)
    (hc : s.chunk? o.window o.chunk = some c) (hl : c.link = some (.stream k)) (hy : s.stream k = some y)
    (hw : y.window = o.window) (hi : y.chunk = o.chunk) (off : o.offset = y.frontier)
    (short : o.offset + o.bytes.length ≠ (s.win o.window).body.chunkLen o.chunk) : QueueSame s (s.harvestIdle o) := by
  have frontier : (y.feed o.bytes).frontier ≠ (s.win (y.feed o.bytes).window).body.chunkLen (y.feed o.bytes).chunk := by
    show y.frontier + o.bytes.length ≠ (s.win y.window).body.chunkLen y.chunk
    rw [hw, hi, ← off]
    exact short
  rw [s.harvestIdle_linked o c k y hc hl hy, if_pos off, s.advanceStream_short k _ .harvest frontier]
  exact s.moveStreamToFront_queueSame k _

/-! ### A READ that reaches the chunk's end (R109) -/

/-- The chunk has its verdict by this digest; it is counted, and reported behind the fill (R91, R109). -/
def LeftProven (s t : State) (x : HostXfer) (w : Fin 32) (i : Nat) (ch : Chunk) (digest : Digest) : Prop :=
  (∀ u j, (u, j) ≠ (w, i) → sameChunk s t u j) ∧
    ∃ d, t.chunk? w i = some d ∧
      d.known =
        (if (s.win w).body.isLoaded = false then ChunkState.computed
          else if ch.expected = some digest then .good
          else .bad,
          ch.expected, some digest, none) ∧
      t.reports.counters =
        { s.reports.counters with
          goodVerdicts := if d.state = .good then countUp s.reports.counters.goodVerdicts else s.reports.counters.goodVerdicts
          badVerdicts := if d.state = .bad then countUp s.reports.counters.badVerdicts else s.reports.counters.badVerdicts
          fillCommands := t.reports.counters.fillCommands } ∧
      tells s t [w]
        (s.fillReports x w ++
          if d.state = .bad then [.chunkBad w .harvest i ((s.win w).body.chunkLen i)] else [])
        []

section
variable {s : State} {x : HostXfer} {w : Fin 32} {i off : Nat} {ch : Chunk}

/-- A step of the chunk's stream that completes its digest. -/
theorem OneSegment.proves (h : OneSegment s x w i off ch) {k : Fin 3} {digest : Digest} {good : Nat}
    (step : StreamStep (s.readSignalled x w) ((s.readSignalled x w).harvestIdle (s.wholeOffer x w i off)) k w i none
      ((s.readSignalled x w).verdictOf w ch.expected digest, ch.expected, some digest, none)
      ((s.readSignalled x w).reports.counters.judged ((s.readSignalled x w).verdictOf w ch.expected digest)) good
      ((s.readSignalled x w).badReport w .harvest i ((s.readSignalled x w).verdictOf w ch.expected digest))) :
    LeftProven s (s.readCommand x) x w i ch digest ∧ LeftStream s (s.readCommand x) k none := by
  have signalled := s.readSignalled_signalled x w
  have ends := h.atEnd step.told.reported step.told.checkReportWanted
  obtain ⟨d, hd, known⟩ := (ends.known w i).knows step.chunk
  have state : d.state = (s.readSignalled x w).verdictOf w ch.expected digest := congrArg Prod.fst known
  have verdict : (s.readSignalled x w).verdictOf w ch.expected digest = s.verdictOf w ch.expected digest :=
    signalled.work.verdictOf w ch.expected digest
  refine ⟨⟨fun v j hv => ?_, d, hd, ?_, ?_, ?_⟩, fun j => ?_, ?_⟩
  · exact (sameChunk.trans (congrArg (Option.map Chunk.known) (s.readSignalled_chunk? x w v j)) (step.others v j hv)).trans
      (ends.known v j)
  · rw [known, verdict]
    rfl
  · refine ends.counters.trans ?_
    rw [step.counters, signalled.counters, state]
    rfl
  · have tell := ends.tell
    rw [signalled.work.badReport, ← state] at tell
    exact tell
  · rw [State.stream, ends.engine]
    refine (step.streams j).trans ?_
    rw [State.stream, signalled.engine]
    rfl
  · rw [ends.engine, step.recency, signalled.engine]
    rfl

theorem State.readSignalled_stream (s : State) (x : HostXfer) (w : Fin 32) (k : Fin 3) :
    (s.readSignalled x w).stream k = s.stream k := by
  rw [State.stream, (s.readSignalled_signalled x w).engine]
  rfl

theorem State.readSignalled_chunkLen (s : State) (x : HostXfer) (w : Fin 32) (i : Nat) :
    ((s.readSignalled x w).win w).body.chunkLen i = (s.win w).body.chunkLen i :=
  (s.readSignalled_signalled x w).work.chunkLen w i

/-- At offset 0 of a chunk that no stream holds the READ starts a stream in the FREE context of the lowest number (R106). -/
theorem OneSegment.starts (h : OneSegment s x w i off ch) {k : Fin 3} (link : ch.link = none) (zero : off = 0)
    (free : s.stream k = none) (lower : ∀ j : Fin 3, j < k → (s.stream j).isSome = true) :
    ((s.readData x).length ≠ (s.win w).body.chunkLen i →
      LeftUnproven s (s.readCommand x) x w i ch ∧ LeftLinked (s.readCommand x) w i ch (some (.stream k)) ∧
        LeftStream s (s.readCommand x) k (some (s.wholeOffer x w i off).started)) ∧
    ((s.readData x).length = (s.win w).body.chunkLen i →
      LeftProven s (s.readCommand x) x w i ch (chunkDigest (s.readData x)) ∧ LeftStream s (s.readCommand x) k none) := by
  have chunk := (s.readSignalled_chunk? x w w i).trans h.chunk
  have context : (s.readSignalled x w).freeContext = some k := by
    refine State.freeContext_of _ k ?_ fun j hj => ?_
    · rw [s.readSignalled_stream]; exact free
    · rw [s.readSignalled_stream]; exact lower j hj
  have len := s.readSignalled_chunkLen x w i
  refine ⟨fun short => ?_, fun whole => ?_⟩
  · have short' : (s.wholeOffer x w i off).bytes.length ≠ ((s.readSignalled x w).win w).body.chunkLen i := by
      rw [len]; exact short
    exact h.steps (State.harvestIdle_starts _ (s.wholeOffer x w i off) ch k chunk link zero context short')
      (State.harvestIdle_starts_queueSame _ (s.wholeOffer x w i off) ch k chunk link zero context short')
  · have whole' : (s.wholeOffer x w i off).bytes.length = ((s.readSignalled x w).win w).body.chunkLen i := by
      rw [len]; exact whole
    exact h.proves (State.harvestIdle_starts_whole _ (s.wholeOffer x w i off) ch k chunk h.unchecked link zero context whole')

/-- The READ meets the chunk's read stream: elsewhere than at its frontier it drops it, and there it advances or completes it
(R107, R109). -/
theorem OneSegment.follows (h : OneSegment s x w i off ch) (law : ContextLaw s) {k : Fin 3} {y : StreamCtx}
    (link : ch.link = some (.stream k)) (hy : s.stream k = some y) :
    (off ≠ y.frontier →
      LeftUnproven s (s.readCommand x) x w i ch ∧ LeftLinked (s.readCommand x) w i ch none ∧
        LeftStream s (s.readCommand x) k none) ∧
    (off = y.frontier → off + (s.readData x).length ≠ (s.win w).body.chunkLen i →
      LeftUnproven s (s.readCommand x) x w i ch ∧ LeftLinked (s.readCommand x) w i ch (some (.stream k)) ∧
        LeftStream s (s.readCommand x) k (some (y.feed (s.readData x)))) ∧
    (off = y.frontier → off + (s.readData x).length = (s.win w).body.chunkLen i →
      LeftProven s (s.readCommand x) x w i ch (y.run.absorb (s.readData x)).complete ∧
        LeftStream s (s.readCommand x) k none) := by
  have chunk := (s.readSignalled_chunk? x w w i).trans h.chunk
  have stream := (s.readSignalled_stream x w k).trans hy
  have len := s.readSignalled_chunkLen x w i
  obtain ⟨y', hy', hw, hi⟩ := law.links.ofStream w i ch k h.chunk link
  rw [hy] at hy'
  obtain rfl := Option.some.inj hy'
  refine ⟨fun elsewhere => ?_, fun at' short => ?_, fun at' whole => ?_⟩
  · exact h.steps (State.harvestIdle_drops _ (s.wholeOffer x w i off) ch k y chunk link stream elsewhere)
      (State.harvestIdle_drops_queueSame _ (s.wholeOffer x w i off) ch k y chunk link stream elsewhere)
  · have short' : (s.wholeOffer x w i off).offset + (s.wholeOffer x w i off).bytes.length ≠
        ((s.readSignalled x w).win w).body.chunkLen i := by
      rw [len]; exact short
    exact h.steps (State.harvestIdle_advances _ (s.wholeOffer x w i off) ch k y chunk link stream hw hi at' short')
      (State.harvestIdle_advances_queueSame _ (s.wholeOffer x w i off) ch k y chunk link stream hw hi at' short')
  · have whole' : (s.wholeOffer x w i off).offset + (s.wholeOffer x w i off).bytes.length =
        ((s.readSignalled x w).win w).body.chunkLen i := by
      rw [len]; exact whole
    exact h.proves (State.harvestIdle_completes _ (s.wholeOffer x w i off) ch k y chunk h.unchecked link stream hw hi at' whole')

end

/-! ### A read-back that starts in front of the READ (R84, R110) -/

/-- The read-back context that a starting read-back takes (R110). -/
def Entry.reading (e : Entry) : ReadbackCtx :=
  { window := e.window, chunk := e.chunk, next := 0, inFlight := none, run := Running.start, urgent := e.urgent }

/-- A read-back that starts makes its chunk CHECKING and ends what digested it, and changes no other chunk (R84, R110). -/
theorem State.startReadback_spec (s : State) (e : Entry) (c : Chunk) (hc : s.chunk? e.window e.chunk = some c) :
    (∃ d, (s.startReadback e).chunk? e.window e.chunk = some d ∧ d.known = (.checking, c.expected, none, some .readback)) ∧
      (∀ u j, (u, j) ≠ (e.window, e.chunk) → sameChunk s (s.startReadback e) u j) ∧
      (∀ k, (s.startReadback e).stream k = if c.link = some (.stream k) then none else s.stream k) ∧
      (s.startReadback e).engine.readback = some e.reading := by
  obtain ⟨q, hq⟩ : ∃ q, q = s.setQueue (s.scheduler.queue.drop 1) := ⟨_, rfl⟩
  have dequeued : q.chunk? e.window e.chunk = some c := by rw [hq]; exact hc
  obtain ⟨ended, others, streams, _⟩ := q.endDigesting_spec e.window e.chunk c dequeued
  obtain ⟨moved, others', engine, _⟩ := (q.endDigesting e.window e.chunk).moveChunk_spec e.window e.chunk .checking none _ ended
  have start : s.startReadback e =
      (((((q.endDigesting e.window e.chunk).moveChunk e.window e.chunk .checking none).modChunk e.window e.chunk
        fun c => { c with link := some .readback }).setReadback (some e.reading)).refill).settleClaim := by rw [hq]; rfl
  have behind : Behind ((((q.endDigesting e.window e.chunk).moveChunk e.window e.chunk .checking none).modChunk e.window e.chunk
      fun c => { c with link := some .readback }).setReadback (some e.reading)) (s.startReadback e) := by
    rw [start]
    exact (State.refill_queueWork _).behind.trans (State.settleClaim_behind _)
  have checking : ∀ (t : State) (d : Chunk), t.chunk? e.window e.chunk = some d →
      ((t.modChunk e.window e.chunk fun c => { c with link := some .readback }).setReadback (some e.reading)).chunk? e.window
        e.chunk = some { d with link := some .readback } := by
    intro t d hd
    rw [State.setReadback_chunk?, State.chunk?_modChunk, if_pos ⟨rfl, rfl⟩, hd, Option.map_some]
  refine ⟨behind.knows ⟨_, checking _ _ moved, rfl⟩, fun u j apart => sameChunk.trans (congrArg (Option.map Chunk.known) ?_) (behind.known u j),
    fun k => ?_, ?_⟩
  · rw [State.setReadback_chunk?, State.chunk?_modChunk_of_ne _ _ _ _ apart, others' u j apart, others u j apart, hq]
    rfl
  · rw [behind.stream]
    show ((q.endDigesting e.window e.chunk).moveChunk e.window e.chunk .checking none).stream k = _
    rw [State.stream, engine]
    refine (streams k).trans ?_
    rw [hq]
    rfl
  · rw [behind.engine]
    rfl

/-- A read-back that starts where none was keeps the law of harvesting (R98). -/
theorem HarvestLaw.startReadback {s : State} (law : HarvestLaw s) (e : Entry) (c : Chunk)
    (hc : s.chunk? e.window e.chunk = some c) (free : s.engine.readback = none) : HarvestLaw (s.startReadback e) := by
  obtain ⟨⟨d, hd, known⟩, others, streams, readback⟩ := s.startReadback_spec e c hc
  have link : d.link = some .readback := congrArg (fun k => k.2.2.2) known
  have state : d.state = .checking := congrArg Prod.fst known
  have back : ∀ u j f, (s.startReadback e).chunk? u j = some f →
      (u = e.window ∧ j = e.chunk ∧ f = d) ∨
        ((u, j) ≠ (e.window, e.chunk) ∧ ∃ g, s.chunk? u j = some g ∧ g.link = f.link ∧ g.state = f.state) := by
    intro u j f hf
    by_cases here : (u, j) = (e.window, e.chunk)
    · simp only [Prod.mk.injEq] at here
      rw [here.1, here.2, hd] at hf
      exact .inl ⟨here.1, here.2, (Option.some.inj hf).symm⟩
    · have same := others u j here
      rw [sameChunk, hf] at same
      obtain ⟨g, hg, k⟩ := Option.map_eq_some_iff.1 same.symm
      exact .inr ⟨here, g, hg, congrArg (fun k => k.2.2.2) k, congrArg Prod.fst k⟩
  refine ⟨⟨fun k y hy => ?_, fun r hr => ?_, fun u j f k hf hl => ?_, fun u j f hf hl => ?_⟩, fun u j f hf un hl => ?_⟩
  · rw [streams] at hy
    split at hy
    · cases hy
    · next other =>
      obtain ⟨f, hf, hl⟩ := law.links.stream k y hy
      have apart : (y.window, y.chunk) ≠ (e.window, e.chunk) := by
        intro here
        simp only [Prod.mk.injEq] at here
        rw [here.1, here.2, hc] at hf
        obtain rfl := Option.some.inj hf
        exact other hl
      obtain ⟨g, hg, k'⟩ := (others _ _ apart).knows ⟨f, hf, rfl⟩
      exact ⟨g, hg, (congrArg (fun k => k.2.2.2) k').trans hl⟩
  · rw [readback] at hr
    obtain rfl := Option.some.inj hr
    exact ⟨d, hd, link⟩
  · rcases back u j f hf with ⟨_, _, rfl⟩ | ⟨apart, g, hg, hl', _⟩
    · rw [link] at hl
      cases hl
    · obtain ⟨y, hy, hw, hi⟩ := law.links.ofStream u j g k hg (hl'.trans hl)
      refine ⟨y, ?_, hw, hi⟩
      rw [streams, if_neg fun named => ?_]
      · exact hy
      · obtain ⟨y', hy', hw', hi'⟩ := law.links.ofStream _ _ c k hc named
        rw [hy] at hy'
        obtain rfl := Option.some.inj hy'
        exact apart (by rw [← hw, ← hi, hw', hi'])
  · rcases back u j f hf with ⟨rfl, rfl, _⟩ | ⟨_, g, hg, hl', _⟩
    · exact ⟨_, readback, rfl, rfl⟩
    · obtain ⟨r, hr, _⟩ := law.links.ofReadback u j g hg (hl'.trans hl)
      rw [free] at hr
      cases hr
  · rcases back u j f hf with ⟨_, _, rfl⟩ | ⟨_, g, hg, hl', state'⟩
    · rw [state] at un
      cases un
    · exact law.noReadback u j g hg (state'.trans un) (hl'.trans hl)

/-- A chunk whose read-back starts in front of the READ is CHECKING behind it, and is not harvested (R105, R110, R124). -/
theorem State.readEnd_checking (s : State) (x : HostXfer) (law : ContextLaw s) (running : s.part = .running)
    (starts : x.during = [(0, .readbackStart)]) {e : Entry} {rest : List Entry} {ch : Chunk}
    (queue : s.scheduler.queue = e :: rest) (hc : s.chunk? e.window e.chunk = some ch) (free : s.engine.readback = none)
    (idle : s.bridge.busy = false)
    (due : e.urgent = true ∨ min 256 ((s.win e.window).body.chunkLen e.chunk) ≤ s.scheduler.credit) :
    (∃ d, (s.readEnd x).chunk? e.window e.chunk = some d ∧ d.known = (.checking, ch.expected, none, some .readback)) ∧
      (s.readEnd x).engine.readback = some e.reading := by
  have go : s.takeOpcode.readbackStarts e = true := by
    simp only [State.readbackStarts, Bool.and_eq_true, decide_eq_true_eq, Bool.or_eq_true]
    exact ⟨⟨⟨running, Option.isNone_iff_eq_none.2 free⟩, by rw [State.takeOpcode_same]; exact congrArg (!·) idle⟩, due⟩
  have head : s.takeOpcode.takeHead = s.takeOpcode.startReadback e := by
    rw [State.takeHead, show s.takeOpcode.scheduler.queue = e :: rest from queue]
    exact if_pos go
  have start : (s.readBefore x 0).st = s.takeOpcode.startReadback e := by
    rw [← head, State.readBefore, starts]
    rfl
  have later : ∀ k, 1 ≤ k → eventsAt x.during k = [] := by
    intro k hk
    simp [eventsAt, starts]
    omega
  have base : HarvestLaw (s.takeOpcode.startReadback e) :=
    (law.harvest.of_same (t := s.takeOpcode) rfl fun _ _ => rfl).startReadback e ch hc free
  obtain ⟨⟨d, hd, known⟩, _, _, readback⟩ := s.takeOpcode.startReadback_spec e ch hc
  have read := (s.readBefore_law x later (by rw [start]; exact base) _ le_rfl).2.2
  rw [start] at read
  have state : d.state ≠ .unchecked := by
    rw [show d.state = .checking from congrArg Prod.fst known]
    decide
  exact ⟨(read.settled _ _ d hd state).knows ⟨d, hd, known⟩, read.readback.trans readback⟩

/-! ### The statement -/

theorem State.readCommand_delivers (s : State) (x : HostXfer) {k : Nat} {byte : Byte} (hb : (s.readData x)[k]? = some byte) :
    (s.readCommand x).ports.toHost[k]? =
      some (if s.readFills x k = true then s.fillOf (s.readSite x k) else byte) := by
  have ports : (s.readCommand x).ports.toHost = (s.readUpTo x (s.readData x).length).out := by rw [s.readCommand_eq_end]
  rw [ports]
  exact (s.readUpTo_out x _ le_rfl).2 k byte (List.getElem?_eq_some_iff.1 hb).1 hb

theorem State.readCommand_chunk? (s : State) (x : HostXfer) (w : Fin 32) (i : Nat) :
    (s.readCommand x).chunk? w i = (s.readEnd x).chunk? w i := by
  rw [s.readCommand_eq_end]
  rfl

theorem State.readCommand_engine (s : State) (x : HostXfer) : (s.readCommand x).engine = (s.readEnd x).engine := by
  rw [s.readCommand_eq_end]

/-- Settles O14. -/
theorem readDeliversProvenBytesAndFillsUnprovenOnes : Obligations.ReadDeliversProvenBytesAndFillsUnprovenOnes := by
  intro x s law hk
  have same : ∀ w i, sameChunk s (s.readEnd x) w i → sameChunk s (s.readCommand x) w i := by
    intro w i h
    rw [sameChunk, s.readCommand_chunk?]
    exact h
  refine ⟨s.readCommand x, State.exec_read hk, fun quiet k byte hb hp => ?_,
    fun m dips band away busy owner k w i o hm hlt hp hw hs met => ?_,
    fun quiet w i ch hc => ⟨fun settled => ?_, fun busy => ⟨fun reads un => ?_, fun no => ?_⟩⟩,
    fun quiet idle data w i off ch hc un sites => ?_, fun e rest ch starts _ queue hc free idle due => ?_⟩
  · have delivers := s.readCommand_delivers x hb
    obtain ⟨good, unproven, pending⟩ := s.readFills_spec x quiet law (List.getElem?_eq_some_iff.1 hb).1 hp
    refine ⟨fun h => ?_, fun h h' => ?_, fun w i o un hw hs passed => ?_⟩
    · rw [good h] at delivers
      exact delivers
    · rw [unproven h h'] at delivers
      exact delivers
    · rw [pending w i o un hw hs passed] at delivers
      exact delivers
  · have delivers := s.readCommand_delivers x (List.getElem?_eq_getElem hlt)
    rw [s.readFills_dipped x m dips band away busy owner hm hlt hp hw hs met] at delivers
    exact delivers
  · exact same w i ((s.readEnd_law x quiet law).settled w i ch hc settled)
  · obtain ⟨chunk, stream⟩ := s.readEnd_dropped x quiet busy hc un reads
    rw [← s.readCommand_chunk?] at chunk
    refine ⟨chunk, fun k link => ?_⟩
    rw [State.stream, s.readCommand_engine]
    exact stream k link
  · exact same w i (s.readEnd_sameChunk x quiet law no)
  · have segment : OneSegment s x w i off ch := ⟨quiet, idle, data, hc, un, sites⟩
    refine ⟨fun link no => segment.starts_nothing link no, fun k link zero free lower => ?_, fun k y link hy => ?_⟩
    · obtain ⟨short, whole⟩ := segment.starts link zero free lower
      exact ⟨short, whole⟩
    · exact segment.follows law link hy
  · obtain ⟨chunk, readback⟩ :=
      s.readEnd_checking x law (State.hostKind_cls_running hk) starts queue hc free idle due
    rw [s.readCommand_chunk?, s.readCommand_engine]
    exact ⟨chunk, readback⟩

end Sys2Proof.Machine
end

section
/-! Address arithmetic: where the data bytes of a PROGRAM land (R38), and what an erase covers (R42). -/

namespace Sys2Proof.Machine

/-! ### Landings (R38) -/

theorem programWraps_iff (a len : Nat) : programWraps a len = true ↔ 256 < a % 256 + len := decide_eq_true_iff

/-- A wrapping program lands on the end of its page first, and then on its start. -/
theorem landingRanges_of_wraps {a len : Nat} (h : programWraps a len = true) :
    landingRanges a len = [(a, a - a % 256 + 256), (a - a % 256, a - a % 256 + (a % 256 + len - 256))] := by
  have wraps := (programWraps_iff a len).1 h
  have bytes : len ≠ 0 := by omega
  simp only [landingRanges, bytes, h, if_true, if_false]
  rfl

theorem landingRanges_of_not_wraps {a len : Nat} (bytes : 1 ≤ len) (h : programWraps a len = false) :
    landingRanges a len = [(a, a + len)] := by
  simp [landingRanges, h, show len ≠ 0 by omega]

/-- No two data bytes of a program of at most a page land at one address. -/
theorem landingAddr_inj {a k j : Nat} (hk : k < 256) (hj : j < 256) (h : landingAddr a k = landingAddr a j) : k = j := by
  simp only [landingAddr, Config.pageBytes] at h
  omega

/-- The touched bytes of a program of at most a page are those its data bytes land at. -/
theorem inRanges_landingRanges_iff {a len : Nat} (bytes : 1 ≤ len) (page : len ≤ 256) (p : Nat) :
    inRanges (landingRanges a len) p ↔ ∃ k, k < len ∧ landingAddr a k = p := by
  simp only [landingAddr, pageBase, Config.pageBytes]
  cases h : programWraps a len with
  | false =>
    have inside : a % 256 + len ≤ 256 := by
      have := programWraps_iff a len
      simp only [h, Bool.false_eq_true, false_iff] at this
      omega
    simp only [landingRanges_of_not_wraps bytes h, inRanges, List.mem_singleton, exists_eq_left]
    exact ⟨fun _ => ⟨p - a, by omega⟩, fun ⟨k, _, e⟩ => by omega⟩
  | true =>
    have wraps := (programWraps_iff a len).1 h
    simp only [landingRanges_of_wraps h, inRanges, List.mem_cons, List.not_mem_nil, or_false, exists_eq_or_imp,
      exists_eq_left]
    constructor
    · rintro (high | low)
      · exact ⟨p - a, by omega⟩
      · exact ⟨p + 256 - a, by omega⟩
    · rintro ⟨k, _, e⟩
      omega

/-- Settles O22. -/
theorem landingStaysInItsPage : Obligations.LandingStaysInItsPage := by
  refine ⟨fun a len bytes page => ?_, fun a => rfl, fun s c program => ⟨?_, fun long => ?_⟩⟩
  · exact ⟨programWraps_iff a len, fun k => rfl, fun k j hk hj => landingAddr_inj (by omega) (by omega),
      inRanges_landingRanges_iff bytes page, landingRanges_of_not_wraps bytes, landingRanges_of_wraps⟩
  · simp [Collected.touched, program]
  · have oversize : Config.maxProgram < c.len := long
    simp [State.withholdReason, program, oversize]

/-! ### Erase covers (R42) -/

/-- Every flash size is a whole number of 64 KiB blocks (R22). -/
theorem blockBytes_dvd_flashSize (size : BitVec 3) : Config.blockBytes ∣ flashSize size := by
  revert size
  decide

/-- The aligned range around an address ends where the flash does or before it. -/
theorem aligned_end_le {a bytes limit : Nat} (divides : bytes ∣ limit) (inside : a < limit) :
    a - a % bytes + bytes ≤ limit := by
  obtain ⟨n, rfl⟩ := divides
  have block : a / bytes < n := Nat.div_lt_of_lt_mul inside
  have start : a - a % bytes = bytes * (a / bytes) := by rw [Nat.sub_eq_iff_eq_add (Nat.mod_le _ _), Nat.div_add_mod]
  calc a - a % bytes + bytes = bytes * (a / bytes + 1) := by rw [start, Nat.mul_succ]
    _ ≤ bytes * n := Nat.mul_le_mul_left _ block

/-- Settles O23. -/
theorem eraseCoverIsTheAlignedRange : Obligations.EraseCoverIsTheAlignedRange := by
  intro size a cls bytes sized inside
  have erase : bytes ∣ Config.blockBytes ∧ eraseCover cls a (flashSize size) = (a - a % bytes, a - a % bytes + bytes) := by
    simp only [List.mem_cons, List.not_mem_nil, or_false, Prod.mk.injEq] at sized
    rcases sized with ⟨rfl, rfl⟩ | ⟨rfl, rfl⟩ | ⟨rfl, rfl⟩ <;> exact ⟨by decide, rfl⟩
  refine ⟨erase.2, aligned_end_le (erase.1.trans (blockBytes_dvd_flashSize size)) inside, rfl, fun c hc => ?_⟩
  have other : c.cls ≠ .program := by
    rintro h
    simp [h] at hc
  simp [Collected.touched, other]

end Sys2Proof.Machine
end

section
/-! Windows and views as ranges: two ranges meet at an address, and the law of R29 puts a view byte into the selected bank (R33). -/

namespace Sys2Proof.Machine

/-! ### Ranges that meet -/

theorem overlaps_iff (lo hi lo' hi' : Nat) :
    overlaps lo hi lo' hi' = true ↔ ∃ p, lo ≤ p ∧ p < hi ∧ lo' ≤ p ∧ p < hi' := by
  simp only [overlaps, decide_eq_true_eq]
  exact ⟨fun h => ⟨max lo lo', by omega⟩, fun ⟨p, h⟩ => by omega⟩

theorem overlaps_comm (lo hi lo' hi' : Nat) : overlaps lo hi lo' hi' = overlaps lo' hi' lo hi := by
  rw [Bool.eq_iff_iff, overlaps_iff, overlaps_iff]
  exact exists_congr fun p => by tauto

theorem Apart.symm {lo hi lo' hi' : Nat} (h : Apart lo hi lo' hi') : Apart lo' hi' lo hi := (overlaps_comm _ _ _ _).trans h

/-- Two ranges that hold one address are not apart. -/
theorem Apart.elim {lo hi lo' hi' p : Nat} (h : Apart lo hi lo' hi') (low : lo ≤ p) (high : p < hi) (low' : lo' ≤ p)
    (high' : p < hi') : False :=
  absurd ((overlaps_iff _ _ _ _).2 ⟨p, low, high, low', high'⟩) (Bool.eq_false_iff.1 h)

theorem WinBody.covers_iff (b : WinBody) (p : Nat) :
    b.covers p = true ↔ ∃ g, b.geom? = some g ∧ g.base ≤ p ∧ p < g.base + g.size := by
  cases h : b.geom? <;> simp [WinBody.covers, Geometry.covers_iff, h]

/-- A window meets a range exactly if it covers one of its addresses. -/
theorem WinBody.meets_iff (b : WinBody) (lo hi : Nat) :
    b.meets lo hi = true ↔ ∃ p, lo ≤ p ∧ p < hi ∧ b.covers p = true := by
  have meets : b.meets lo hi = true ↔ ∃ g, b.geom? = some g ∧ overlaps lo hi g.base (g.base + g.size) = true := by
    cases h : b.geom? <;> simp [WinBody.meets, Geometry.meets, overlaps, h, max_comm, min_comm]
  simp only [meets, overlaps_iff, WinBody.covers_iff]
  constructor
  · rintro ⟨g, hg, p, low, high, inside⟩
    exact ⟨p, low, high, g, hg, inside⟩
  · rintro ⟨p, low, high, g, hg, inside⟩
    exact ⟨g, hg, p, low, high, inside⟩

theorem State.viewCovers_iff (s : State) (v : View) (p : Nat) :
    s.viewCovers v p = true ↔ v.base ≤ p ∧ p < v.base + s.viewSize v := by
  simp [State.viewCovers]

theorem State.meetsOtherWindow_iff (s : State) (except : Option (Fin 32)) (lo hi : Nat) :
    s.meetsOtherWindow except lo hi = true ↔
      ∃ u p, some u ≠ except ∧ lo ≤ p ∧ p < hi ∧ (s.win u).body.covers p = true := by
  simp only [State.meetsOtherWindow, List.any_eq_true, mem_allWindows, true_and, Bool.and_eq_true, decide_eq_true_eq,
    WinBody.meets_iff, exists_and_left]

theorem State.meetsOtherView_iff (s : State) (except : Option (Fin 8)) (lo hi : Nat) :
    s.meetsOtherView except lo hi = true ↔
      ∃ v view p, s.view v = some view ∧ some v ≠ except ∧ lo ≤ p ∧ p < hi ∧ s.viewCovers view p = true := by
  simp only [State.meetsOtherView, List.any_eq_true, mem_allViews, true_and]
  refine exists_congr fun v => ?_
  cases s.view v <;> simp [overlaps_iff, State.viewCovers_iff]

theorem State.meetsControl_iff (s : State) (lo hi : Nat) :
    s.meetsControl lo hi = true ↔ ∃ p, lo ≤ p ∧ p < hi ∧ commandBase s.straps ≤ p ∧ p < reportEnd s.straps :=
  overlaps_iff _ _ _ _

theorem State.isBank_iff (s : State) (w : Fin 32) :
    s.isBank w = true ↔ ∃ v view, s.view v = some view ∧ (view.bankA = w ∨ view.bankB = w) := by
  simp only [State.isBank, List.any_eq_true, mem_allViews, true_and]
  refine exists_congr fun v => ?_
  cases s.view v <;> simp

theorem State.isBank_eq_false_iff (s : State) (w : Fin 32) :
    s.isBank w = false ↔ ∀ v view, s.view v = some view → view.bankA ≠ w ∧ view.bankB ≠ w := by
  simp only [← Bool.not_eq_true, s.isBank_iff, not_exists, not_and, not_or]

/-! ### The selected bank (R33) -/

/-- An address lies in no second window (R29). -/
theorem WindowLaw.windowAt {s : State} (law : WindowLaw s) {w : Fin 32} {p : Nat} (h : (s.win w).body.covers p = true) :
    s.windowAt p = some w := by
  obtain ⟨g, hg, low, high⟩ := (WinBody.covers_iff _ _).1 h
  cases found : s.windowAt p with
  | none => exact absurd (h.symm.trans ((s.windowAt_none p).1 found w)) nofun
  | some u =>
    obtain ⟨k, hk, low', high'⟩ := s.windowAt_some p u found
    by_contra other
    exact (law.2 u w k g (fun e => other (by rw [e])) hk hg).elim low' high' low high

theorem WinBody.size_of_geom? {b : WinBody} {g : Geometry} (h : b.geom? = some g) : b.size = g.size := by
  simp [WinBody.size, h]

/-- Both banks of a view, the selected one among them, have the view's size (R28, R129). -/
theorem ViewLaw.current_size {s : State} (law : ViewLaw s) {v : Fin 8} {view : View} (h : s.view v = some view) :
    ∃ g, (s.win view.current).body.geom? = some g ∧ g.size = s.viewSize view := by
  obtain ⟨_, _, ⟨_, a, b, ha, hb, size, _⟩, _⟩ := law.1 v view h
  have viewSize : s.viewSize view = a.size := WinBody.size_of_geom? ha
  unfold View.current View.window
  cases view.selected with
  | a => exact ⟨a, ha, viewSize.symm⟩
  | b => exact ⟨b, hb, by rw [viewSize, size]⟩

/-- Settles O15. -/
theorem viewAddressMapsIntoTheSelectedBank : Obligations.ViewAddressMapsIntoTheSelectedBank := by
  intro s x windows views v view found present
  have mapped : s.mapAddr x = (s.win view.current).body.base + (x - view.base) := by
    simp [State.mapAddr, found, present]
  have inside : (s.win view.current).body.covers (s.mapAddr x) = true := by
    obtain ⟨view', present', low, high⟩ := s.viewAt_some x v found
    obtain rfl : view = view' := Option.some.inj (present.symm.trans present')
    obtain ⟨g, hg, size⟩ := views.current_size present
    rw [mapped, WinBody.base, hg, WinBody.covers_iff]
    exact ⟨g, hg, Nat.le_add_right _ _, by dsimp only; omega⟩
  exact ⟨inside, mapped, windows.windowAt inside⟩

end Sys2Proof.Machine
end

section
/-! WINDOW and DROP (R25, R26, R63): the values and ranges WINDOW checks, and what the teardown of a window that no pending commit
stages does to the contexts, the queue and the reports (R50, R51). -/

namespace Sys2Proof.Machine

/-! ### The checks of WINDOW (R25) -/

theorem windowNumber_of_eq {n : Nat} {w : Fin 32} (h : n = w.val) : windowNumber n = some w := by
  subst h
  simp [windowNumber]

theorem windowNumber_of_le {n : Nat} (h : 32 ≤ n) : windowNumber n = none := by
  simp [windowNumber, Nat.not_lt.mpr h]

/-- The codes of R24 name the chunk sizes from 4 KiB to 64 KiB, and no other code names one. -/
theorem chunkSizeOf_eq (n : Nat) : chunkSizeOf n = if n ≤ 4 then some (4096 * 2 ^ n) else none := by
  by_cases code : n ≤ 4
  · interval_cases n <;> rfl
  · obtain ⟨m, rfl⟩ := Nat.exists_eq_add_of_le' (Nat.not_le.1 code)
    rw [if_neg code]
    rfl

theorem guardModeOf_eq (n : Nat) : guardModeOf n = if n ≤ 1 then some (decide (n = 1)) else none := by
  by_cases code : n ≤ 1
  · interval_cases n <;> rfl
  · obtain ⟨m, rfl⟩ := Nat.exists_eq_add_of_le' (Nat.not_le.1 code)
    rw [if_neg code]
    rfl

/-- The values of a WINDOW record are in range (R25). -/
def windowInRange (flashBytes : Nat) (bytes : List Byte) : Prop :=
  field bytes 12 4 % 65536 = 0 ∧ field bytes 16 4 % 65536 = 0 ∧ 65536 ≤ field bytes 16 4 ∧ field bytes 16 4 ≤ 16777216 ∧
    field bytes 12 4 + field bytes 16 4 ≤ flashBytes ∧ field bytes 9 1 ≤ 4 ∧ field bytes 10 1 ≤ 1

/-- The geometry a WINDOW record gives (R26). -/
def windowGeometry (bytes : List Byte) : Geometry :=
  { base := field bytes 12 4, size := field bytes 16 4, chunkSize := 4096 * 2 ^ field bytes 9 1
    guarded := decide (field bytes 10 1 = 1), fill := BitVec.ofNat 8 (field bytes 11 1), quiet := field bytes 20 2 }

/-- A window without a catalogue that is no bank may be redefined (R25). -/
def State.mayChange (s : State) (w : Fin 32) : Prop :=
  (s.win w).body.cat? = none ∧ ∀ v view, s.view v = some view → view.bankA ≠ w ∧ view.bankB ≠ w

/-- No byte of the range lies in a window other than `w`, in a view or in the control region (R25). -/
def State.rangeFree (s : State) (w : Fin 32) (base size : Nat) : Prop :=
  ∀ p, base ≤ p → p < base + size →
    (∀ u, u ≠ w → (s.win u).body.covers p = false) ∧
      (∀ v view, s.view v = some view → s.viewCovers view p = false) ∧
      ¬(commandBase s.straps ≤ p ∧ p < reportEnd s.straps)

theorem State.rangeFree_iff (s : State) (w : Fin 32) (base size : Nat) :
    s.rangeFree w base size ↔
      s.meetsOtherWindow (some w) base (base + size) = false ∧ s.meetsOtherView none base (base + size) = false ∧
        s.meetsControl base (base + size) = false := by
  simp only [← Bool.not_eq_true, State.meetsOtherWindow_iff, State.meetsOtherView_iff, State.meetsControl_iff]
  constructor
  · refine fun free => ⟨?_, ?_, ?_⟩
    · rintro ⟨u, p, other, low, high, covers⟩
      exact absurd (((free p low high).1 u fun e => other (by rw [e])).symm.trans covers) nofun
    · rintro ⟨v, view, p, present, _, low, high, covers⟩
      exact absurd (((free p low high).2.1 v view present).symm.trans covers) nofun
    · rintro ⟨p, low, high, inside⟩
      exact (free p low high).2.2 inside
  · rintro ⟨windows, views, control⟩ p low high
    refine ⟨fun u other => ?_, fun v view present => ?_, fun inside => control ⟨p, low, high, inside⟩⟩
    · exact Bool.eq_false_of_not_eq_true fun covers => windows ⟨u, p, fun e => other (Option.some.inj e), low, high, covers⟩
    · exact Bool.eq_false_of_not_eq_true fun covers => views ⟨v, view, p, present, nofun, low, high, covers⟩

theorem State.windowRefusal_of_not_mayChange {s : State} {w : Fin 32} (base size : Nat) (h : ¬s.mayChange w) :
    s.windowRefusal w base size = some .state := by
  rw [State.mayChange, ← State.isBank_eq_false_iff, not_and_or] at h
  unfold State.windowRefusal
  rcases h with catalogue | bank
  · rw [if_pos (Option.isSome_iff_ne_none.2 catalogue)]
  · rw [Bool.not_eq_false] at bank
    simp [bank]

/-- Behind the checks of the window itself, WINDOW is refused with OVERLAP unless its range is free. -/
theorem State.windowRefusal_of_mayChange {s : State} {w : Fin 32} {base size : Nat} (h : s.mayChange w) :
    (s.rangeFree w base size → s.windowRefusal w base size = none) ∧
      (¬s.rangeFree w base size → s.windowRefusal w base size = some .overlap) := by
  rw [State.mayChange, ← State.isBank_eq_false_iff] at h
  obtain ⟨catalogue, bank⟩ := h
  simp only [State.windowRefusal, catalogue, bank, Option.isSome_none, Bool.false_eq_true, if_false, State.rangeFree_iff,
    ← Bool.not_eq_true]
  constructor
  · rintro ⟨windows, views, control⟩
    rw [if_neg (by tauto)]
  · intro meets
    rw [if_pos (by tauto)]

theorem State.takeWindow_of_not_inRange {s : State} {bytes : List Byte} (h : ¬windowInRange s.flashBytes bytes) :
    s.takeWindow bytes = .refused s .range := by
  unfold State.takeWindow
  split
  · next w chunkSize guarded _ size mode =>
    rw [chunkSizeOf_eq, Option.ite_none_right_eq_some] at size
    rw [guardModeOf_eq, Option.ite_none_right_eq_some] at mode
    unfold windowInRange at h
    by_cases values : field bytes 12 4 % Config.blockBytes ≠ 0 ∨ field bytes 16 4 % Config.blockBytes ≠ 0 ∨
        field bytes 16 4 < Config.blockBytes ∨ Config.maxWindowBytes < field bytes 16 4
    · exact if_pos values
    · have beyond : s.flashBytes < field bytes 12 4 + field bytes 16 4 := by
        simp only [Config.blockBytes, Config.maxWindowBytes] at values
        omega
      exact (if_neg values).trans (if_pos beyond)
  · rfl

theorem State.takeWindow_of_inRange {s : State} {bytes : List Byte} {w : Fin 32} (hw : field bytes 8 1 = w.val)
    (h : windowInRange s.flashBytes bytes) :
    (∀ r, s.windowRefusal w (field bytes 12 4) (field bytes 16 4) = some r → s.takeWindow bytes = .refused s r) ∧
      (s.windowRefusal w (field bytes 12 4) (field bytes 16 4) = none →
        s.takeWindow bytes = .taken (s.modWin w fun v => { v with body := v.body.redefine (windowGeometry bytes) })) := by
  obtain ⟨base, size, least, most, inside, chunk, guard⟩ := h
  have values : ¬(field bytes 12 4 % Config.blockBytes ≠ 0 ∨ field bytes 16 4 % Config.blockBytes ≠ 0 ∨
      field bytes 16 4 < Config.blockBytes ∨ Config.maxWindowBytes < field bytes 16 4) := by
    simp only [Config.blockBytes, Config.maxWindowBytes]
    omega
  simp only [State.takeWindow, windowNumber_of_eq hw, chunkSizeOf_eq, guardModeOf_eq, chunk, guard, if_true, if_neg values,
    if_neg (Nat.not_lt.2 inside)]
  exact ⟨fun r refused => by rw [refused], fun passed => by rw [passed]; rfl⟩

/-- A WINDOW record is taken exactly if its values are in range, the window may change and the range is free (R25). -/
theorem State.takeWindow_taken_iff {s t : State} {bytes : List Byte} {w : Fin 32} (hw : field bytes 8 1 = w.val) :
    s.takeWindow bytes = .taken t ↔
      (windowInRange s.flashBytes bytes ∧ s.mayChange w ∧ s.rangeFree w (field bytes 12 4) (field bytes 16 4)) ∧
        t = s.modWin w fun v => { v with body := v.body.redefine (windowGeometry bytes) } := by
  by_cases range : windowInRange s.flashBytes bytes
  · obtain ⟨refused, taken⟩ := State.takeWindow_of_inRange hw range
    by_cases change : s.mayChange w
    · obtain ⟨passes, refuses⟩ := State.windowRefusal_of_mayChange (base := field bytes 12 4) (size := field bytes 16 4) change
      by_cases free : s.rangeFree w (field bytes 12 4) (field bytes 16 4)
      · simp [range, change, free, taken (passes free), eq_comm]
      · simp [free, refused _ (refuses free)]
    · simp [change, refused _ (State.windowRefusal_of_not_mayChange _ _ change)]
  · simp [range, State.takeWindow_of_not_inRange range]

theorem WinBody.geom?_redefine (b : WinBody) (g : Geometry) : (b.redefine g).geom? = some g := by
  cases b <;> rfl

theorem State.setWin_setWin (s : State) (w : Fin 32) (a b : Window) : (s.setWin w a).setWin w b = s.setWin w b := by
  simp [State.setWin]

/-! ### Teardown of a window that no pending commit stages (R50, R51) -/

/-- With no commit staged in the window, a teardown drops none (R143). -/
theorem State.dropStagedCommit_of_unstaged {s : State} {w : Fin 32} (h : s.stagesNoCommit w) (l : List (Fin 8)) :
    l.foldl (State.dropStagedCommit w) s = s := by
  have one : ∀ v, s.dropStagedCommit w v = s := by
    intro v
    unfold State.dropStagedCommit
    split
    · next view present =>
      split
      · next pc pending => rw [if_neg (h v view pc present pending)]
      · rfl
    · rfl
  induction l with
  | nil => rfl
  | cons v l ih => rw [List.foldl_cons, one, ih]

/-- A pending commit stages a bank of its view. -/
theorem State.stagesNoCommit_of_no_bank {s : State} {w : Fin 32}
    (h : ∀ v view, s.view v = some view → view.bankA ≠ w ∧ view.bankB ≠ w) : s.stagesNoCommit w := by
  intro v view pc present _
  obtain ⟨a, b⟩ := h v view present
  cases hb : pc.bank
  · exact a
  · exact b

/-- A stream context that holds a chunk of the window becomes FREE (R50). -/
def State.freeStreamOf (w : Fin 32) (s : State) (k : Fin 3) : State :=
  match s.stream k with
  | some x => if x.window = w then s.freeStream k else s
  | none => s

theorem State.freeStreamOf_spec (w : Fin 32) (s : State) (k : Fin 3) :
    (∀ j, (s.freeStreamOf w k).stream j =
      if j = k then (s.stream j).filter fun x => decide (x.window ≠ w) else s.stream j) ∧
    (s.freeStreamOf w k).engine.recency =
      (s.engine.recency.filter fun j => !(decide (j = k) && (s.stream j).any fun x => decide (x.window = w))) ∧
    (s.freeStreamOf w k).engine.readback = s.engine.readback ∧
    s.freeStreamOf w k = { s with engine := (s.freeStreamOf w k).engine } := by
  have same : (s.stream k).any (fun x => decide (x.window = w)) = false →
      (∀ j, s.stream j = if j = k then (s.stream j).filter fun x => decide (x.window ≠ w) else s.stream j) ∧
        s.engine.recency =
          (s.engine.recency.filter fun j => !(decide (j = k) && (s.stream j).any fun x => decide (x.window = w))) := by
    refine fun other => ⟨fun j => ?_, (List.filter_eq_self.2 fun j _ => ?_).symm⟩ <;> by_cases e : j = k
    · subst e
      cases hx : s.stream j <;> simp_all [Option.filter]
    · rw [if_neg e]
    · rw [e, other, Bool.and_false, Bool.not_false]
    · simp [e]
  unfold State.freeStreamOf
  split
  · next x hx =>
    split
    · next here =>
      obtain ⟨stream, recency, readback, _⟩ := s.freeStream_spec k
      refine ⟨fun j => ?_, ?_, readback, rfl⟩
      · rw [stream]
        by_cases e : j = k
        · simp [e, hx, here, Option.filter]
        · simp [e]
      · rw [recency]
        refine List.filter_congr fun j _ => ?_
        by_cases e : j = k
        · simp [e, hx, here]
        · simp [e]
    · next other =>
      obtain ⟨streams, recency⟩ := same (by simp [hx, other])
      exact ⟨streams, recency, rfl, rfl⟩
  · next idle =>
    obtain ⟨streams, recency⟩ := same (by simp [idle])
    exact ⟨streams, recency, rfl, rfl⟩

/-- Every stream context that holds a chunk of the window is FREE, and its number has left the recency list (R50, R99). -/
theorem State.freeStreamsOf_spec (w : Fin 32) (l : List (Fin 3)) (s : State) :
    (∀ j, (l.foldl (State.freeStreamOf w) s).stream j =
      if j ∈ l then (s.stream j).filter fun x => decide (x.window ≠ w) else s.stream j) ∧
    (l.foldl (State.freeStreamOf w) s).engine.recency =
      (s.engine.recency.filter fun j => !(decide (j ∈ l) && (s.stream j).any fun x => decide (x.window = w))) ∧
    (l.foldl (State.freeStreamOf w) s).engine.readback = s.engine.readback ∧
    l.foldl (State.freeStreamOf w) s = { s with engine := (l.foldl (State.freeStreamOf w) s).engine } := by
  induction l generalizing s with
  | nil => exact ⟨fun _ => by simp, by simp, rfl, rfl⟩
  | cons k l ih =>
    obtain ⟨stream, recency, readback, frame⟩ := s.freeStreamOf_spec w k
    obtain ⟨streams, recencies, readbacks, frames⟩ := ih (s.freeStreamOf w k)
    simp only [List.foldl_cons]
    refine ⟨fun j => ?_, ?_, readbacks.trans readback, ?_⟩
    · rw [streams, stream]
      by_cases e : j = k <;> by_cases m : j ∈ l <;> simp [e, m]
    · rw [recencies, recency, List.filter_filter]
      refine List.filter_congr fun j _ => ?_
      rw [stream]
      by_cases e : j = k <;> by_cases m : j ∈ l <;> simp [e, m]
    · have framed := congrArg (State.modEngine fun _ => (l.foldl (State.freeStreamOf w) (s.freeStreamOf w k)).engine) frame
      exact frames.trans framed

/-- A teardown frees the contexts of the window's chunks, and counts an aborted read-back (R50, R114). -/
theorem State.freeWindowContexts_spec (w : Fin 32) (s : State) :
    contextsFreed s (s.freeWindowContexts w) w ∧
      (s.freeWindowContexts w).engine.recency =
        (s.engine.recency.filter fun k => !(s.stream k).any fun x => decide (x.window = w)) ∧
      ∃ e c, s.freeWindowContexts w = { s with engine := e, reports := { s.reports with counters := c } } := by
  obtain ⟨streams, recency, readback, frame⟩ := State.freeStreamsOf_spec w [0, 1, 2] s
  have all : ∀ k : Fin 3, k ∈ ([0, 1, 2] : List (Fin 3)) := by decide
  simp only [all, if_true, decide_true, Bool.true_and] at streams recency
  have unfolded : s.freeWindowContexts w =
      match (([0, 1, 2] : List (Fin 3)).foldl (State.freeStreamOf w) s).engine.readback with
      | some r =>
        if r.window = w then ((([0, 1, 2] : List (Fin 3)).foldl (State.freeStreamOf w) s).setReadback none).countAbort
        else ([0, 1, 2] : List (Fin 3)).foldl (State.freeStreamOf w) s
      | none => ([0, 1, 2] : List (Fin 3)).foldl (State.freeStreamOf w) s := rfl
  rw [unfolded]
  generalize ([0, 1, 2] : List (Fin 3)).foldl (State.freeStreamOf w) s = freed at *
  obtain ⟨engine, rfl⟩ : ∃ engine, freed = { s with engine := engine } := ⟨_, frame⟩
  dsimp only at readback
  split
  · next r hr =>
    have held := readback.symm.trans hr
    split
    · next here =>
      refine ⟨⟨streams, ?_, by simp [held, here, State.countAbort]⟩, recency, _, _, rfl⟩
      show none = _
      simp [held, here, Option.filter]
    · next other =>
      exact ⟨⟨streams, by simp [readback, held, other, Option.filter], by simp [held, other]⟩, recency, _, _, rfl⟩
  · next free =>
    have idle := readback.symm.trans free
    exact ⟨⟨streams, by simp [readback, idle], by simp [idle]⟩, recency, _, _, rfl⟩

/-- IMAGE (lost) is raised for a complete image ahead of the teardown of its catalogue (R51). -/
def State.loseImage (w : Fin 32) (s : State) : State :=
  match (s.win w).body with
  | .loaded _ c _ =>
    if (s.win w).goodCount = c.chunks.length then s.raise (.image w true c.target c.version c.chunks.length 0) else s
  | .vacant | .defined _ | .opened _ _ | .rejected _ => s

theorem State.loseImage_of_complete {s : State} {w : Fin 32} {g : Geometry} {c : Catalogue} {e : ErasedDigests}
    (hb : (s.win w).body = .loaded g c e) (complete : (s.win w).goodCount = c.chunks.length) :
    s.loseImage w = s.raise (.image w true c.target c.version c.chunks.length 0) := by
  simp [State.loseImage, hb, complete]

theorem State.loseImage_of_not_complete {s : State} {w : Fin 32}
    (h : ∀ g c e, (s.win w).body = .loaded g c e → (s.win w).goodCount ≠ c.chunks.length) : s.loseImage w = s := by
  unfold State.loseImage
  split
  · next g c e hb => exact if_neg (h g c e hb)
  all_goals rfl

theorem State.loseImage_frame (w : Fin 32) (s : State) :
    ∃ queue dropped, s.loseImage w = { s with reports := { s.reports with queue := queue, dropped := dropped } } := by
  by_cases complete : ∃ g c e, (s.win w).body = .loaded g c e ∧ (s.win w).goodCount = c.chunks.length
  · obtain ⟨g, c, e, hb, full⟩ := complete
    exact ⟨_, _, (State.loseImage_of_complete hb full).trans (s.raise_frame _).1⟩
  · exact ⟨s.reports.queue, s.reports.dropped,
      State.loseImage_of_not_complete fun g c e hb full => complete ⟨g, c, e, hb, full⟩⟩

/-- A window's entry behind a teardown: its next body, and no flag, count or timer but the fill-reported flag (R50). -/
def Window.torn (next : WinBody) (v : Window) : Window :=
  { v with body := next, goodCount := 0, checkWanted := false, checkReportWanted := false, dipTouched := false
           quiet := none, cursor := 0 }

/-- A teardown of a window in which no commit is staged (R50, R51). -/
theorem State.teardown_of_unstaged {s : State} {w : Fin 32} (h : s.stagesNoCommit w) (next : WinBody) :
    s.teardown w next =
      (((s.loseImage w).freeWindowContexts w).modScheduler fun c =>
        { c with queue := c.queue.filter fun e => decide (e.window ≠ w) }).modWin w (Window.torn next) := by
  have unstaged : (s.loseImage w).stagesNoCommit w := by
    obtain ⟨queue, dropped, frame⟩ := s.loseImage_frame w
    rw [frame]
    exact h
  have torn : s.teardown w next =
      (((allViews.foldl (State.dropStagedCommit w) (s.loseImage w)).freeWindowContexts w).modScheduler fun c =>
        { c with queue := c.queue.filter fun e => decide (e.window ≠ w) }).modWin w (Window.torn next) := rfl
  rw [torn, State.dropStagedCommit_of_unstaged unstaged]

/-- What a teardown of an unstaged window leaves: contexts freed, entries gone from the queue, the window's entry cleared, and of the
reports only IMAGE (lost) (R50, R51). -/
theorem State.teardown_spec {s : State} {w : Fin 32} (h : s.stagesNoCommit w) (next : WinBody) :
    (s.teardown w next).win w = (s.win w).torn next ∧
      (∀ u, u ≠ w → (s.teardown w next).win u = s.win u) ∧ contextsFreed s (s.teardown w next) w ∧
      (s.teardown w next).engine.recency =
        (s.engine.recency.filter fun k => !(s.stream k).any fun x => decide (x.window = w)) ∧
      (s.teardown w next).reports.queue = (s.loseImage w).reports.queue ∧
      (s.teardown w next).reports.dropped = (s.loseImage w).reports.dropped ∧
      ∃ windows engine queue dropped counters, s.teardown w next =
        { s with
          windows := windows, engine := engine
          reports := { s.reports with queue := queue, dropped := dropped, counters := counters }
          scheduler := { s.scheduler with queue := s.scheduler.queue.filter fun e => decide (e.window ≠ w) } } := by
  rw [State.teardown_of_unstaged h]
  obtain ⟨queue, dropped, lost⟩ := s.loseImage_frame w
  obtain ⟨freed, recency, engine, counters, frame⟩ := (s.loseImage w).freeWindowContexts_spec w
  rw [lost] at freed recency frame ⊢
  rw [frame] at freed recency ⊢
  have windows : ∀ u, ((({ s with
      reports := { s.reports with queue := queue, dropped := dropped, counters := counters }
      engine := engine } : State).modScheduler fun c =>
        { c with queue := c.queue.filter fun e => decide (e.window ≠ w) }).modWin w (Window.torn next)).win u =
      if w = u then (s.win w).torn next else s.win u := fun u => State.win_modWin _ _ _ _
  exact ⟨(windows w).trans (if_pos rfl), fun u other => (windows u).trans (if_neg (Ne.symm other)), freed, recency, rfl, rfl,
    _, _, _, _, _, rfl⟩

/-! ### DROP (R63) -/

theorem WinBody.present_eq_false_iff (b : WinBody) : b.present = false ↔ b = .vacant := by
  cases b <;> simp [WinBody.present, WinBody.geom?]

theorem State.takeDrop_of_refused {s : State} {bytes : List Byte} {w : Fin 32} (hw : field bytes 8 1 = w.val)
    (h : (s.win w).body = .vacant ∨ ∃ v view, s.view v = some view ∧ (view.bankA = w ∨ view.bankB = w)) :
    s.takeDrop bytes = .refused s .state := by
  simp only [State.takeDrop, windowNumber_of_eq hw]
  by_cases vacant : (s.win w).body = .vacant
  · rw [if_pos ((WinBody.present_eq_false_iff _).2 vacant)]
  · rw [if_neg (mt (WinBody.present_eq_false_iff _).1 vacant), if_pos ((s.isBank_iff w).2 (h.resolve_left vacant))]

/-- DROP makes a window that is no bank VACANT, with a teardown of its catalogue (R63). -/
theorem State.takeDrop_of_taken {s : State} {bytes : List Byte} {w : Fin 32} (hw : field bytes 8 1 = w.val)
    (present : (s.win w).body ≠ .vacant) (free : ∀ v view, s.view v = some view → view.bankA ≠ w ∧ view.bankB ≠ w) :
    s.takeDrop bytes =
      .taken
        ((if (s.win w).body.cat? = none then s.modWin w fun v => { v with body := .vacant }
          else s.teardown w .vacant).modWin w fun v => { v with fillReported := false }) := by
  have unbanked := (s.isBank_eq_false_iff w).2 free
  simp only [State.takeDrop, windowNumber_of_eq hw, mt (WinBody.present_eq_false_iff _).1 present, unbanked, if_false,
    Bool.false_eq_true]
  cases (s.win w).body.cat? <;> rfl

/-- Settles O48. -/
theorem windowRecordIsTakenExactlyUnderItsChecks : Obligations.WindowRecordIsTakenExactlyUnderItsChecks := by
  refine ⟨?_, ?_, fun s bytes beyond => ?_, fun s bytes w hw => ⟨State.takeDrop_of_refused hw, fun present free => ⟨?_, ?_⟩⟩⟩
  · rintro s bytes w base size hw rfl rfl
    constructor
    · simp only [State.takeWindow_taken_iff hw, exists_and_left, exists_eq, and_true, windowInRange, State.mayChange,
        State.rangeFree, and_assoc]
    · intro t taken
      obtain ⟨_, rfl⟩ := (State.takeWindow_taken_iff hw).1 taken
      simp only [State.win_modWin, if_true, WinBody.geom?_redefine]
      refine ⟨rfl, rfl, fun h => ?_, fun g h => ?_, fun g h => ?_⟩
      all_goals exact ⟨windowGeometry bytes, by rw [h]; rfl⟩
  · rintro s bytes w base size hw rfl rfl inRange mayChange
    refine ⟨State.takeWindow_of_not_inRange, fun range change => ?_, fun range change p low high met => ?_⟩
    · exact (State.takeWindow_of_inRange hw range).1 _ (State.windowRefusal_of_not_mayChange _ _ change)
    · refine (State.takeWindow_of_inRange hw range).1 _ ((State.windowRefusal_of_mayChange change).2 fun free => ?_)
      obtain ⟨windows, views, control⟩ := free p low high
      rcases met with ⟨u, other, covers⟩ | ⟨v, view, present, covers⟩ | inside
      · exact absurd ((windows u other).symm.trans covers) nofun
      · exact absurd ((views v view present).symm.trans covers) nofun
      · exact control inside
  · simp [State.takeWindow, State.takeDrop, windowNumber_of_le beyond]
  · intro bare
    rw [State.takeDrop_of_taken hw present free, if_pos bare]
    simp only [State.modWin, State.win_setWin_self, State.setWin_setWin]
  · intro catalogued
    rw [State.takeDrop_of_taken hw present free, if_neg catalogued]
    obtain ⟨here, others, freed, recency, queue, dropped, _, _, _, _, _, frame⟩ :=
      State.teardown_spec (State.stagesNoCommit_of_no_bank free) .vacant
    generalize s.teardown w .vacant = torn at *
    refine ⟨_, rfl, ?_, fun u other => ?_, freed, recency, ?_, fun g c e hb complete => ?_, fun incomplete => ?_⟩
    · rw [State.win_modWin, if_pos rfl, here]
      rfl
    · rw [State.win_modWin, if_neg (Ne.symm other), others u other]
    · rw [frame]
      rfl
    · exact queue.trans (by rw [State.loseImage_of_complete hb complete])
    · rw [State.loseImage_of_not_complete incomplete] at queue dropped
      exact ⟨queue, dropped⟩

end Sys2Proof.Machine
end

section
/-! What keeps windows, views and the control region apart (R29): operations that move no window and no view, and the writes that
give a window its geometry or a view its place. -/

namespace Sys2Proof.Machine

/-! ### Operations that move nothing -/

/-- Where a view stands: its base and its banks (R28). -/
def View.place (v : View) : Nat × Fin 32 × Fin 32 := (v.base, v.bankA, v.bankB)

theorem View.place_eq_iff (x y : View) : x.place = y.place ↔ x.base = y.base ∧ x.bankA = y.bankA ∧ x.bankB = y.bankB := by
  simp only [View.place, Prod.mk.injEq]

/-- The straps, the geometry of each window and the place of each view are the same in both states: all that R29 speaks of. -/
structure SameMap (s t : State) : Prop where
  straps : t.straps = s.straps
  geom? : ∀ w, (t.win w).body.geom? = (s.win w).body.geom?
  place : ∀ v, (t.view v).map View.place = (s.view v).map View.place

theorem SameMap.refl (s : State) : SameMap s s := ⟨rfl, fun _ => rfl, fun _ => rfl⟩

theorem SameMap.trans {s t u : State} (h : SameMap s t) (k : SameMap t u) : SameMap s u :=
  ⟨k.straps.trans h.straps, fun w => (k.geom? w).trans (h.geom? w), fun v => (k.place v).trans (h.place v)⟩

theorem SameMap.foldl {α : Type} (f : State → α → State) (hf : ∀ s a, SameMap s (f s a)) (l : List α) (s : State) :
    SameMap s (l.foldl f s) := by
  induction l generalizing s with
  | nil => exact .refl s
  | cons a l ih => exact (hf s a).trans (ih _)

/-- An operation on other blocks than the windows and the views moves nothing. -/
theorem SameMap.of_blocks {s t : State} (hs : t.straps = s.straps) (hw : t.windows = s.windows) (hv : t.views = s.views) :
    SameMap s t :=
  ⟨hs, fun w => by simp only [State.win, hw], fun v => by simp only [State.view, hv]⟩

theorem EventWork.sameMap {s t : State} (h : EventWork s t) : SameMap s t :=
  ⟨h.straps, h.geom?, fun v => by rw [h.view]⟩

theorem ChunkWork.sameMap {s t : State} (h : ChunkWork s t) : SameMap s t := h.event.sameMap

theorem State.raise_sameMap (s : State) (r : Report) : SameMap s (s.raise r) := (s.raise_work r).sameMap

theorem State.settleClaim_sameMap (s : State) : SameMap s s.settleClaim := s.settleClaim_event.sameMap

theorem State.refill_sameMap (s : State) : SameMap s s.refill := s.refill_event.sameMap

theorem State.requestMark_sameMap (s : State) (m : Mark) : SameMap s (s.requestMark m) := by
  rw [s.requestMark_eq]
  exact .of_blocks rfl rfl rfl

theorem State.watchStatus_sameMap (s : State) (byte : Byte) : SameMap s (s.watchStatus byte) := by
  rw [s.watchStatus_eq]
  split
  · exact .of_blocks rfl rfl rfl
  · exact .refl s

/-- A write of a window that keeps its geometry. -/
theorem State.modWin_sameMap (s : State) (w : Fin 32) (f : Window → Window)
    (h : (f (s.win w)).body.geom? = (s.win w).body.geom?) : SameMap s (s.modWin w f) := by
  refine ⟨rfl, fun u => ?_, fun _ => rfl⟩
  rw [State.win_modWin]
  split
  · next e => rw [h, e]
  · rfl

/-- A write of a view that keeps its place. -/
theorem State.setView_sameMap (s : State) (v : Fin 8) (x : Option View) (h : x.map View.place = (s.view v).map View.place) :
    SameMap s (s.setView v x) := by
  refine ⟨rfl, fun _ => rfl, fun u => ?_⟩
  rw [State.view_setView]
  split
  · next e => rw [h, e]
  · rfl

/-! ### The law of R29 as a whole -/

/-- The law of R29: its windows' share and its views'. -/
structure MapLaw (s : State) : Prop where
  windows : WindowLaw s
  views : ViewLaw s

/-- What a view's place needs of the windows and of the other views (R28, R29, R129). -/
structure State.ViewFits (s : State) (v : Fin 8) (view : View) : Prop where
  aligned : view.base % Config.blockBytes = 0
  inside : view.base + s.viewSize view ≤ s.flashBytes
  banks : s.banksMatch view
  control : s.meetsControl view.base (view.base + s.viewSize view) = false
  windows : s.meetsOtherWindow none view.base (view.base + s.viewSize view) = false
  others : ∀ u other, u ≠ v → s.view u = some other →
    Apart other.base (other.base + s.viewSize other) view.base (view.base + s.viewSize view) ∧
      other.bankA ≠ view.bankA ∧ other.bankA ≠ view.bankB ∧ other.bankB ≠ view.bankA ∧ other.bankB ≠ view.bankB

/-- The views' share of the law of R29 is that every present view fits. -/
theorem viewLaw_iff (s : State) : ViewLaw s ↔ ∀ v view, s.view v = some view → s.ViewFits v view := by
  constructor
  · rintro ⟨each, pairs⟩ v view present
    obtain ⟨aligned, inside, banks, control, windows⟩ := each v view present
    exact ⟨aligned, inside, banks, control, windows, fun u other distinct h => pairs u v other view distinct h present⟩
  · intro fits
    refine ⟨fun v view present => ?_, fun u v x y distinct hx hy => (fits v y hy).others u x distinct hx⟩
    obtain ⟨aligned, inside, banks, control, windows, _⟩ := fits v view present
    exact ⟨aligned, inside, banks, control, windows⟩

theorem SameMap.flashBytes {s t : State} (h : SameMap s t) : t.flashBytes = s.flashBytes := by
  simp only [State.flashBytes, h.straps]

theorem SameMap.viewSize {s t : State} (h : SameMap s t) {x y : View} (e : y.place = x.place) :
    t.viewSize y = s.viewSize x := by
  obtain ⟨_, bankA, _⟩ := (View.place_eq_iff y x).1 e
  simp only [State.viewSize, WinBody.size, h.geom?, bankA]

theorem SameMap.view {s t : State} (h : SameMap s t) {v : Fin 8} {y : View} (hy : t.view v = some y) :
    ∃ x, s.view v = some x ∧ y.place = x.place := by
  have place := h.place v
  rw [hy, Option.map_some, eq_comm, Option.map_eq_some_iff] at place
  obtain ⟨x, hx, e⟩ := place
  exact ⟨x, hx, e.symm⟩

/-- A view that stands where it stood fits as it fitted. -/
theorem SameMap.viewFits {s t : State} (h : SameMap s t) {v : Fin 8} {x y : View} (e : y.place = x.place)
    (fits : s.ViewFits v x) : t.ViewFits v y := by
  have size := h.viewSize e
  obtain ⟨base, bankA, bankB⟩ := (View.place_eq_iff y x).1 e
  obtain ⟨aligned, inside, banks, control, windows, others⟩ := fits
  refine ⟨?_, ?_, ?_, ?_, ?_, fun u other distinct hu => ?_⟩
  · rw [base]; exact aligned
  · rw [base, size, h.flashBytes]; exact inside
  · simpa only [State.banksMatch, bankA, bankB, h.geom?] using banks
  · rw [base, size, State.meetsControl, h.straps]; exact control
  · rw [base, size]
    simpa only [State.meetsOtherWindow, WinBody.meets, h.geom?] using windows
  · obtain ⟨old, hold, place⟩ := h.view hu
    have oldSize := h.viewSize place
    obtain ⟨oldBase, oldA, oldB⟩ := (View.place_eq_iff other old).1 place
    rw [base, size, bankA, bankB, oldBase, oldSize, oldA, oldB]
    exact others u old distinct hold

/-- An operation that moves nothing keeps the law of R29. -/
theorem SameMap.mapLaw {s t : State} (h : SameMap s t) (law : MapLaw s) : MapLaw t where
  windows := by
    simpa only [WindowLaw, h.geom?, h.flashBytes, State.meetsControl, h.straps] using law.windows
  views := by
    rw [viewLaw_iff]
    intro v view present
    obtain ⟨old, hold, place⟩ := h.view present
    exact h.viewFits place ((viewLaw_iff s).1 law.views v old hold)

/-- With every window VACANT and no view present nothing can meet. -/
theorem MapLaw.of_bare {s : State} (windows : ∀ w, (s.win w).body = .vacant) (views : ∀ v, s.view v = none) : MapLaw s := by
  have geom : ∀ w, (s.win w).body.geom? = none := fun w => by rw [windows w]; rfl
  refine ⟨⟨fun w g h => ?_, fun u w g h _ hu => ?_⟩, ⟨fun v view h => ?_, fun u v x y _ hu => ?_⟩⟩
  · rw [geom] at h; cases h
  · rw [geom] at hu; cases hu
  · rw [views] at h; cases h
  · rw [views] at hu; cases hu

/-! ### A window gets a geometry or loses it (R26, R63) -/

theorem State.rangeFree.apart {s : State} {w u : Fin 32} {base size : Nat} (free : s.rangeFree w base size) (other : u ≠ w)
    {g : Geometry} (hg : (s.win u).body.geom? = some g) : Apart base (base + size) g.base (g.base + g.size) := by
  refine Bool.eq_false_of_not_eq_true fun meets => ?_
  obtain ⟨p, low, high, inside⟩ := (overlaps_iff _ _ _ _).1 meets
  have covers : (s.win u).body.covers p = true := (WinBody.covers_iff _ p).2 ⟨g, hg, inside⟩
  exact absurd (((free p low high).1 u other).symm.trans covers) nofun

/-- A window that is no bank may get any legal geometry on a free range, or none. -/
theorem MapLaw.modWin {s : State} {w : Fin 32} {f : Window → Window} (law : MapLaw s)
    (unbanked : ∀ v view, s.view v = some view → view.bankA ≠ w ∧ view.bankB ≠ w)
    (fits : ∀ g, (f (s.win w)).body.geom? = some g → g.legal s.flashBytes ∧ s.rangeFree w g.base g.size) :
    MapLaw (s.modWin w f) := by
  have here : (s.modWin w f).win w = f (s.win w) := by rw [State.win_modWin, if_pos rfl]
  have elsewhere : ∀ u, u ≠ w → (s.modWin w f).win u = s.win u := fun u h => by rw [State.win_modWin, if_neg (Ne.symm h)]
  refine ⟨⟨fun u g hg => ?_, fun u x g h distinct hg hh => ?_⟩, (viewLaw_iff _).2 fun v view present => ?_⟩
  · by_cases e : u = w
    · subst e
      rw [here] at hg
      exact ⟨(fits g hg).1, ((s.rangeFree_iff _ _ _).1 (fits g hg).2).2.2⟩
    · rw [elsewhere u e] at hg
      exact law.windows.1 u g hg
  · by_cases eu : u = w
    · subst eu
      rw [here] at hg
      rw [elsewhere x (Ne.symm distinct)] at hh
      exact (fits g hg).2.apart (Ne.symm distinct) hh
    · rw [elsewhere u eu] at hg
      by_cases ex : x = w
      · subst ex
        rw [here] at hh
        exact ((fits h hh).2.apart eu hg).symm
      · rw [elsewhere x ex] at hh
        exact law.windows.2 u x g h distinct hg hh
  · have size : ∀ u y, s.view u = some y → (s.modWin w f).viewSize y = s.viewSize y := fun u y hy => by
      simp only [State.viewSize, elsewhere _ (unbanked u y hy).1]
    obtain ⟨aligned, inside, banks, control, windows, others⟩ := (viewLaw_iff s).1 law.views v view present
    obtain ⟨noA, noB⟩ := unbanked v view present
    refine ⟨aligned, ?_, ?_, ?_, ?_, fun u other distinct hu => ?_⟩
    · rw [size v view present]; exact inside
    · simpa only [State.banksMatch, elsewhere _ noA, elsewhere _ noB] using banks
    · rw [size v view present]; exact control
    · rw [size v view present]
      refine Bool.eq_false_of_not_eq_true fun meets => ?_
      obtain ⟨u, p, _, low, high, covers⟩ := ((s.modWin w f).meetsOtherWindow_iff _ _ _).1 meets
      by_cases e : u = w
      · subst e
        rw [here] at covers
        obtain ⟨g, hg, low', high'⟩ := (WinBody.covers_iff _ _).1 covers
        have clear := ((fits g hg).2 p low' high').2.1 v view present
        exact absurd (clear.symm.trans ((s.viewCovers_iff _ _).2 ⟨low, high⟩)) nofun
      · rw [elsewhere u e] at covers
        exact absurd (windows.symm.trans ((s.meetsOtherWindow_iff _ _ _).2 ⟨u, p, nofun, low, high, covers⟩)) nofun
    · rw [size v view present, size u other hu]
      exact others u other distinct hu

/-! ### A view gets a place or loses it (R129, R131) -/

theorem MapLaw.setView {s : State} {v : Fin 8} {x : Option View} (law : MapLaw s)
    (fits : ∀ view, x = some view → s.ViewFits v view) : MapLaw (s.setView v x) := by
  have kept : ∀ u y, u ≠ v → (s.setView v x).view u = some y → s.view u = some y := fun u y distinct hy => by
    rwa [State.view_setView, if_neg (Ne.symm distinct)] at hy
  have new : ∀ y, (s.setView v x).view v = some y → x = some y := fun y hy => by
    rwa [State.view_setView, if_pos rfl] at hy
  refine ⟨law.windows, (viewLaw_iff _).2 fun u y hy => ?_⟩
  by_cases e : u = v
  · subst e
    obtain ⟨aligned, inside, banks, control, windows, others⟩ := fits y (new y hy)
    exact ⟨aligned, inside, banks, control, windows, fun o other distinct ho => others o other distinct (kept o other distinct ho)⟩
  · obtain ⟨aligned, inside, banks, control, windows, others⟩ := (viewLaw_iff s).1 law.views u y (kept u y e hy)
    refine ⟨aligned, inside, banks, control, windows, fun o other distinct ho => ?_⟩
    by_cases eo : o = v
    · subst eo
      obtain ⟨apart, aa, ab, ba, bb⟩ := (fits other (new other ho)).others u y e (kept u y e hy)
      exact ⟨apart.symm, aa.symm, ba.symm, ab.symm, bb.symm⟩
    · exact others o other distinct (kept o other eo ho)

theorem WinBody.geom?_of_present {b : WinBody} (h : ¬b.present = false) : ∃ g, b.geom? = some g :=
  Option.isSome_iff_exists.1 (Bool.not_eq_false _ ▸ h)

/-- A view that passes the checks of VIEW fits (R129). -/
theorem State.viewFits_of_viewRefusal {s : State} {v : Fin 8} {a b : Fin 32} {base : Nat} {view : View}
    (passed : s.viewRefusal v a b base = none) (place : view.place = (base, a, b)) : s.ViewFits v view := by
  obtain ⟨rfl, rfl, rfl⟩ : view.base = base ∧ view.bankA = a ∧ view.bankB = b := by
    simpa only [View.place, Prod.mk.injEq] using place
  unfold State.viewRefusal at passed
  split_ifs at passed with aligned taken absent banks alike inside meets
  simp only [not_or, Bool.not_eq_true] at absent banks alike meets
  obtain ⟨g, hg⟩ := WinBody.geom?_of_present absent.1
  obtain ⟨h, hh⟩ := WinBody.geom?_of_present absent.2
  obtain ⟨distinct, size, chunk⟩ := alike
  obtain ⟨windows, views, control⟩ := meets
  refine ⟨not_not.1 aligned, Nat.not_lt.1 inside, ⟨distinct, g, h, hg, hh, ?_, ?_⟩, control, windows, fun u other _ hu => ?_⟩
  · simpa [WinBody.size, hg, hh] using size
  · simpa [WinBody.chunkSize, hg, hh] using chunk
  · obtain ⟨aa, ba⟩ := (s.isBank_eq_false_iff _).1 banks.1 u other hu
    obtain ⟨ab, bb⟩ := (s.isBank_eq_false_iff _).1 banks.2 u other hu
    refine ⟨Bool.eq_false_of_not_eq_true fun meets => ?_, aa, ab, ba, bb⟩
    obtain ⟨p, low, high, low', high'⟩ := (overlaps_iff _ _ _ _).1 meets
    have met := (s.meetsOtherView_iff none view.base (view.base + s.viewSize view)).2
      ⟨u, other, p, hu, nofun, low', high', (s.viewCovers_iff _ _).2 ⟨low, high⟩⟩
    exact absurd (views.symm.trans met) nofun

/-! ### After a reset -/

/-- A cleared part has every window VACANT, no view, no context and nothing queued or in flight, whether it starts or is held. -/
structure Blank (s : State) : Prop where
  win : ∀ w, s.win w = Window.atReset
  view : ∀ v, s.view v = none
  stream : ∀ k, s.stream k = none
  recency : s.engine.recency = []
  readback : s.engine.readback = none
  portOp : s.bridge.portOp = none
  checks : s.scheduler.queue = []
  journal : s.reports.journal = .scanning
  index : s.reports.index = 0
  scanSlot : s.reports.scanSlot = 0
  marks : s.reports.marks = []
  reports : s.reports.queue.length ≤ 1

theorem State.cleared_blank (cause : ResetCause) (pins : Straps) (band : Band) (q : List Instr) (part : PartState) :
    Blank { State.cleared cause pins band q with part := part } where
  win w := by simp [State.cleared, State.win, Vector.get_eq_getElem]
  view v := State.cleared_view cause pins band q v
  stream k := by simp [State.cleared, State.stream, Vector.get_eq_getElem]
  recency := rfl
  readback := rfl
  portOp := rfl
  checks := rfl
  journal := rfl
  index := rfl
  scanSlot := rfl
  marks := rfl
  reports := Nat.zero_le _

/-- A dip at the reset adds its report and nothing else that a blank part speaks of (R148). -/
theorem State.resetWith_blank (cause : ResetCause) (pins : Straps) (band : Band) (q : List Instr) :
    Blank (State.resetWith cause pins band q) := by
  have cleared := State.cleared_blank cause pins band q .starting
  rw [State.resetWith_eq]
  split
  · exact cleared
  · exact ⟨cleared.win, cleared.view, cleared.stream, rfl, rfl, rfl, rfl, rfl, rfl, rfl, rfl, le_refl 1⟩

theorem Blank.mapLaw {s : State} (h : Blank s) : MapLaw s := .of_bare (fun w => by rw [h.win w]; rfl) h.view

theorem Blank.chunk? {s : State} (h : Blank s) (w : Fin 32) (i : Nat) : s.chunk? w i = none := by
  rw [State.chunk?, h.win w]
  rfl

/-- A blank part has the laws of the blocks that know about chunks and reports; the others are those of O60. -/
theorem Blank.lawful {s : State} (h : Blank s) (order : InOrder s) : Lawful s where
  port := ⟨fun _ => by simp [State.internalInFlight, Engine.burstInFlight, h.portOp, h.readback], fun hp => by
    rw [h.portOp] at hp; cases hp⟩
  claim := order.claim
  report := by
    refine ⟨h.reports.trans (by decide), by simp [h.marks], by simp [h.index], fun ready => ?_, ?_, by simp [h.scanSlot],
      fun kind phase timer hp => ?_⟩
    · rw [h.journal] at ready; cases ready
    · rw [h.scanSlot]; decide
    · rw [h.portOp] at hp; cases hp
  credit := order.credit
  queue := by simp [QueueLaw, h.checks]
  window := h.mapLaw.windows
  view := h.mapLaw.views
  hold := order.hold
  pool := by
    refine ⟨fun w => ?_, fun u w _ => ?_, fun w g c hg => ?_⟩
    · rw [h.win w]; decide
    · rw [h.win u, h.win w]; exact rfl
    · rw [h.win w] at hg; cases hg
  good w := by
    rw [h.win w]
    exact rfl
  context := by
    refine ⟨by simp [h.recency], fun k => by simp [h.recency, h.stream k], fun k x hx => ?_, fun r hr => ?_, fun w i c hc => ?_⟩
    · rw [h.stream k] at hx; cases hx
    · rw [h.readback] at hr; cases hr
    · rw [h.chunk? w i] at hc; cases hc
  supply := order.supply
  parser := order.parser

/-- Settles O53. -/
theorem resetHasEveryLaw : Obligations.ResetHasEveryLaw := by
  have cleared : ∀ cause pins band q part, Lawful { State.cleared cause pins band q with part := part } :=
    fun cause pins band q part =>
      (State.cleared_blank cause pins band q part).lawful (State.cleared_inOrder cause pins band q part)
  exact ⟨cleared _ _ _ _ .starting,
    fun cause pins band q => (State.resetWith_blank cause pins band q).lawful (State.resetWith_inOrder cause pins band q),
    fun s => ⟨_, rfl, cleared .pin s.strapPins s.supply.band s.pending .held⟩⟩

end Sys2Proof.Machine
end

section
/-! What records and the bytes that bring them do to windows and views (R29): only WINDOW, DROP, VIEW and UNVIEW move any, and each
under its checks. -/

namespace Sys2Proof.Machine

/-! ### Views and commits -/

theorem State.modReports_sameMap (s : State) (f : ReportWriter → ReportWriter) : SameMap s (s.modReports f) :=
  .of_blocks rfl rfl rfl

theorem State.markCommit_sameMap (s : State) (pc : PendingCommit) (k : MarkKind) : SameMap s (s.markCommit pc k) := by
  unfold State.markCommit
  split
  · exact s.requestMark_sameMap _
  · exact .refl s

/-- A view that is written where it stands moves nothing. -/
theorem State.rewriteView_sameMap {s : State} {v : Fin 8} {view : View} (hv : s.view v = some view) (new : View)
    (h : new.place = view.place) : SameMap s (s.setView v (some new)) := by
  refine s.setView_sameMap v _ ?_
  rw [hv, Option.map_some, Option.map_some, h]

theorem State.dropPending_sameMap {s : State} {v : Fin 8} {view : View} (hv : s.view v = some view) (old : View)
    (h : old.place = view.place) (pc : PendingCommit) (r : Reason) : SameMap s (s.dropPending v old pc r) :=
  ((State.rewriteView_sameMap hv { old with pendingCommit := none } h).trans (State.markCommit_sameMap _ _ _)).trans
    (State.raise_sameMap _ _)

theorem State.release_sameMap {s : State} {v : Fin 8} {view : View} (hv : s.view v = some view) :
    SameMap s (s.release v view) := by
  simp only [State.release]
  split
  · exact State.rewriteView_sameMap hv _ (by rfl)
  · split
    · exact State.dropPending_sameMap hv _ (by rfl) _ _
    · exact ((State.rewriteView_sameMap hv _ (by rfl)).trans (State.markCommit_sameMap _ _ _)).trans (State.raise_sameMap _ _)

theorem State.commit_sameMap (mode : Mode) (addr : Nat) {s : State} {v : Fin 8} {view : View} (bank : Bank)
    (hv : s.view v = some view) : SameMap s (s.commit mode addr v view bank).st := by
  have drop : ∀ pc r, SameMap s (s.dropPending v view pc r) := State.dropPending_sameMap hv view rfl
  simp only [State.commit]
  split
  · split
    · exact drop _ _
    · exact .refl s
  · split
    · exact State.rewriteView_sameMap hv _ (by rfl)
    · split
      · exact s.raise_sameMap _
      · split
        · refine SameMap.trans ?_ (State.raise_sameMap _ _)
          split
          · next pc _ =>
            have dropped := drop pc .replaced
            obtain ⟨now, hnow, place⟩ : ∃ now, (s.dropPending v view pc .replaced).view v = some now ∧
                now.place = view.place := by
              have place := dropped.place v
              rw [hv, Option.map_some, Option.map_eq_some_iff] at place
              exact place
            exact dropped.trans (State.rewriteView_sameMap hnow _ place.symm)
          · exact State.rewriteView_sameMap hv _ (by rfl)
        · exact (State.rewriteView_sameMap hv _ (by rfl)).trans (State.raise_sameMap _ _)

/-! ### Catalogues -/

theorem State.dropStagedCommit_sameMap (w : Fin 32) (s : State) (v : Fin 8) : SameMap s (s.dropStagedCommit w v) := by
  unfold State.dropStagedCommit
  split
  · next hv =>
    split
    · split
      · exact State.dropPending_sameMap hv _ (by rfl) _ _
      · exact .refl s
    · exact .refl s
  · exact .refl s

theorem State.loseImage_sameMap (w : Fin 32) (s : State) : SameMap s (s.loseImage w) := by
  obtain ⟨queue, dropped, frame⟩ := s.loseImage_frame w
  rw [frame]
  exact .of_blocks rfl rfl rfl

/-- Ahead of the window's next body a teardown moves nothing (R50). -/
theorem State.teardown_eq_modWin (s : State) (w : Fin 32) (next : WinBody) :
    ∃ t, SameMap s t ∧ s.teardown w next = t.modWin w (Window.torn next) :=
  ⟨_, (((s.loseImage_sameMap w).trans (SameMap.foldl _ (State.dropStagedCommit_sameMap w) allViews _)).trans
    (State.freeWindowContexts_work _ w).sameMap).trans (State.modQueue_work _ _).sameMap, rfl⟩

theorem State.teardown_sameMap {s : State} {w : Fin 32} {next : WinBody} (h : next.geom? = (s.win w).body.geom?) :
    SameMap s (s.teardown w next) := by
  obtain ⟨t, same, e⟩ := s.teardown_eq_modWin w next
  rw [e]
  exact same.trans (State.modWin_sameMap _ _ _ (h.trans (same.geom? w).symm))

theorem State.openCatalogue_sameMap {s : State} {w : Fin 32} {g : Geometry} (hg : (s.win w).body.geom? = some g)
    (c : Catalogue) : SameMap s (s.openCatalogue w g c) := by
  unfold State.openCatalogue
  split
  · exact State.teardown_sameMap hg.symm
  · exact s.modWin_sameMap _ _ hg.symm

theorem State.enterLoaded_sameMap {s : State} {w : Fin 32} {g : Geometry} (hg : (s.win w).body.geom? = some g)
    (c : Catalogue) : SameMap s (s.enterLoaded w g c) :=
  ((((s.modWin_sameMap w _ (by exact hg.symm)).trans (ChunkWork.foldl _ (State.loadCompare_work w c _) _ _).sameMap).trans
    (State.raise_sameMap _ _)).trans (ChunkWork.foldl _ (State.raiseLoadBad_work w) _ _).sameMap).trans
    (State.reportImage_work _ _ _).sameMap

theorem State.reject_sameMap {s : State} {w : Fin 32} {g : Geometry} (hg : (s.win w).body.geom? = some g) (c : Catalogue)
    (r : Reason) : SameMap s (s.reject w g c r) := (State.teardown_sameMap (by exact hg.symm)).trans (State.raise_sameMap _ _)

theorem State.offerOpen_sameMap {s : State} {w : Fin 32} {g : Geometry} (hg : (s.win w).body.geom? = some g) (c : Catalogue)
    (i : Nat) (ds : List Digest) : SameMap s (s.offerOpen w g c i ds) := by
  have stored : ∀ d : Catalogue, SameMap s (s.modWin w fun v => { v with body := .opened g d }) ∧
      ((s.modWin w fun v => { v with body := .opened g d }).win w).body.geom? = some g := fun d =>
    ⟨s.modWin_sameMap w _ hg.symm, by rw [State.win_modWin, if_pos rfl]; rfl⟩
  simp only [State.offerOpen]
  split
  · exact State.reject_sameMap hg _ _
  · split
    · split
      · exact (stored _).1.trans (State.enterLoaded_sameMap (stored _).2 _)
      · exact (stored _).1.trans (State.reject_sameMap (stored _).2 _ _)
    · exact (stored _).1

/-! ### The owners' rulings -/

/-- An operation keeps the law of R29. -/
structure KeepsMap (s t : State) : Prop where
  law : MapLaw s → MapLaw t

theorem KeepsMap.refl (s : State) : KeepsMap s s := ⟨id⟩

theorem KeepsMap.trans {s t u : State} (h : KeepsMap s t) (k : KeepsMap t u) : KeepsMap s u := ⟨k.law ∘ h.law⟩

theorem SameMap.keeps {s t : State} (h : SameMap s t) : KeepsMap s t := ⟨h.mapLaw⟩

theorem KeepsMap.taken {s t : State} (h : KeepsMap s t) : KeepsMap s (Ruling.taken t).st := h

theorem KeepsMap.refused (s : State) (r : Reason) : KeepsMap s (Ruling.refused s r).st := .refl s

theorem State.takeOpclass_keepsMap (s : State) (bytes : List Byte) : KeepsMap s (s.takeOpclass bytes).st := by
  unfold State.takeOpclass
  split
  · exact .refl s
  · split
    · exact .refl s
    · exact SameMap.keeps (.of_blocks rfl rfl rfl)

/-- The geometry a WINDOW record gives is legal if its values are in range (R24, R25). -/
theorem windowGeometry_legal {flashBytes : Nat} {bytes : List Byte} (h : windowInRange flashBytes bytes) :
    (windowGeometry bytes).legal flashBytes := by
  obtain ⟨base, size, least, most, inside, chunk, _⟩ := h
  refine ⟨base, size, least, most, inside, ?_⟩
  show 4096 * 2 ^ field bytes 9 1 ∈ _
  generalize field bytes 9 1 = code at chunk
  interval_cases code <;> decide

theorem State.takeWindow_cases (s : State) (bytes : List Byte) :
    (∃ r, s.takeWindow bytes = .refused s r) ∨
      ∃ w t, field bytes 8 1 = (w : Fin 32).val ∧ s.takeWindow bytes = .taken t := by
  by_cases number : field bytes 8 1 < 32
  · by_cases range : windowInRange s.flashBytes bytes
    · obtain ⟨refused, taken⟩ := State.takeWindow_of_inRange (w := ⟨_, number⟩) rfl range
      cases h : s.windowRefusal ⟨_, number⟩ (field bytes 12 4) (field bytes 16 4) with
      | some r => exact .inl ⟨r, refused r h⟩
      | none => exact .inr ⟨⟨_, number⟩, _, rfl, taken h⟩
    · exact .inl ⟨_, State.takeWindow_of_not_inRange range⟩
  · exact .inl ⟨.range, by simp [State.takeWindow, windowNumber_of_le (Nat.not_lt.1 number)]⟩

/-- A WINDOW record gives a window that is no bank a legal geometry on a free range (R25). -/
theorem State.takeWindow_keepsMap (s : State) (bytes : List Byte) : KeepsMap s (s.takeWindow bytes).st := by
  rcases s.takeWindow_cases bytes with ⟨r, h⟩ | ⟨w, t, hw, h⟩ <;> rw [h]
  · exact .refused s r
  · obtain ⟨⟨range, change, free⟩, rfl⟩ := (State.takeWindow_taken_iff hw).1 h
    refine KeepsMap.taken ⟨fun law => law.modWin change.2 fun g hg => ?_⟩
    rw [WinBody.geom?_redefine, Option.some.injEq] at hg
    subst hg
    exact ⟨windowGeometry_legal range, free⟩

theorem State.takeManifest_keepsMap (s : State) (bytes : List Byte) : KeepsMap s (s.takeManifest bytes).st := by
  simp only [State.takeManifest]
  split
  · exact .refused s _
  · split
    · exact .refused s _
    · exact .refused s _
    · next hg =>
      split
      · exact .refused s _
      · exact KeepsMap.taken (State.openCatalogue_sameMap hg _).keeps

theorem State.takeDigests_keepsMap (s : State) (bytes : List Byte) : KeepsMap s (s.takeDigests bytes).st := by
  simp only [State.takeDigests]
  split
  · exact .refused s _
  · next w _ =>
    split
    · exact .refused s _
    · split
      · next g c hb =>
        have hg : (s.win w).body.geom? = some g := by rw [hb]; rfl
        split
        · exact .refused s _
        · exact KeepsMap.taken (State.offerOpen_sameMap hg _ _ _).keeps
      · split
        · exact .refused s _
        · split
          · exact .refused s _
          · exact .refl s
      all_goals exact .refused s _

/-- A DROP takes the geometry of a window that is no bank (R63). -/
theorem State.takeDrop_keepsMap (s : State) (bytes : List Byte) : KeepsMap s (s.takeDrop bytes).st := by
  simp only [State.takeDrop]
  split
  · exact .refused s _
  · next w _ =>
    split
    · exact .refused s _
    · split
      · exact .refused s _
      · next bank =>
        have unbanked := (s.isBank_eq_false_iff w).1 (Bool.eq_false_of_not_eq_true bank)
        refine KeepsMap.taken (KeepsMap.trans ?_ (State.modWin_sameMap _ _ _ (by rfl)).keeps)
        split
        · obtain ⟨t, same, e⟩ := s.teardown_eq_modWin w .vacant
          rw [e]
          refine same.keeps.trans ⟨fun law => law.modWin (fun v view hv => ?_) nofun⟩
          obtain ⟨old, hold, place⟩ := same.view hv
          obtain ⟨_, bankA, bankB⟩ := (View.place_eq_iff view old).1 place
          rw [bankA, bankB]
          exact unbanked v old hold
        · exact ⟨fun law => law.modWin unbanked nofun⟩

theorem State.takeCheck_keepsMap (s : State) (bytes : List Byte) : KeepsMap s (s.takeCheck bytes).st := by
  have check : ∀ w urgent, SameMap s (s.check w urgent) := fun w urgent =>
    ((QueueWork.foldl _ (State.checkChunk_queueWork w urgent) _ s).chunks.sameMap.trans
      (State.modWin_sameMap _ _ _ (by rfl))).trans (State.completionTest_work _ _).sameMap
  simp only [State.takeCheck]
  split
  · exact .refused s _
  · split
    · exact .refused s _
    · split
      · exact KeepsMap.taken (check _ _).keeps
      · exact .refused s _

/-- A VIEW record adds a view that fits (R129). -/
theorem State.takeView_keepsMap (s : State) (bytes : List Byte) : KeepsMap s (s.takeView bytes).st := by
  simp only [State.takeView]
  split
  · split
    · exact .refused s _
    · next passed =>
      refine KeepsMap.taken ⟨fun law => law.setView fun view e => ?_⟩
      cases e
      exact State.viewFits_of_viewRefusal passed rfl
  · exact .refused s _

theorem State.takeUnview_keepsMap (s : State) (bytes : List Byte) : KeepsMap s (s.takeUnview bytes).st := by
  simp only [State.takeUnview]
  split
  · exact .refused s _
  · split
    · exact .refused s _
    · split
      · exact .refused s _
      · exact KeepsMap.taken ⟨fun law => law.setView nofun⟩

theorem State.takeHold_keepsMap (s : State) (bytes : List Byte) : KeepsMap s (s.takeHold bytes).st := by
  simp only [State.takeHold]
  split
  · exact .refused s _
  · split
    · exact .refused s _
    · next hv =>
      split
      · exact .refused s _
      · exact KeepsMap.taken (State.rewriteView_sameMap hv _ (by rfl)).keeps

theorem State.takeRelease_keepsMap (s : State) (bytes : List Byte) : KeepsMap s (s.takeRelease bytes).st := by
  simp only [State.takeRelease]
  split
  · exact .refused s _
  · split
    · exact .refused s _
    · next hv =>
      split
      · exact KeepsMap.taken (State.release_sameMap hv).keeps
      · exact .refused s _

theorem State.takeCommit_keepsMap (mode : Mode) (addr : Nat) (s : State) (bytes : List Byte) :
    KeepsMap s (s.takeCommit mode addr bytes).st := by
  simp only [State.takeCommit]
  split
  · split
    · exact .refused s _
    · next hv => exact (State.commit_sameMap mode addr _ hv).keeps
  · exact .refused s _

theorem State.takeSnapshot_keepsMap (s : State) : KeepsMap s s.takeSnapshot.st := by
  simp only [State.takeSnapshot]
  split
  · exact KeepsMap.taken (((s.raise_sameMap _).trans (State.modCounters_work _ _).sameMap).trans
      (State.modSupply_event _ _).sameMap).keeps
  · exact KeepsMap.taken (s.raise_sameMap _).keeps

theorem State.takeAck_keepsMap (s : State) : KeepsMap s s.takeAck.st := by
  refine KeepsMap.taken (SameMap.keeps (SameMap.trans ?_
    (SameMap.foldl State.clearFillReported (fun s w => s.modWin_sameMap w _ (by rfl)) allWindows _)))
  split
  · exact .refl s
  · exact s.modReports_sameMap _

/-- Every owner keeps windows, views and the control region apart, whatever the record. -/
theorem State.dispatch_keepsMap (s : State) (k : RecKind) (mode : Mode) (addr : Nat) (bytes : List Byte) :
    KeepsMap s (s.dispatch k mode addr bytes).st := by
  cases k with
  | opclass => exact s.takeOpclass_keepsMap _
  | window => exact s.takeWindow_keepsMap _
  | manifest => exact s.takeManifest_keepsMap _
  | digests => exact s.takeDigests_keepsMap _
  | drop => exact s.takeDrop_keepsMap _
  | check => exact s.takeCheck_keepsMap _
  | budget => exact SameMap.keeps (.of_blocks rfl rfl rfl)
  | view => exact s.takeView_keepsMap _
  | unview => exact s.takeUnview_keepsMap _
  | commit => exact s.takeCommit_keepsMap _ _ _
  | hold => exact s.takeHold_keepsMap _
  | release => exact s.takeRelease_keepsMap _
  | snapshot => exact s.takeSnapshot_keepsMap
  | ack => exact s.takeAck_keepsMap
  | restart => exact .refl s

theorem State.ruleRecord_keepsMap (s : State) (k : RecKind) (mode : Mode) (addr : Nat) (bytes : List Byte) :
    KeepsMap s (s.ruleRecord k mode addr bytes).st := by
  unfold State.ruleRecord
  split
  · exact s.dispatch_keepsMap _ _ _ _
  · exact .refused s _

theorem State.rule_keepsMap (s : State) (addr : Nat) (bytes : List Byte) (taint : Bool) :
    KeepsMap s (s.rule addr bytes taint).st := by
  unfold State.rule
  split
  · exact .refused s _
  · split
    · exact .refused s _
    · split
      · exact .refused s _
      · exact s.ruleRecord_keepsMap _ _ _ _

/-! ### What stands around a ruling -/

theorem State.modParser_sameMap (s : State) (f : Parser → Parser) : SameMap s (s.modParser f) := .of_blocks rfl rfl rfl

theorem State.markRecord_sameMap (s : State) (addr : Nat) (k : MarkKind) : SameMap s (s.markRecord addr k) :=
  s.requestMark_sameMap _

theorem State.refuseRecord_sameMap (s : State) (addr : Nat) (bytes : List Byte) (r : Reason) (o : Origin) :
    SameMap s (s.refuseRecord addr bytes r o) := (s.markRecord_sameMap _ _).trans (State.raise_sameMap _ _)

theorem State.nextRecord_sameMap (s : State) (bytes : List Byte) : SameMap s (s.nextRecord bytes) :=
  (s.modParser_sameMap _).trans (State.refill_sameMap _)

/-- A record while the part runs keeps the law of R29: its owner does, and its mark, its report and the parser move nothing. -/
theorem State.liveRecord_keepsMap (s : State) (bytes : List Byte) (taint : Bool) : KeepsMap s (s.liveRecord bytes taint).st := by
  have ruled := s.rule_keepsMap s.parser.cursor bytes taint
  simp only [State.liveRecord, State.markRestart]
  split <;> rename_i hr <;> rw [hr] at ruled <;> simp only [Ruling.st] at ruled ⊢
  · exact ruled.trans ((State.refuseRecord_sameMap _ _ _ _ _).trans (State.nextRecord_sameMap _ _)).keeps
  · exact ruled.trans ((State.markRecord_sameMap _ _ _).trans (State.nextRecord_sameMap _ _)).keeps
  · exact ruled.trans (State.nextRecord_sameMap _ _).keeps
  · split <;> dsimp only
    · exact ruled.trans ((State.requestMark_sameMap _ _).trans (State.nextRecord_sameMap _ _)).keeps
    · exact ruled.trans ((State.markRecord_sameMap _ _ _).trans (State.nextRecord_sameMap _ _)).keeps
    · exact ruled.trans (State.nextRecord_sameMap _ _).keeps

theorem State.refuseAtReplay_sameMap (s : State) (addr : Nat) (bytes : List Byte) (r : Reason) :
    SameMap s (s.refuseAtReplay addr bytes r) := (s.refuseRecord_sameMap _ _ _ _).trans (State.modParser_sameMap _ _)

theorem State.replayRuling_sameMap (addr : Nat) (bytes : List Byte) (r : Ruling) :
    SameMap r.st (State.replayRuling addr bytes r) := by
  cases r with
  | taken u => exact (u.markRecord_sameMap _ _).trans (State.modParser_sameMap _ _)
  | pended u => exact u.modParser_sameMap _
  | refused u reason => exact u.refuseAtReplay_sameMap _ _ _
  | commitRefused u => exact (u.markRecord_sameMap _ _).trans (State.modParser_sameMap _ _)

theorem State.replayStanding_keepsMap (s : State) (k : RecKind) (kept : Bool) (addr : Nat) (bytes : List Byte) :
    KeepsMap s (s.replayStanding k kept addr bytes) := by
  unfold State.replayStanding
  split
  · have ruled := s.ruleRecord_keepsMap k .replayKept addr bytes
    split
    · next hr =>
      rw [hr] at ruled
      exact ruled.trans (State.modParser_sameMap _ _).keeps
    · exact ruled.trans (State.replayRuling_sameMap _ _ _).keeps
  · exact (s.ruleRecord_keepsMap _ _ _ _).trans (State.replayRuling_sameMap _ _ _).keeps

theorem State.replayRecord_keepsMap (s : State) (bytes : List Byte) : KeepsMap s (s.replayRecord bytes) := by
  refine KeepsMap.trans ?_ (State.nextRecord_sameMap _ _).keeps
  split
  · exact (s.modParser_sameMap _).keeps
  · split
    · exact (s.refuseAtReplay_sameMap _ _ _).keeps
    · split
      · exact (s.refuseAtReplay_sameMap _ _ _).keeps
      · split
        · exact (s.refuseAtReplay_sameMap _ _ _).keeps
        · split
          · exact s.replayStanding_keepsMap _ _ _ _
          · exact ((s.markRecord_sameMap _ _).trans (State.modParser_sameMap _ _)).keeps

/-! ### Bytes of the command area -/

theorem State.breakParser_sameMap (s : State) (cause : ParseCause) (o : Origin) (first : Nat) :
    SameMap s (s.breakParser cause o first) := (s.modParser_sameMap _).trans (State.raise_sameMap _ _)

theorem State.collected_keepsMap (s : State) (o : Origin) (first : Nat) (bytes : List Byte) (taint : Bool) :
    KeepsMap s (s.collected o first bytes taint).st := by
  have held : KeepsMap s (s.modParser fun p => { p with phase := .inRecord bytes taint }) := (s.modParser_sameMap _).keeps
  have ended : KeepsMap s (s.modParser fun p => { p with phase := .ready }) := (s.modParser_sameMap _).keeps
  unfold State.collected
  dsimp only
  split
  · split
    · exact ended
    · split
      · exact (s.breakParser_sameMap _ _ _).keeps
      · split
        · exact (s.breakParser_sameMap _ _ _).keeps
        · exact held
  · split
    · cases o with
      | live =>
        have live := s.liveRecord_keepsMap bytes taint
        dsimp only
        split
        · exact live
        · exact live
      | replay =>
        dsimp only [FeedResult.st]
        exact s.replayRecord_keepsMap bytes
    · exact held

theorem State.feed_keepsMap (s : State) (o : Origin) (first : Nat) (b : Byte) : KeepsMap s (s.feed o first b).st := by
  unfold State.feed
  dsimp only
  split
  · exact .refl s
  · exact s.collected_keepsMap _ _ _ _
  · exact s.collected_keepsMap _ _ _ _

theorem State.feedLive_keepsMap (first : Nat) (bytes : List Byte) (s : State) : KeepsMap s (s.feedLive first bytes).st := by
  induction bytes generalizing s with
  | nil => exact .refl s
  | cons b bs ih =>
    have one := s.feed_keepsMap .live first b
    unfold State.feedLive
    split <;> rename_i hf <;> rw [hf] at one
    · exact one.trans (ih _)
    all_goals exact one

theorem State.feedReplay_keepsMap (bytes : List Byte) (s : State) : KeepsMap s (s.feedReplay bytes).1 := by
  induction bytes generalizing s with
  | nil => exact .refl s
  | cons b bs ih =>
    have one := s.feed_keepsMap .replay 0 b
    unfold State.feedReplay
    split <;> rename_i hf <;> rw [hf] at one
    · split
      · exact one
      · exact one.trans (ih _)
    all_goals exact one

theorem State.commandProgram_keepsMap (s : State) (addr : Nat) (data : List Byte) :
    KeepsMap s (s.commandProgram addr data).st := by
  unfold State.commandProgram
  split
  · exact .refl s
  · split
    · exact (s.breakParser_sameMap _ _ _).keeps
    · split
      · exact (s.breakParser_sameMap _ _ _).keeps
      · exact s.feedLive_keepsMap _ _

end Sys2Proof.Machine
end

section
/-! Each step of the part keeps windows, views and the control region apart (R29). -/

namespace Sys2Proof.Machine

/-! ### The host's commands -/

theorem State.modBridge_sameMap (s : State) (f : Bridge → Bridge) : SameMap s (s.modBridge f) := .of_blocks rfl rfl rfl

theorem State.issue_sameMap (s : State) (b : List FlashTxn) : SameMap s (s.issue b) := .of_blocks rfl rfl rfl

theorem State.drive_sameMap (s : State) (a : List Byte) (b : List FlashTxn) : SameMap s (s.drive a b) :=
  .of_blocks rfl rfl rfl

theorem State.takeOpcode_sameMap (s : State) : SameMap s s.takeOpcode := s.modBridge_sameMap _

theorem State.releaseSelect_sameMap (s : State) (c : Collected) (addrLen : Nat) : SameMap s (s.releaseSelect c addrLen) := by
  unfold State.releaseSelect
  split
  · exact ((s.withhold_work _ _ _ _).sameMap.trans (State.drive_sameMap _ _ _)).trans (State.settleClaim_sameMap _)
  · exact ((s.modBridge_sameMap _).trans (State.drive_sameMap _ _ _)).trans (State.settleClaim_sameMap _)

theorem State.readCommand_sameMap (s : State) (x : HostXfer) : SameMap s (s.readCommand x) := by
  rw [s.readCommand_eq]
  exact ((s.takeOpcode_sameMap.trans (s.readRun_event x).sameMap).trans (State.drive_sameMap _ _ _)).trans
    (State.settleClaim_sameMap _)

/-- No command of the host moves a window or a view, whatever its class. -/
theorem State.hostCommand_sameMap (s : State) (x : HostXfer) : SameMap s (s.hostCommand x) := by
  have passed : SameMap s (s.takeOpcode.forwardRaw x) := s.takeOpcode_sameMap.trans (State.drive_sameMap _ _ _)
  have collected : ∀ c n, SameMap s (s.takeOpcode.releaseSelect c n) := fun c n =>
    s.takeOpcode_sameMap.trans (State.releaseSelect_sameMap _ c n)
  unfold State.hostCommand
  split
  · exact s.drive_sameMap _ _
  · exact (s.takeOpcode_sameMap.trans (State.drive_sameMap _ _ _)).trans (State.settleClaim_sameMap _)
  · exact s.readCommand_sameMap x
  · exact collected _ _
  · exact collected _ _
  · exact collected _ _
  · exact collected _ _
  · exact collected _ _
  · exact (passed.trans (SameMap.foldl _ State.watchStatus_sameMap x.flash _)).trans (State.settleClaim_sameMap _)
  · exact (passed.trans (State.modBridge_sameMap _ _)).trans (State.settleClaim_sameMap _)
  · exact passed.trans (State.settleClaim_sameMap _)
  · exact ((s.takeOpcode_sameMap.trans (State.withhold_work _ _ _ _ _).sameMap).trans (State.drive_sameMap _ _ _)).trans
      (State.settleClaim_sameMap _)

/-! ### Forwarding -/

theorem State.restartIf_keepsMap (s : State) (now : Bool) : KeepsMap s (s.restartIf now) := by
  unfold State.restartIf
  split
  · exact ⟨fun _ => (State.resetWith_blank _ _ _ _).mapLaw⟩
  · exact .refl s

theorem State.restartQuiet_sameMap (s : State) (w : Fin 32) : SameMap s (s.restartQuiet w) := by
  unfold State.restartQuiet
  split
  · exact s.modWin_sameMap w _ (by rfl)
  · exact .refl s

/-- What stands behind an event on the flash: a refill, the claim count and perhaps a restart (R121, R16, R165). -/
theorem State.closed_keepsMap (s : State) (now : Bool) : KeepsMap s (s.refill.settleClaim.restartIf now) :=
  ((s.refill_sameMap).trans (State.settleClaim_sameMap _)).keeps.trans (State.restartIf_keepsMap _ _)

theorem State.landProgram_keepsMap (s : State) (c : Collected) : KeepsMap s (s.landProgram c).st := by
  unfold State.landProgram
  split
  · next w _ =>
    obtain ⟨u, work, e⟩ := s.programWindow_work w c
    dsimp only
    rw [e]
    exact (work.sameMap.trans (u.restartQuiet_sameMap w)).keeps
  · split
    · exact s.commandProgram_keepsMap _ _
    · exact .refl s

theorem State.forwardProgram_keepsMap (s : State) (c : Collected) : KeepsMap s (s.forwardProgram c) := by
  unfold State.forwardProgram
  split
  · exact ((s.modBridge_sameMap _).trans (State.settleClaim_sameMap _)).keeps
  · have busy : SameMap s (s.emptyBuffer.busyWithHost (c.touched s.flashBytes)) :=
      (s.modBridge_sameMap _).trans (State.modBridge_sameMap _ _)
    exact (busy.keeps.trans (State.landProgram_keepsMap _ c)).trans (State.closed_keepsMap _ _)

/-- A view whose pending commit loses its record stands where it stood (R162). -/
theorem View.loseRecord_place (cover : Nat × Nat) (v : View) : (v.loseRecord cover).place = v.place := by
  unfold View.loseRecord
  split
  · split <;> rfl
  · rfl

theorem State.loseRecord_sameMap (cover : Nat × Nat) (s : State) (v : Fin 8) : SameMap s (s.loseRecord cover v) := by
  refine s.setView_sameMap v _ ?_
  rw [Option.map_map]
  exact congrArg (fun f => (s.view v).map f) (funext (View.loseRecord_place cover))

theorem State.eraseMeetsCommand_sameMap (s : State) (cover : Nat × Nat) : SameMap s (s.eraseMeetsCommand cover).st := by
  unfold State.eraseMeetsCommand
  split
  · exact ((s.modParser_sameMap _).trans (State.modReports_sameMap _ _)).trans
      (SameMap.foldl _ (State.loseRecord_sameMap cover) allViews _)
  · exact .refl s

theorem State.eraseMeetsReport_sameMap (s : State) (cover : Nat × Nat) : SameMap s (s.eraseMeetsReport cover) := by
  unfold State.eraseMeetsReport State.eraseReportArea
  split
  · split
    · exact .refl s
    · exact s.modReports_sameMap _
  · exact .refl s

theorem State.eraseWindows_sameMap (s : State) (cover : Nat × Nat) : SameMap s (s.eraseWindows cover) := by
  refine (s.eraseWindow_foldl_work cover).sameMap.trans (SameMap.foldl _ (fun t w => ?_) allWindows _)
  unfold State.eraseTouches
  split
  · exact t.restartQuiet_sameMap w
  · exact .refl t

theorem State.forwardErase_keepsMap (s : State) (c : Collected) : KeepsMap s (s.forwardErase c) := by
  have busy : SameMap s (s.emptyBuffer.busyWithHost (c.touched s.flashBytes)) :=
    (s.modBridge_sameMap _).trans (State.modBridge_sameMap _ _)
  exact (((busy.trans (State.eraseWindows_sameMap _ _)).trans (State.eraseMeetsCommand_sameMap _ _)).trans
    (State.eraseMeetsReport_sameMap _ _)).keeps.trans (State.closed_keepsMap _ _)

/-! ### Internal programs, start-up reads and read-back -/

theorem State.startOp_sameMap (s : State) (op : PortOp) (txns : List FlashTxn) : SameMap s (s.startOp op txns) :=
  .of_blocks rfl rfl rfl

theorem State.completeProgram_sameMap (s : State) (kind : ProgramKind) : SameMap s (s.completeProgram kind).st := by
  cases kind <;> exact .of_blocks rfl rfl rfl

theorem State.pollProgram_keepsMap (s : State) (kind : ProgramKind) (byte : Byte) : KeepsMap s (s.pollProgram kind byte) := by
  have watched : SameMap s ((s.issue [statusTxn]).watchStatus byte) := (s.issue_sameMap _).trans (State.watchStatus_sameMap _ _)
  simp only [State.pollProgram]
  split
  · exact (watched.trans (State.settleClaim_sameMap _)).keeps
  · exact ((watched.trans (State.completeProgram_sameMap _ _)).trans (State.settleClaim_sameMap _)).keeps.trans
      (State.restartIf_keepsMap _ _)

theorem State.timeOut_sameMap (s : State) : SameMap s s.timeOut.st := .of_blocks rfl rfl rfl

theorem State.tickProgram_sameMap (s : State) : SameMap s s.tickProgram.st := by
  unfold State.tickProgram
  split
  · split
    · exact s.timeOut_sameMap
    · exact .of_blocks rfl rfl rfl
  all_goals exact .refl s

theorem State.endReplay_sameMap (s : State) (ended : ReplayEnd) : SameMap s (s.endReplay ended) := .of_blocks rfl rfl rfl

theorem State.startupBytes_keepsMap (s : State) (purpose : ReadPurpose) (bytes : List Byte) :
    KeepsMap s (s.startupBytes purpose bytes) := by
  cases purpose with
  | scan => exact (s.modReports_sameMap _).keeps
  | replay =>
    have replayed := State.feedReplay_keepsMap bytes s
    simp only [State.startupBytes, State.replayBytes]
    split <;> rename_i hf <;> rw [hf] at replayed
    · exact replayed.trans (State.endReplay_sameMap _ _).keeps
    · exact replayed

theorem State.issueBurst_sameMap (s : State) (r : ReadbackCtx) : SameMap s (s.issueBurst r) := .of_blocks rfl rfl rfl

theorem State.endBurst_sameMap (s : State) (r : ReadbackCtx) (bytes : List Byte) : SameMap s (s.endBurst r bytes) := by
  refine SameMap.trans ?_ (State.settleClaim_sameMap _)
  split
  · exact ((((s.setReadback_work _).trans (State.unlink_work _ _ _)).trans (State.verdict_work _ _ _ _ _)).trans
      (State.closeEvent_work _ _ _)).sameMap
  · exact (s.setReadback_work _).sameMap

theorem State.tickAll_keepsMap (s : State) : KeepsMap s s.tickAll :=
  ((s.tickTimers_event.sameMap.trans (State.tickProgram_sameMap _)).trans (State.settleClaim_sameMap _)).keeps.trans
    (State.restartIf_keepsMap _ _)

/-! ### The step -/

/-- Each row of the table keeps the law of R29. -/
theorem exec_keepsMap (i : Instr) (s t : State) (h : exec i s = .next t) : KeepsMap s t := by
  have host : ∀ {x : HostXfer}, i ∈ hostRows x → KeepsMap s t := by
    intro x hi
    rw [exec_of_hostRow hi] at h
    cases h
    exact (s.hostCommand_sameMap x).keeps
  cases i with
  | read x | program x | erase4K x | erase32K x | erase64K x | eraseAll x | status x | writeEnable x | pass x | block x
  | commandDiscard x | opcodeWhileNotReady x => exact host (x := x) (by simp [hostRows])
  | programForward =>
    simp only [exec, execProgramForward] at h
    split at h
    · split at h <;> cases h
      · exact s.forwardProgram_keepsMap _
      · exact .refl s
    · cases h; exact .refl s
  | eraseForward =>
    simp only [exec, execEraseForward] at h
    split at h
    · split at h <;> cases h
      · exact .refl s
      · exact s.forwardErase_keepsMap _
    · cases h; exact .refl s
  | statusPoll waiting byte =>
    simp only [exec, execStatusPoll] at h
    split at h <;> cases h
    · exact (((s.issue_sameMap _).trans (State.watchStatus_sameMap _ _)).trans (State.settleClaim_sameMap _)).keeps
    · exact .refl s
  | markProgram waiting =>
    simp only [exec, execMarkProgram] at h
    split at h
    · split at h <;> cases h
      · exact (s.startOp_sameMap _ _).keeps
      · exact .refl s
    · cases h; exact .refl s
  | reportProgram waiting =>
    simp only [exec, execReportProgram] at h
    split at h
    · split at h <;> cases h
      · exact ((s.startOp_sameMap _ _).trans (State.modReports_sameMap _ _)).keeps
      · exact .refl s
    · cases h; exact .refl s
  | internalProgramTransactionEnd =>
    simp only [exec, execInternalProgramTransactionEnd] at h
    split at h <;> cases h
    · exact ((s.modBridge_sameMap _).trans (State.settleClaim_sameMap _)).keeps
    all_goals exact .refl s
  | internalProgramPoll byte =>
    simp only [exec, execInternalProgramPoll] at h
    split at h <;> cases h
    · exact s.pollProgram_keepsMap _ _
    all_goals exact .refl s
  | internalProgramTimeout =>
    simp only [exec, execInternalProgramTimeout] at h
    split at h
    · split at h <;> cases h
      · exact (s.timeOut_sameMap.trans (State.settleClaim_sameMap _)).keeps.trans (State.restartIf_keepsMap _ _)
      · exact .refl s
    all_goals cases h; exact .refl s
  | startupRead waiting =>
    simp only [exec, execStartupRead] at h
    split at h
    · split at h <;> cases h
      · exact (s.startOp_sameMap _ _).keeps
      · exact .refl s
    · cases h; exact .refl s
  | startupReadEnd bytes =>
    simp only [exec, execStartupReadEnd] at h
    split at h
    · split at h <;> cases h
      · exact ((s.modBridge_sameMap _).keeps.trans (State.startupBytes_keepsMap _ _ _)).trans
          (State.settleClaim_sameMap _).keeps
      · exact .refl s
    all_goals cases h; exact .refl s
  | readbackStart => cases h; exact s.takeHead_event.sameMap.keeps
  | readbackBurst waiting =>
    simp only [exec, execReadbackBurst] at h
    split at h
    · split at h <;> cases h
      · exact (s.issueBurst_sameMap _).keeps
      · exact .refl s
    · cases h; exact .refl s
  | readbackBurstEnd bytes =>
    simp only [exec, execReadbackBurstEnd] at h
    split at h
    · split at h <;> cases h
      · exact (s.endBurst_sameMap _ _).keeps
      · exact .refl s
    · cases h; exact .refl s
  | tick =>
    simp only [exec, execTick] at h
    split at h <;> obtain rfl := Host.Outcome.next.inj h
    · exact .refl s
    · exact s.tickAll_keepsMap
  | quietTimerExpiry window =>
    simp only [exec, execQuietTimerExpiry] at h
    split at h
    · cases h; exact .refl s
    · next w _ =>
      split at h
      · split at h <;> obtain rfl := Host.Outcome.next.inj h
        · exact (((s.modWin_sameMap w _ (by rfl)).trans (State.refill_sameMap _)).trans (State.settleClaim_sameMap _)).keeps
        · exact .refl s
      · cases h; exact .refl s
  | bandChange band =>
    simp only [exec, execBandChange] at h
    split at h <;> cases h
    · exact .refl s
    · exact (s.changeBand_event band).sameMap.keeps
  | settleTimerExpiry =>
    simp only [exec, execSettleTimerExpiry] at h
    split at h
    · split at h <;> obtain rfl := Host.Outcome.next.inj h
      · exact ((s.enterNormal_event _).sameMap.trans (State.settleClaim_sameMap _)).keeps
      · exact .refl s
    all_goals cases h; exact .refl s
  | powerOnReset pins band => cases h; exact ⟨fun _ => (State.resetWith_blank _ _ _ _).mapLaw⟩
  | resetPinAssert => cases h; exact ⟨fun _ => (State.cleared_blank _ _ _ _ .held).mapLaw⟩
  | resetPinRelease pins band =>
    simp only [exec, execResetPinRelease] at h
    split at h <;> cases h
    · exact ⟨fun _ => (State.resetWith_blank _ _ _ _).mapLaw⟩
    · exact SameMap.keeps (.of_blocks rfl rfl rfl)

/-- Settles O56. -/
theorem windowsViewsAndControlRegionStayApart : Obligations.WindowsViewsAndControlRegionStayApart := by
  intro s t windows views h
  have law : MapLaw t := by
    unfold step at h
    split at h
    · cases h; exact ⟨windows, views⟩
    · next c rest _ => exact (exec_keepsMap c { s with pending := rest } t h).law ⟨windows, views⟩
  exact ⟨law.windows, law.views⟩

end Sys2Proof.Machine
end

section
/-! What a step can be to the catalogues (R46): operations that leave each window's outline, records that come to their owners, and
resets. Each law of the windows' outlines is then kept if every owner keeps it and a reset establishes it. -/

namespace Sys2Proof.Machine

/-- A way from one state to another made of operations that change nothing of a window but its chunk records and its flags, of records
that come to their owners, and of resets. -/
inductive Course : State → State → Prop
  | still {s t : State} (h : ∀ w, (t.win w).body.outline = (s.win w).body.outline) : Course s t
  | ruled (s : State) (k : RecKind) (mode : Mode) (addr : Nat) (bytes : List Byte) : Course s (s.dispatch k mode addr bytes).st
  | reset {s t : State} (h : Blank t) : Course s t
  | trans {s t u : State} (h : Course s t) (k : Course t u) : Course s u

theorem Course.of_windows {s t : State} (h : t.windows = s.windows) : Course s t := .still fun w => by rw [State.win, h]; rfl

theorem Course.refl (s : State) : Course s s := .of_windows rfl

theorem EventWork.course {s t : State} (h : EventWork s t) : Course s t := .still h.outline

theorem ChunkWork.course {s t : State} (h : ChunkWork s t) : Course s t := .still h.outline

theorem State.modBridge_course (s : State) (f : Bridge → Bridge) : Course s (s.modBridge f) := .of_windows rfl

theorem State.modParser_course (s : State) (f : Parser → Parser) : Course s (s.modParser f) := .of_windows rfl

theorem State.drive_course (s : State) (a : List Byte) (b : List FlashTxn) : Course s (s.drive a b) := .of_windows rfl

theorem State.raise_course (s : State) (r : Report) : Course s (s.raise r) := .of_windows rfl

theorem State.settleClaim_course (s : State) : Course s s.settleClaim := s.settleClaim_event.course

theorem State.requestMark_windows (s : State) (m : Mark) : (s.requestMark m).windows = s.windows := by rw [s.requestMark_eq]

theorem State.markRecord_course (s : State) (addr : Nat) (k : MarkKind) : Course s (s.markRecord addr k) :=
  .of_windows (s.requestMark_windows _)

/-! ### Records -/

theorem State.refuseRecord_course (s : State) (addr : Nat) (bytes : List Byte) (r : Reason) (o : Origin) :
    Course s (s.refuseRecord addr bytes r o) := (s.markRecord_course _ _).trans (State.raise_course _ _)

theorem State.nextRecord_course (s : State) (bytes : List Byte) : Course s (s.nextRecord bytes) :=
  (s.modParser_course _).trans (State.refill_event _).course

theorem State.ruleRecord_course (s : State) (k : RecKind) (mode : Mode) (addr : Nat) (bytes : List Byte) :
    Course s (s.ruleRecord k mode addr bytes).st := by
  unfold State.ruleRecord
  split
  · exact .ruled s k mode addr bytes
  · exact .refl s

theorem State.rule_course (s : State) (addr : Nat) (bytes : List Byte) (taint : Bool) :
    Course s (s.rule addr bytes taint).st := by
  unfold State.rule
  split
  · exact .refl s
  · split
    · exact .refl s
    · split
      · exact .refl s
      · exact s.ruleRecord_course _ _ _ _

/-- A record while the part runs: its owner's ruling, its mark or its report, and the refill (R161). -/
theorem State.liveRecord_course (s : State) (bytes : List Byte) (taint : Bool) : Course s (s.liveRecord bytes taint).st := by
  have ruled := s.rule_course s.parser.cursor bytes taint
  simp only [State.liveRecord, State.markRestart]
  split <;> rename_i hr <;> rw [hr] at ruled <;> simp only [Ruling.st] at ruled ⊢
  · exact ruled.trans ((State.refuseRecord_course _ _ _ _ _).trans (State.nextRecord_course _ _))
  · exact ruled.trans ((State.markRecord_course _ _ _).trans (State.nextRecord_course _ _))
  · exact ruled.trans (State.nextRecord_course _ _)
  · split <;> dsimp only
    · exact ruled.trans (.trans (.of_windows (State.requestMark_windows _ _)) (State.nextRecord_course _ _))
    · exact ruled.trans ((State.markRecord_course _ _ _).trans (State.nextRecord_course _ _))
    · exact ruled.trans (State.nextRecord_course _ _)

theorem State.refuseAtReplay_course (s : State) (addr : Nat) (bytes : List Byte) (r : Reason) :
    Course s (s.refuseAtReplay addr bytes r) := (s.refuseRecord_course _ _ _ _).trans (State.modParser_course _ _)

theorem State.replayRuling_course (addr : Nat) (bytes : List Byte) (r : Ruling) :
    Course r.st (State.replayRuling addr bytes r) := by
  cases r with
  | taken u => exact (u.markRecord_course _ _).trans (State.modParser_course _ _)
  | pended u => exact u.modParser_course _
  | refused u reason => exact u.refuseAtReplay_course _ _ _
  | commitRefused u => exact (u.markRecord_course _ _).trans (State.modParser_course _ _)

theorem State.replayStanding_course (s : State) (k : RecKind) (kept : Bool) (addr : Nat) (bytes : List Byte) :
    Course s (s.replayStanding k kept addr bytes) := by
  unfold State.replayStanding
  split
  · have ruled := s.ruleRecord_course k .replayKept addr bytes
    split
    · next hr =>
      rw [hr] at ruled
      exact ruled.trans (State.modParser_course _ _)
    · exact ruled.trans (State.replayRuling_course _ _ _)
  · exact (s.ruleRecord_course _ _ _ _).trans (State.replayRuling_course _ _ _)

theorem State.replayRecord_course (s : State) (bytes : List Byte) : Course s (s.replayRecord bytes) := by
  refine .trans ?_ (State.nextRecord_course _ _)
  split
  · exact s.modParser_course _
  · split
    · exact s.refuseAtReplay_course _ _ _
    · split
      · exact s.refuseAtReplay_course _ _ _
      · split
        · exact s.refuseAtReplay_course _ _ _
        · split
          · exact s.replayStanding_course _ _ _ _
          · exact (s.markRecord_course _ _).trans (State.modParser_course _ _)

/-! ### Bytes of the command area -/

theorem State.collected_course (s : State) (o : Origin) (first : Nat) (bytes : List Byte) (taint : Bool) :
    Course s (s.collected o first bytes taint).st := by
  unfold State.collected
  dsimp only
  split
  · split
    · exact .of_windows rfl
    · split
      · exact .of_windows rfl
      · split <;> exact .of_windows rfl
  · split
    · cases o with
      | live =>
        have live := s.liveRecord_course bytes taint
        dsimp only
        split <;> exact live
      | replay =>
        dsimp only [FeedResult.st]
        exact s.replayRecord_course bytes
    · exact .of_windows rfl

theorem State.feed_course (s : State) (o : Origin) (first : Nat) (b : Byte) : Course s (s.feed o first b).st := by
  unfold State.feed
  dsimp only
  split
  · exact .refl s
  · exact s.collected_course _ _ _ _
  · exact s.collected_course _ _ _ _

theorem State.feedLive_course (first : Nat) (bytes : List Byte) (s : State) : Course s (s.feedLive first bytes).st := by
  induction bytes generalizing s with
  | nil => exact .refl s
  | cons b bs ih =>
    have one := s.feed_course .live first b
    unfold State.feedLive
    split <;> rename_i hf <;> rw [hf] at one
    · exact one.trans (ih _)
    all_goals exact one

theorem State.feedReplay_course (bytes : List Byte) (s : State) : Course s (s.feedReplay bytes).1 := by
  induction bytes generalizing s with
  | nil => exact .refl s
  | cons b bs ih =>
    have one := s.feed_course .replay 0 b
    unfold State.feedReplay
    split <;> rename_i hf <;> rw [hf] at one
    · split
      · exact one
      · exact one.trans (ih _)
    all_goals exact one

/-! ### The host's commands and forwarding -/

theorem State.watchStatus_windows (s : State) (byte : Byte) : (s.watchStatus byte).windows = s.windows := by
  unfold State.watchStatus
  split <;> rfl

theorem State.releaseSelect_course (s : State) (c : Collected) (addrLen : Nat) : Course s (s.releaseSelect c addrLen) := by
  unfold State.releaseSelect
  split
  · exact ((s.withhold_work _ _ _ _).course.trans (State.drive_course _ _ _)).trans (State.settleClaim_course _)
  · exact ((s.modBridge_course _).trans (State.drive_course _ _ _)).trans (State.settleClaim_course _)

theorem State.watchStatuses_windows (bytes : List Byte) (s : State) :
    (bytes.foldl (fun s byte => s.watchStatus byte) s).windows = s.windows := by
  induction bytes generalizing s with
  | nil => rfl
  | cons b bs ih => exact (ih _).trans (s.watchStatus_windows b)

/-- A host command changes no window's outline, whatever its class. -/
theorem State.hostCommand_course (s : State) (x : HostXfer) : Course s (s.hostCommand x) := by
  have opened : Course s s.takeOpcode := s.modBridge_course _
  have passed : Course s (s.takeOpcode.forwardRaw x) := opened.trans (State.drive_course _ _ _)
  have collected : ∀ c n, Course s (s.takeOpcode.releaseSelect c n) := fun c n =>
    opened.trans (State.releaseSelect_course _ c n)
  unfold State.hostCommand
  split
  · exact s.drive_course _ _
  · exact (opened.trans (State.drive_course _ _ _)).trans (State.settleClaim_course _)
  · rw [s.readCommand_eq]
    exact ((opened.trans (s.readRun_event x).course).trans (State.drive_course _ _ _)).trans (State.settleClaim_course _)
  · exact collected _ _
  · exact collected _ _
  · exact collected _ _
  · exact collected _ _
  · exact collected _ _
  · exact (passed.trans (.of_windows (State.watchStatuses_windows x.flash _))).trans (State.settleClaim_course _)
  · exact (passed.trans (State.modBridge_course _ _)).trans (State.settleClaim_course _)
  · exact passed.trans (State.settleClaim_course _)
  · exact ((opened.trans (State.withhold_work _ _ _ _ _).course).trans (State.drive_course _ _ _)).trans
      (State.settleClaim_course _)

theorem State.restartIf_course (s : State) (now : Bool) : Course s (s.restartIf now) := by
  unfold State.restartIf
  split
  · exact .reset (State.resetWith_blank _ _ _ _)
  · exact .refl s

/-- What stands behind an event on the flash: a refill, the claim count and perhaps a restart (R16, R121, R165). -/
theorem State.closed_course (s : State) (now : Bool) : Course s (s.refill.settleClaim.restartIf now) :=
  (s.refill_event.course.trans (State.settleClaim_course _)).trans (State.restartIf_course _ _)

theorem State.restartQuiet_course (s : State) (w : Fin 32) : Course s (s.restartQuiet w) := by
  unfold State.restartQuiet
  split
  · exact (s.modWin_event w _ (by rfl)).course
  · exact .refl s

theorem State.landProgram_course (s : State) (c : Collected) : Course s (s.landProgram c).st := by
  unfold State.landProgram
  split
  · next w _ =>
    obtain ⟨u, work, e⟩ := s.programWindow_work w c
    dsimp only
    rw [e]
    exact work.course.trans (u.restartQuiet_course w)
  · split
    · unfold State.commandProgram
      split
      · exact .refl s
      · split
        · exact .of_windows rfl
        · split
          · exact .of_windows rfl
          · exact State.feedLive_course _ _ s
    · exact .refl s

theorem State.forwardProgram_course (s : State) (c : Collected) : Course s (s.forwardProgram c) := by
  unfold State.forwardProgram
  split
  · exact (s.modBridge_course _).trans (State.settleClaim_course _)
  · have busy : Course s (s.emptyBuffer.busyWithHost (c.touched s.flashBytes)) := .of_windows rfl
    exact (busy.trans (State.landProgram_course _ c)).trans (State.closed_course _ _)

theorem State.loseRecords_windows (cover : Nat × Nat) (l : List (Fin 8)) (s : State) :
    (l.foldl (State.loseRecord cover) s).windows = s.windows := by
  induction l generalizing s with
  | nil => rfl
  | cons v l ih => exact ih _

theorem State.eraseMeetsCommand_windows (s : State) (cover : Nat × Nat) :
    (s.eraseMeetsCommand cover).st.windows = s.windows := by
  unfold State.eraseMeetsCommand
  split
  · exact State.loseRecords_windows cover allViews _
  · rfl

theorem State.eraseMeetsReport_windows (s : State) (cover : Nat × Nat) : (s.eraseMeetsReport cover).windows = s.windows := by
  unfold State.eraseMeetsReport State.eraseReportArea
  split
  · split <;> rfl
  · rfl

theorem State.eraseWindows_course (s : State) (cover : Nat × Nat) : Course s (s.eraseWindows cover) := by
  have touched : ∀ (l : List (Fin 32)) (t : State), Course t (l.foldl (State.eraseTouches cover) t) := by
    intro l
    induction l with
    | nil => exact fun t => .refl t
    | cons w l ih =>
      refine fun t => .trans ?_ (ih _)
      unfold State.eraseTouches
      split
      · exact t.restartQuiet_course w
      · exact .refl t
  exact (s.eraseWindow_foldl_work cover).course.trans (touched allWindows _)

theorem State.forwardErase_course (s : State) (c : Collected) : Course s (s.forwardErase c) := by
  have busy : Course s (s.emptyBuffer.busyWithHost (c.touched s.flashBytes)) := .of_windows rfl
  exact (((busy.trans (State.eraseWindows_course _ _)).trans (.of_windows (State.eraseMeetsCommand_windows _ _))).trans
    (.of_windows (State.eraseMeetsReport_windows _ _))).trans (State.closed_course _ _)

/-! ### Internal programs, start-up reads and read-back -/

theorem State.pollProgram_course (s : State) (kind : ProgramKind) (byte : Byte) : Course s (s.pollProgram kind byte) := by
  have watched : Course s ((s.issue [statusTxn]).watchStatus byte) := .of_windows (State.watchStatus_windows _ _)
  simp only [State.pollProgram]
  split
  · exact watched.trans (State.settleClaim_course _)
  · have completed : Course s (State.completeProgram kind _).st := watched.trans (.of_windows (by cases kind <;> rfl))
    exact (completed.trans (State.settleClaim_course _)).trans (State.restartIf_course _ _)

theorem State.tickProgram_windows (s : State) : s.tickProgram.st.windows = s.windows := by
  unfold State.tickProgram
  split
  · split <;> rfl
  all_goals rfl

theorem State.startupBytes_course (s : State) (purpose : ReadPurpose) (bytes : List Byte) :
    Course s (s.startupBytes purpose bytes) := by
  cases purpose with
  | scan => exact .of_windows rfl
  | replay =>
    have replayed := State.feedReplay_course bytes s
    simp only [State.startupBytes, State.replayBytes]
    split <;> rename_i hf <;> rw [hf] at replayed
    · exact replayed.trans (.of_windows (t := State.endReplay _ _) rfl)
    · exact replayed

theorem State.endBurst_course (s : State) (r : ReadbackCtx) (bytes : List Byte) : Course s (s.endBurst r bytes) := by
  refine .trans ?_ (State.settleClaim_course _)
  split
  · exact ((((s.setReadback_work _).trans (State.unlink_work _ _ _)).trans (State.verdict_work _ _ _ _ _)).trans
      (State.closeEvent_work _ _ _)).course
  · exact .of_windows rfl

/-! ### The step -/

/-- Each row of the table is a course. -/
theorem exec_course (i : Instr) (s t : State) (h : exec i s = .next t) : Course s t := by
  have host : ∀ {x : HostXfer}, i ∈ hostRows x → Course s t := by
    intro x hi
    rw [exec_of_hostRow hi] at h
    cases h
    exact s.hostCommand_course x
  cases i with
  | read x | program x | erase4K x | erase32K x | erase64K x | eraseAll x | status x | writeEnable x | pass x | block x
  | commandDiscard x | opcodeWhileNotReady x => exact host (x := x) (by simp [hostRows])
  | programForward =>
    simp only [exec, execProgramForward] at h
    split at h
    · split at h <;> cases h
      · exact s.forwardProgram_course _
      · exact .refl s
    · cases h; exact .refl s
  | eraseForward =>
    simp only [exec, execEraseForward] at h
    split at h
    · split at h <;> cases h
      · exact .refl s
      · exact s.forwardErase_course _
    · cases h; exact .refl s
  | statusPoll waiting byte =>
    simp only [exec, execStatusPoll] at h
    split at h <;> cases h
    · exact .trans (.of_windows (State.watchStatus_windows (s.issue [statusTxn]) byte)) (State.settleClaim_course _)
    · exact .refl s
  | markProgram waiting =>
    simp only [exec, execMarkProgram] at h
    split at h
    · split at h <;> cases h <;> exact .of_windows rfl
    · cases h; exact .refl s
  | reportProgram waiting =>
    simp only [exec, execReportProgram] at h
    split at h
    · split at h <;> cases h <;> exact .of_windows rfl
    · cases h; exact .refl s
  | internalProgramTransactionEnd =>
    simp only [exec, execInternalProgramTransactionEnd] at h
    split at h <;> cases h
    · exact (s.modBridge_course _).trans (State.settleClaim_course _)
    all_goals exact .refl s
  | internalProgramPoll byte =>
    simp only [exec, execInternalProgramPoll] at h
    split at h <;> cases h
    · exact s.pollProgram_course _ _
    all_goals exact .refl s
  | internalProgramTimeout =>
    simp only [exec, execInternalProgramTimeout] at h
    split at h
    · split at h <;> cases h
      · have ended : Course s s.timeOut.st := .of_windows rfl
        exact (ended.trans (State.settleClaim_course _)).trans (State.restartIf_course _ _)
      · exact .refl s
    all_goals cases h; exact .refl s
  | startupRead waiting =>
    simp only [exec, execStartupRead] at h
    split at h
    · split at h <;> cases h <;> exact .of_windows rfl
    · cases h; exact .refl s
  | startupReadEnd bytes =>
    simp only [exec, execStartupReadEnd] at h
    split at h
    · split at h <;> cases h
      · exact ((s.modBridge_course _).trans (State.startupBytes_course _ _ _)).trans (State.settleClaim_course _)
      · exact .refl s
    all_goals cases h; exact .refl s
  | readbackStart => cases h; exact s.takeHead_event.course
  | readbackBurst waiting =>
    simp only [exec, execReadbackBurst] at h
    split at h
    · split at h <;> cases h <;> exact .of_windows rfl
    · cases h; exact .refl s
  | readbackBurstEnd bytes =>
    simp only [exec, execReadbackBurstEnd] at h
    split at h
    · split at h <;> cases h
      · exact s.endBurst_course _ _
      · exact .refl s
    · cases h; exact .refl s
  | tick =>
    simp only [exec, execTick] at h
    split at h <;> obtain rfl := Host.Outcome.next.inj h
    · exact .refl s
    · exact ((s.tickTimers_event.course.trans (.of_windows (State.tickProgram_windows _))).trans
        (State.settleClaim_course _)).trans (State.restartIf_course _ _)
  | quietTimerExpiry window =>
    simp only [exec, execQuietTimerExpiry] at h
    split at h
    · cases h; exact .refl s
    · next w _ =>
      split at h
      · split at h <;> obtain rfl := Host.Outcome.next.inj h
        · exact (((s.modWin_event w _ (by rfl)).trans (State.refill_event _)).trans (State.settleClaim_event _)).course
        · exact .refl s
      · cases h; exact .refl s
  | bandChange band =>
    simp only [exec, execBandChange] at h
    split at h <;> cases h
    · exact .refl s
    · exact (s.changeBand_event band).course
  | settleTimerExpiry =>
    simp only [exec, execSettleTimerExpiry] at h
    split at h
    · split at h <;> obtain rfl := Host.Outcome.next.inj h
      · exact ((s.enterNormal_event _).trans (State.settleClaim_event _)).course
      · exact .refl s
    all_goals cases h; exact .refl s
  | powerOnReset pins band => cases h; exact .reset (State.resetWith_blank _ _ _ _)
  | resetPinAssert => cases h; exact .reset (State.cleared_blank _ _ _ _ .held)
  | resetPinRelease pins band =>
    simp only [exec, execResetPinRelease] at h
    split at h <;> cases h
    · exact .reset (State.resetWith_blank _ _ _ _)
    · exact .of_windows rfl

/-- A step is a course: on an empty queue the part idles. -/
theorem step_course {s t : State} (h : step s = .next t) : Course s t := by
  unfold step at h
  split at h
  · cases h; exact .refl s
  · next c rest _ => exact .trans (.of_windows (t := { s with pending := rest }) rfl) (exec_course c _ t h)

end Sys2Proof.Machine
end

section
/-! The chunk pool (R47, R48): first fit, what a window's run needs of the others, and what each owner does to the runs. -/

namespace Sys2Proof.Machine

/-! ### Runs -/

/-- The run of an image is as long as its chunk count (R27, R47). -/
def WinBody.sized (b : WinBody) : Prop :=
  ∀ g c, b.geom? = some g → b.cat? = some c → c.chunks.length = chunkCount c.len g.chunkSize

theorem WinBody.run_outline (b : WinBody) : b.outline.run = b.run := by
  cases b <;> simp [WinBody.outline, WinBody.modCat, WinBody.run, WinBody.cat?]

theorem WinBody.sized_outline (b : WinBody) : b.outline.sized ↔ b.sized := by
  cases b <;> simp [WinBody.outline, WinBody.modCat, WinBody.sized, WinBody.cat?, WinBody.geom?]

theorem WinBody.run_of_bare {b : WinBody} (h : b.cat? = none) : b.run = (0, 0) := by
  rw [WinBody.run, h]

/-- A body may stand in window `w`: its run lies in the pool, meets no other window's run, and is as long as its image (R47). -/
structure State.RunFits (s : State) (w : Fin 32) (b : WinBody) : Prop where
  inside : b.run.2 ≤ Config.poolRecords
  apart : ∀ u, u ≠ w → Apart b.run.1 b.run.2 (s.win u).body.run.1 (s.win u).body.run.2
  sized : b.sized

/-- The law of R47 is that every window's body fits. -/
theorem poolLaw_iff (s : State) : PoolLaw s ↔ ∀ w, s.RunFits w (s.win w).body := by
  constructor
  · rintro ⟨inside, apart, sized⟩ w
    exact ⟨inside w, fun u other => apart w u (Ne.symm other), sized w⟩
  · intro fits
    exact ⟨fun w => (fits w).inside, fun u w other => (fits u).apart w (Ne.symm other), fun w => (fits w).sized⟩

theorem PoolLaw.of_outline {s t : State} (h : ∀ w, (t.win w).body.outline = (s.win w).body.outline) (law : PoolLaw s) :
    PoolLaw t := by
  have run : ∀ w, (t.win w).body.run = (s.win w).body.run := fun w => by
    rw [← WinBody.run_outline, h, WinBody.run_outline]
  rw [poolLaw_iff] at law ⊢
  intro w
  obtain ⟨inside, apart, sized⟩ := law w
  refine ⟨by rwa [run], fun u other => ?_, ?_⟩
  · rw [run, run]
    exact apart u other
  · rwa [← WinBody.sized_outline, h, WinBody.sized_outline]

theorem PoolLaw.of_windows {s t : State} (h : t.windows = s.windows) (law : PoolLaw s) : PoolLaw t :=
  law.of_outline fun w => by rw [State.win, h]; rfl

/-- A window may take any body that fits it. -/
theorem PoolLaw.modWin {s : State} {w : Fin 32} {f : Window → Window} (law : PoolLaw s)
    (fits : s.RunFits w (f (s.win w)).body) : PoolLaw (s.modWin w f) := by
  have here : (s.modWin w f).win w = f (s.win w) := by rw [State.win_modWin, if_pos rfl]
  have elsewhere : ∀ u, u ≠ w → (s.modWin w f).win u = s.win u := fun u h => by rw [State.win_modWin, if_neg (Ne.symm h)]
  rw [poolLaw_iff] at law ⊢
  intro u
  by_cases e : u = w
  · subst e
    refine here ▸ ⟨fits.inside, fun x other => ?_, fits.sized⟩
    rw [elsewhere x other]
    exact fits.apart x other
  · refine elsewhere u e ▸ ⟨(law u).inside, fun x other => ?_, (law u).sized⟩
    by_cases ex : x = w
    · subst ex
      rw [here]
      exact (fits.apart u e).symm
    · rw [elsewhere x ex]
      exact (law u).apart x other

/-- A window without a catalogue has no run. -/
theorem State.RunFits.of_bare {s : State} {w : Fin 32} {b : WinBody} (h : b.cat? = none) : s.RunFits w b := by
  refine ⟨by rw [WinBody.run_of_bare h]; decide, fun u _ => ?_, fun g c _ hc => ?_⟩
  · rw [WinBody.run_of_bare h]
    simp [Apart, overlaps]
  · rw [h] at hc
    cases hc

/-- A body with the run of the window's own may take its place. -/
theorem PoolLaw.runFits {s : State} {w : Fin 32} {b : WinBody} (law : PoolLaw s) (run : b.run = (s.win w).body.run)
    (sized : b.sized) : s.RunFits w b := by
  obtain ⟨inside, apart, _⟩ := (poolLaw_iff s).1 law w
  exact ⟨run ▸ inside, run ▸ apart, sized⟩

/-! ### First fit (R48) -/

theorem State.runAvailable_iff (s : State) (w : Fin 32) (n p : Nat) :
    s.runAvailable w n p = true ↔ ∀ u, u ≠ w → Apart p (p + n) (s.win u).body.run.1 (s.win u).body.run.2 := by
  simp [State.runAvailable, Apart, or_iff_not_imp_left]

/-- First fit gives the lowest run of the pool that is available. -/
theorem State.firstFit_eq_some_iff (s : State) (w : Fin 32) (n p : Nat) :
    s.firstFit w n = some p ↔
      p + n ≤ 4096 ∧ s.runAvailable w n p = true ∧ ∀ q, q < p → s.runAvailable w n q = false := by
  have room : p < Config.poolRecords + 1 - n ↔ p + n ≤ 4096 := by simp only [Config.poolRecords]; omega
  simp only [State.firstFit, List.find?_range_eq_some, List.mem_range, room, Bool.not_eq_true']
  tauto

theorem State.firstFit_eq_none_iff (s : State) (w : Fin 32) (n : Nat) :
    s.firstFit w n = none ↔ ∀ p, p + n ≤ 4096 → s.runAvailable w n p = false := by
  simp only [State.firstFit, List.find?_range_eq_none, Bool.not_eq_true', Config.poolRecords]
  exact forall_congr' fun p => imp_congr_left (by omega)

/-! ### The end of a pending commit, and teardown (R50, R143) -/

theorem State.markCommit_windows (s : State) (pc : PendingCommit) (k : MarkKind) : (s.markCommit pc k).windows = s.windows := by
  unfold State.markCommit
  split
  · exact s.requestMark_windows _
  · rfl

theorem State.dropPending_windows (s : State) (v : Fin 8) (view : View) (pc : PendingCommit) (r : Reason) :
    (s.dropPending v view pc r).windows = s.windows := State.markCommit_windows _ _ _

theorem State.dropStagedCommits_windows (w : Fin 32) (l : List (Fin 8)) (s : State) :
    (l.foldl (State.dropStagedCommit w) s).windows = s.windows := by
  induction l generalizing s with
  | nil => rfl
  | cons v l ih =>
    refine (ih _).trans ?_
    unfold State.dropStagedCommit
    split
    · split
      · split
        · exact s.dropPending_windows _ _ _ _
        · rfl
      · rfl
    · rfl

/-- What a teardown does ahead of its write of the window: the reports, the contexts and the queue (R50, R51). -/
def State.strip (w : Fin 32) (s : State) : State :=
  ((allViews.foldl (State.dropStagedCommit w) (s.loseImage w)).freeWindowContexts w).modScheduler fun c =>
    { c with queue := c.queue.filter fun e => decide (e.window ≠ w) }

theorem State.teardown_eq (s : State) (w : Fin 32) (next : WinBody) :
    s.teardown w next = (s.strip w).modWin w (Window.torn next) := rfl

theorem State.loseImage_windows (w : Fin 32) (s : State) : (s.loseImage w).windows = s.windows := by
  obtain ⟨queue, dropped, frame⟩ := s.loseImage_frame w
  rw [frame]

theorem State.freeWindowContexts_windows (w : Fin 32) (s : State) : (s.freeWindowContexts w).windows = s.windows := by
  obtain ⟨_, _, engine, counters, frame⟩ := s.freeWindowContexts_spec w
  rw [frame]

theorem State.strip_windows (w : Fin 32) (s : State) : (s.strip w).windows = s.windows := by
  simp only [State.strip, State.modScheduler_windows, State.freeWindowContexts_windows, State.dropStagedCommits_windows,
    State.loseImage_windows]

/-- Of the windows a teardown changes the one that is torn down, and no other. -/
theorem State.teardown_windows (s : State) (w : Fin 32) (next : WinBody) :
    (s.teardown w next).windows = (s.modWin w (Window.torn next)).windows := by
  rw [State.teardown_eq]
  simp only [State.modWin, State.setWin, State.win, s.strip_windows w]

theorem State.openCatalogue_windows (s : State) (w : Fin 32) (g : Geometry) (c : Catalogue) :
    (s.openCatalogue w g c).windows = (s.modWin w (Window.torn (.opened g c))).windows := by
  unfold State.openCatalogue
  split
  · exact s.teardown_windows w _
  · rfl

theorem State.reject_windows (s : State) (w : Fin 32) (g : Geometry) (c : Catalogue) (r : Reason) :
    (s.reject w g c r).windows = (s.modWin w (Window.torn (.rejected g))).windows :=
  (State.raise_windows _ _).trans (s.teardown_windows w _)

/-! ### Rulings on the records that no catalogue heeds -/

theorem State.release_windows (s : State) (v : Fin 8) (view : View) : (s.release v view).windows = s.windows := by
  simp only [State.release]
  split
  · rfl
  · split
    · exact s.dropPending_windows _ _ _ _
    · exact State.markCommit_windows _ _ _

theorem State.commit_windows (s : State) (mode : Mode) (addr : Nat) (v : Fin 8) (view : View) (bank : Bank) :
    (s.commit mode addr v view bank).st.windows = s.windows := by
  simp only [State.commit]
  split
  · split
    · exact s.dropPending_windows _ _ _ _
    · rfl
  · split
    · rfl
    · split
      · rfl
      · split
        · cases view.pendingCommit with
          | none => rfl
          | some pc => exact s.dropPending_windows v view pc .replaced
        · rfl

theorem State.takeOpclass_windows (s : State) (bytes : List Byte) : (s.takeOpclass bytes).st.windows = s.windows := by
  unfold State.takeOpclass
  split
  · rfl
  · split <;> rfl

theorem State.takeView_windows (s : State) (bytes : List Byte) : (s.takeView bytes).st.windows = s.windows := by
  unfold State.takeView
  split
  · split <;> rfl
  · rfl

theorem State.takeUnview_windows (s : State) (bytes : List Byte) : (s.takeUnview bytes).st.windows = s.windows := by
  unfold State.takeUnview
  split
  · rfl
  · split
    · rfl
    · split <;> rfl

theorem State.takeHold_windows (s : State) (bytes : List Byte) : (s.takeHold bytes).st.windows = s.windows := by
  unfold State.takeHold
  split
  · rfl
  · split
    · rfl
    · split <;> rfl

theorem State.takeRelease_windows (s : State) (bytes : List Byte) : (s.takeRelease bytes).st.windows = s.windows := by
  unfold State.takeRelease
  split
  · rfl
  · split
    · rfl
    · split
      · exact s.release_windows _ _
      · rfl

theorem State.takeCommit_windows (s : State) (mode : Mode) (addr : Nat) (bytes : List Byte) :
    (s.takeCommit mode addr bytes).st.windows = s.windows := by
  unfold State.takeCommit
  split
  · split
    · rfl
    · exact s.commit_windows _ _ _ _ _
  · rfl

theorem State.takeSnapshot_windows (s : State) : s.takeSnapshot.st.windows = s.windows := by
  simp only [State.takeSnapshot]
  split <;> rfl

theorem State.takeCheck_event (s : State) (bytes : List Byte) : EventWork s (s.takeCheck bytes).st := by
  have check : ∀ w urgent, EventWork s (s.check w urgent) := fun w urgent =>
    ((QueueWork.foldl _ (State.checkChunk_queueWork w urgent) _ s).chunks.event.trans
      (State.modWin_event _ _ _ (by rfl))).trans (State.completionTest_work _ _).event
  simp only [State.takeCheck]
  split
  · exact .refl s
  · split
    · exact .refl s
    · split
      · exact check _ _
      · exact .refl s

theorem State.takeAck_outline (s : State) (w : Fin 32) : ((s.takeAck.st).win w).body.outline = (s.win w).body.outline := by
  have cleared := EventWork.foldl State.clearFillReported (fun s w => s.modWin_event w _ (by rfl)) allWindows
    (if s.alertStays then s else s.modReports fun r => { r with alert := false })
  have released : (if s.alertStays then s else s.modReports fun r => { r with alert := false }).windows = s.windows := by
    split <;> rfl
  simp only [State.takeAck, Ruling.st]
  rw [cleared.outline w, State.win, released]
  rfl

/-! ### The owners keep the law of R47 -/

theorem WinBody.cat?_redefine (b : WinBody) (g : Geometry) : (b.redefine g).cat? = b.cat? := by
  cases b <;> rfl

/-- A WINDOW record is taken for a window without a catalogue, and gives it none (R25, R26). -/
theorem State.takeWindow_poolLaw (s : State) (bytes : List Byte) (law : PoolLaw s) : PoolLaw (s.takeWindow bytes).st := by
  rcases s.takeWindow_cases bytes with ⟨r, h⟩ | ⟨w, t, hw, h⟩ <;> rw [h]
  · exact law
  · obtain ⟨⟨_, change, _⟩, rfl⟩ := (State.takeWindow_taken_iff hw).1 h
    exact PoolLaw.modWin (f := fun v => { v with body := v.body.redefine (windowGeometry bytes) }) law
      (.of_bare ((WinBody.cat?_redefine _ _).trans change.1))

/-- First fit gives a new catalogue a run that fits (R48, R52). -/
theorem State.openCatalogue_poolLaw {s : State} {w : Fin 32} {g : Geometry} {c : Catalogue} {n : Nat} (law : PoolLaw s)
    (fit : s.firstFit w n = some c.runStart) (count : c.chunks.length = n) (long : n = chunkCount c.len g.chunkSize) :
    PoolLaw (s.openCatalogue w g c) := by
  obtain ⟨inside, available, _⟩ := (s.firstFit_eq_some_iff _ _ _).1 fit
  have run : (WinBody.opened g c).run = (c.runStart, c.runStart + n) := by rw [← count]; rfl
  refine PoolLaw.of_windows (s.openCatalogue_windows w g c) (law.modWin ⟨?_, ?_, ?_⟩)
  · exact run ▸ inside
  · exact run ▸ (s.runAvailable_iff _ _ _).1 available
  · rintro _ _ ⟨⟩ ⟨⟩
    exact count.trans long

theorem State.takeManifest_poolLaw (s : State) (bytes : List Byte) (law : PoolLaw s) : PoolLaw (s.takeManifest bytes).st := by
  simp only [State.takeManifest]
  split
  · exact law
  · split
    · exact law
    · exact law
    · split
      · exact law
      · next fit => exact State.openCatalogue_poolLaw law fit (List.length_replicate ..) rfl

theorem State.reject_poolLaw {s : State} (law : PoolLaw s) (w : Fin 32) (g : Geometry) (c : Catalogue) (r : Reason) :
    PoolLaw (s.reject w g c r) :=
  PoolLaw.of_windows (s.reject_windows w g c r) (law.modWin (.of_bare rfl))

@[simp] theorem offerDigests_length (i : Nat) (ds : List Digest) (chunks : List Chunk) :
    (offerDigests i ds chunks).length = chunks.length := by
  induction ds generalizing i chunks with
  | nil => rfl
  | cons d ds ih => rw [offerDigests, ih, List.length_modify]

/-- The window's entry as it enters LOADED, ahead of the load comparisons (R60, R62). -/
def Window.entered (g : Geometry) (c : Catalogue) (v : Window) : Window :=
  { v with body := .loaded g c (erasedDigests g c), quiet := (WinBody.defined g).quietStart }

/-- Behind the write of the window the entry to LOADED works on chunk records and reports only (R61). -/
theorem State.enterLoaded_work (s : State) (w : Fin 32) (g : Geometry) (c : Catalogue) :
    ChunkWork (s.modWin w (Window.entered g c)) (s.enterLoaded w g c) :=
  (((ChunkWork.foldl _ (State.loadCompare_work w c _) _ _).trans (State.raise_work _ _)).trans
    (ChunkWork.foldl _ (State.raiseLoadBad_work w) _ _)).trans (State.reportImage_work _ _ _)

/-- The catalogue with the digests of a record stored and counted (R56). -/
def Catalogue.offered (i : Nat) (ds : List Digest) (c : Catalogue) : Catalogue :=
  { c with
    chunks := offerDigests i ds c.chunks
    received := c.received + (presentDigests (offerDigests i ds c.chunks) - presentDigests c.chunks) }

theorem State.offerOpen_eq (s : State) (w : Fin 32) (g : Geometry) (c : Catalogue) (i : Nat) (ds : List Digest) :
    s.offerOpen w g c i ds =
      if anyConflict i ds c.chunks then s.reject w g c .conflict
      else if (c.offered i ds).received = c.chunks.length then
        if chunkDigest (listString (c.offered i ds).chunks) = c.list then
          (s.modWin w fun v => { v with body := .opened g (c.offered i ds) }).enterLoaded w g (c.offered i ds)
        else (s.modWin w fun v => { v with body := .opened g (c.offered i ds) }).reject w g (c.offered i ds) .list
      else s.modWin w fun v => { v with body := .opened g (c.offered i ds) } := rfl

/-- Digests that are offered leave a window its run, or take it away (R56, R59, R60). -/
theorem State.offerOpen_poolLaw {s : State} {w : Fin 32} {g : Geometry} {c : Catalogue} (law : PoolLaw s)
    (hb : (s.win w).body = .opened g c) (i : Nat) (ds : List Digest) : PoolLaw (s.offerOpen w g c i ds) := by
  have long : c.chunks.length = chunkCount c.len g.chunkSize :=
    ((poolLaw_iff s).1 law w).sized g c (by rw [hb]; rfl) (by rw [hb]; rfl)
  have fits : ∀ (t : State) (b : WinBody), PoolLaw t → (t.win w).body.run = (WinBody.opened g c).run →
      b.geom? = some g → b.cat? = some (c.offered i ds) → t.RunFits w b := by
    intro t b lawful run hg hc
    refine lawful.runFits ?_ fun g' c' hg' hc' => ?_
    · rw [run]
      simp only [WinBody.run, hc]
      simp only [WinBody.cat?, Catalogue.offered, offerDigests_length]
    · obtain rfl := Option.some.inj (hg.symm.trans hg')
      obtain rfl := Option.some.inj (hc.symm.trans hc')
      simpa only [Catalogue.offered, offerDigests_length] using long
  have stored := law.modWin (f := fun v => { v with body := .opened g (c.offered i ds) })
    (fits s _ law (by rw [hb]) rfl rfl)
  rw [State.offerOpen_eq]
  split
  · exact State.reject_poolLaw law _ _ _ _
  · split
    · split
      · refine PoolLaw.of_outline (State.enterLoaded_work _ _ _ _).outline (stored.modWin (fits _ _ stored ?_ rfl rfl))
        simp [WinBody.run, WinBody.cat?, Catalogue.offered]
      · exact State.reject_poolLaw stored _ _ _ _
    · exact stored

theorem State.takeDigests_poolLaw (s : State) (bytes : List Byte) (law : PoolLaw s) : PoolLaw (s.takeDigests bytes).st := by
  simp only [State.takeDigests]
  split
  · exact law
  · split
    · exact law
    · split
      · next hb =>
        split
        · exact law
        · exact State.offerOpen_poolLaw law hb _ _
      · split
        · exact law
        · split <;> exact law
      all_goals exact law

/-- A DROP takes a window's run away (R63). -/
theorem State.takeDrop_poolLaw (s : State) (bytes : List Byte) (law : PoolLaw s) : PoolLaw (s.takeDrop bytes).st := by
  simp only [State.takeDrop]
  split
  · exact law
  · next w _ =>
    split
    · exact law
    · split
      · exact law
      · simp only [Ruling.st]
        refine PoolLaw.of_outline (State.modWin_event _ _ _ (by rfl)).outline ?_
        split
        · exact PoolLaw.of_windows (s.teardown_windows w .vacant) (law.modWin (.of_bare rfl))
        · exact law.modWin (.of_bare rfl)

/-- Every owner keeps the law of R47, whatever the record. -/
theorem State.dispatch_poolLaw (s : State) (k : RecKind) (mode : Mode) (addr : Nat) (bytes : List Byte) (law : PoolLaw s) :
    PoolLaw (s.dispatch k mode addr bytes).st := by
  cases k with
  | opclass => exact law.of_windows (s.takeOpclass_windows bytes)
  | window => exact s.takeWindow_poolLaw bytes law
  | manifest => exact s.takeManifest_poolLaw bytes law
  | digests => exact s.takeDigests_poolLaw bytes law
  | drop => exact s.takeDrop_poolLaw bytes law
  | check => exact law.of_outline (s.takeCheck_event bytes).outline
  | budget => exact law.of_windows rfl
  | view => exact law.of_windows (s.takeView_windows bytes)
  | unview => exact law.of_windows (s.takeUnview_windows bytes)
  | commit => exact law.of_windows (s.takeCommit_windows mode addr bytes)
  | hold => exact law.of_windows (s.takeHold_windows bytes)
  | release => exact law.of_windows (s.takeRelease_windows bytes)
  | snapshot => exact law.of_windows s.takeSnapshot_windows
  | ack => exact law.of_outline s.takeAck_outline
  | restart => exact law

theorem Blank.poolLaw {s : State} (h : Blank s) : PoolLaw s :=
  (poolLaw_iff s).2 fun w => .of_bare (by rw [h.win w]; rfl)

theorem Course.poolLaw {s t : State} (h : Course s t) (law : PoolLaw s) : PoolLaw t := by
  induction h with
  | still outline => exact law.of_outline outline
  | ruled s k mode addr bytes => exact s.dispatch_poolLaw k mode addr bytes law
  | reset blank => exact blank.poolLaw
  | trans _ _ first second => exact second (first law)

/-- Settles O57. -/
theorem poolRunsStayDisjoint : Obligations.PoolRunsStayDisjoint := fun _ _ law h => (step_course h).poolLaw law

end Sys2Proof.Machine
end

section
/-! The teardown of a catalogue, whatever commits are staged (R50, R51, R143): contexts, queue, views and reports. -/

namespace Sys2Proof.Machine

/-! ### Staged commits -/

/-- The view behind a teardown of window `w`: without its pending commit if that stages the window (R50, R143). -/
def View.unstaged (w : Fin 32) (view : View) : View :=
  { view with pendingCommit := view.pendingCommit.filter fun pc => decide (view.window pc.bank ≠ w) }

theorem View.unstaged_unstaged (w : Fin 32) (view : View) : (view.unstaged w).unstaged w = view.unstaged w := by
  have window : (view.unstaged w).window = view.window := by funext bank; cases bank <;> rfl
  rw [View.unstaged, window]
  simp [View.unstaged, Option.filter_filter]

theorem View.unstaged_of_other {w : Fin 32} {view : View} (h : ∀ pc, view.pendingCommit = some pc → view.window pc.bank ≠ w) :
    view.unstaged w = view := by
  have kept : view.pendingCommit.filter (fun pc => decide (view.window pc.bank ≠ w)) = view.pendingCommit := by
    cases hp : view.pendingCommit with
    | none => rfl
    | some pc => simp [Option.filter, h pc hp]
  rw [View.unstaged, kept]

/-- From `s` to `t` the commits staged in window `w` were dropped in the views of `l`, and of the Report Writer no counter
changed (R143). -/
structure DropsCommits (w : Fin 32) (l : List (Fin 8)) (s t : State) : Prop where
  frame : t = { s with views := t.views, reports := t.reports }
  counters : t.reports.counters = s.reports.counters
  view : ∀ v, t.view v = if v ∈ l then (s.view v).map (View.unstaged w) else s.view v

theorem State.markCommit_frame (s : State) (pc : PendingCommit) (k : MarkKind) :
    ∃ marks, s.markCommit pc k = { s with reports := { s.reports with marks := marks } } := by
  unfold State.markCommit
  split
  · exact ⟨_, s.requestMark_eq _⟩
  · exact ⟨s.reports.marks, rfl⟩

/-- A dropped commit changes its view, the marks and the reports (R143). -/
theorem State.dropPending_frame (s : State) (v : Fin 8) (view : View) (pc : PendingCommit) (r : Reason) :
    ∃ reports, s.dropPending v view pc r =
        { s.setView v (some { view with pendingCommit := none }) with reports := reports } ∧
      reports.counters = s.reports.counters := by
  obtain ⟨marks, marked⟩ := (s.setView v (some { view with pendingCommit := none })).markCommit_frame pc .void
  unfold State.dropPending State.raiseCommit
  rw [marked, State.raise_eq]
  exact ⟨_, rfl, rfl⟩

theorem State.dropStagedCommit_drops (w : Fin 32) (s : State) (v : Fin 8) : DropsCommits w [v] s (s.dropStagedCommit w v) := by
  have stands : (s.view v).map (View.unstaged w) = s.view v → DropsCommits w [v] s s := fun same =>
    ⟨rfl, rfl, fun u => by
      by_cases e : u = v
      · rw [e, if_pos (by simp), same]
      · rw [if_neg (by simpa using e)]⟩
  unfold State.dropStagedCommit
  split
  · next view present =>
    split
    · next pc pending =>
      split
      · next staged =>
        obtain ⟨reports, frame, counters⟩ := s.dropPending_frame v view pc .state
        rw [frame]
        refine ⟨rfl, counters, fun u => ?_⟩
        show (s.setView v (some { view with pendingCommit := none })).view u = _
        rw [State.view_setView]
        by_cases e : u = v
        · subst e
          simp [present, View.unstaged, pending, staged, Option.filter]
        · rw [if_neg (Ne.symm e), if_neg (by simpa using e)]
      · next other =>
        refine stands ?_
        rw [present, Option.map_some, View.unstaged_of_other fun pc' h => ?_]
        cases pending.symm.trans h
        exact other
    · next free =>
      refine stands ?_
      rw [present, Option.map_some, View.unstaged_of_other fun pc h => ?_]
      cases free.symm.trans h
  · next absent => exact stands (by simp [absent])

theorem State.dropStagedCommits_drop (w : Fin 32) (l : List (Fin 8)) (s : State) :
    DropsCommits w l s (l.foldl (State.dropStagedCommit w) s) := by
  induction l generalizing s with
  | nil => exact ⟨rfl, rfl, fun v => by simp⟩
  | cons v l ih =>
    obtain ⟨frame, counters, view⟩ := s.dropStagedCommit_drops w v
    obtain ⟨frames, counters', views⟩ := ih (s.dropStagedCommit w v)
    rw [List.foldl_cons]
    refine ⟨?_, counters'.trans counters, fun u => ?_⟩
    · rw [frames, frame]
    · rw [views, view]
      by_cases e : u = v <;> by_cases m : u ∈ l <;>
        simp [e, m, Function.comp_def, View.unstaged_unstaged]

/-- With one commit staged in the window, that of view `v`, it is the one that is dropped (R143). -/
theorem State.dropStagedCommits_of_one {s : State} {w : Fin 32} {v : Fin 8} {view : View} {pc : PendingCommit}
    (present : s.view v = some view) (pending : view.pendingCommit = some pc) (staged : view.window pc.bank = w)
    (others : ∀ u y pc', u ≠ v → s.view u = some y → y.pendingCommit = some pc' → y.window pc'.bank ≠ w) (l : List (Fin 8)) :
    l.foldl (State.dropStagedCommit w) s = if v ∈ l then s.dropPending v view pc .state else s := by
  have dropped : (s.dropPending v view pc .state).stagesNoCommit w := by
    obtain ⟨reports, frame, _⟩ := s.dropPending_frame v view pc .state
    intro u y pc' hy hpc
    rw [frame] at hy
    replace hy : (s.setView v (some { view with pendingCommit := none })).view u = some y := hy
    rw [State.view_setView] at hy
    split at hy
    · cases hy; cases hpc
    · next e => exact others u y pc' (Ne.symm e) hy hpc
  induction l with
  | nil => rfl
  | cons u l ih =>
    rw [List.foldl_cons]
    by_cases e : u = v
    · subst e
      rw [if_pos (List.mem_cons_self ..), ← State.dropStagedCommit_of_unstaged dropped l]
      simp [State.dropStagedCommit, present, pending, staged]
    · have skipped : s.dropStagedCommit w u = s := by
        unfold State.dropStagedCommit
        split
        · next y hy =>
          split
          · next pc' hpc => rw [if_neg (others u y pc' e hy hpc)]
          · rfl
        · rfl
      rw [skipped, ih]
      simp [Ne.symm e]

/-! ### What a teardown leaves -/

theorem contextsFreed.of_eq {s t s' t' : State} {w : Fin 32} (h : contextsFreed s' t' w) (es : s'.engine = s.engine)
    (cs : s'.reports.counters = s.reports.counters) (et : t.engine = t'.engine)
    (ct : t.reports.counters = t'.reports.counters) : contextsFreed s t w := by
  obtain ⟨streams, readback, counters⟩ := h
  refine ⟨fun k => ?_, by rw [et, readback, es], by rw [ct, counters, es, cs]⟩
  have stream := streams k
  simp only [State.stream] at stream ⊢
  rw [et, stream, es]

/-- Ahead of its write of the window a teardown frees the window's contexts, takes its entries from the queue, and drops the commits
that it stages; IMAGE (lost) and the drops are what it reports (R50, R51, R143). -/
theorem State.strip_spec (w : Fin 32) (s : State) :
    contextsFreed s (s.strip w) w ∧
      (s.strip w).scheduler = { s.scheduler with queue := s.scheduler.queue.filter fun e => decide (e.window ≠ w) } ∧
      (∀ v, (s.strip w).view v = (s.view v).map (View.unstaged w)) ∧
      (s.strip w).reports =
        { (allViews.foldl (State.dropStagedCommit w) (s.loseImage w)).reports with
          counters := (s.strip w).reports.counters } := by
  obtain ⟨queue, lostFlag, lost⟩ := s.loseImage_frame w
  obtain ⟨frame, counters, view⟩ := State.dropStagedCommits_drop w allViews (s.loseImage w)
  unfold State.strip
  generalize allViews.foldl (State.dropStagedCommit w) (s.loseImage w) = dropped at *
  obtain ⟨freed, _, engine, aborts, freedFrame⟩ := State.freeWindowContexts_spec w dropped
  have sameEngine : dropped.engine = s.engine := by rw [frame, lost]
  have sameScheduler : dropped.scheduler = s.scheduler := by rw [frame, lost]
  have sameCounters : dropped.reports.counters = s.reports.counters := by rw [counters, lost]
  have sameView : ∀ v, (s.loseImage w).view v = s.view v := fun v => by rw [lost]; rfl
  refine ⟨freed.of_eq sameEngine sameCounters rfl rfl, ?_, fun v => ?_, ?_⟩
  · rw [State.modScheduler_scheduler, freedFrame, ← sameScheduler]
  · rw [State.modScheduler_view, freedFrame, ← sameView, ← (view v).trans (if_pos (mem_allViews v))]
    rfl
  · rw [State.modScheduler_reports, freedFrame]

/-- A teardown leaves the window's own entry aside what its preparation leaves (R50). -/
theorem State.teardown_leaves (s : State) (w : Fin 32) (next : WinBody) :
    contextsFreed s (s.teardown w next) w ∧
      (s.teardown w next).scheduler =
        { s.scheduler with queue := s.scheduler.queue.filter fun e => decide (e.window ≠ w) } ∧
      (∀ v, (s.teardown w next).view v = (s.view v).map (View.unstaged w)) ∧
      (s.teardown w next).reports =
        { (allViews.foldl (State.dropStagedCommit w) (s.loseImage w)).reports with
          counters := (s.teardown w next).reports.counters } := by
  obtain ⟨freed, scheduler, views, reports⟩ := s.strip_spec w
  have same : (s.teardown w next).reports = (s.strip w).reports := by rw [State.teardown_eq, State.modWin_reports]
  refine ⟨freed.of_eq rfl rfl ?_ (by rw [same]), ?_, fun v => ?_, by rw [same]; exact reports⟩
  · rw [State.teardown_eq, State.modWin_engine]
  · rw [State.teardown_eq, State.modWin_scheduler, scheduler]
  · rw [State.teardown_eq, State.modWin_view, views]

end Sys2Proof.Machine
end

section
/-! MANIFEST (R52 to R54): its checks in their order, first fit, and the catalogue it opens (O49). -/

namespace Sys2Proof.Machine

/-! ### The checks -/

theorem State.isCurrent_iff (s : State) (w : Fin 32) :
    s.isCurrent w = true ↔ ∃ v view, s.view v = some view ∧ view.current = w := by
  simp only [State.isCurrent, List.any_eq_true, mem_allViews, true_and]
  refine exists_congr fun v => ?_
  cases s.view v <;> simp

theorem WinBody.mem_run_iff (b : WinBody) (i : Nat) :
    (b.run.1 ≤ i ∧ i < b.run.2) ↔ ∃ c, b.cat? = some c ∧ c.runStart ≤ i ∧ i < c.runStart + c.chunks.length := by
  cases h : b.cat? <;> simp [WinBody.run, h]

/-- A run is not available exactly if a record in it is allocated to another window (R47, R48). -/
theorem State.runAvailable_eq_false_iff (s : State) (w : Fin 32) (n p : Nat) :
    s.runAvailable w n p = false ↔
      ∃ u c i, u ≠ w ∧ (s.win u).body.cat? = some c ∧ c.runStart ≤ i ∧ i < c.runStart + c.chunks.length ∧ p ≤ i ∧ i < p + n := by
  have meets : ∀ u, ¬Apart p (p + n) (s.win u).body.run.1 (s.win u).body.run.2 ↔
      ∃ c i, (s.win u).body.cat? = some c ∧ c.runStart ≤ i ∧ i < c.runStart + c.chunks.length ∧ p ≤ i ∧ i < p + n := by
    intro u
    rw [Apart, Bool.not_eq_false, overlaps_iff, exists_comm]
    refine exists_congr fun i => ?_
    have run := (s.win u).body.mem_run_iff i
    constructor
    · rintro ⟨low, high, inside⟩
      obtain ⟨c, hc, start, stop⟩ := run.1 inside
      exact ⟨c, hc, start, stop, low, high⟩
    · rintro ⟨c, hc, start, stop, low, high⟩
      exact ⟨low, high, run.2 ⟨c, hc, start, stop⟩⟩
  rw [← Bool.not_eq_true, State.runAvailable_iff]
  push Not
  simp only [meets, exists_and_left]

/-- The image length of a MANIFEST is in range (R52). -/
def Geometry.holds (g : Geometry) (len : Nat) : Prop := 1 ≤ len ∧ len ≤ g.size ∧ len ≤ 1024 * g.chunkSize

theorem State.manifestRefusal_of_vacant {s : State} {w : Fin 32} (h : (s.win w).body.geom? = none) (len : Nat) :
    s.manifestRefusal w len = some .state := by rw [State.manifestRefusal, h]

/-- Of a window with a geometry the length is tested, and then whether a view selects it (R52). -/
theorem State.manifestRefusal_of_geom {s : State} {w : Fin 32} {g : Geometry} (h : (s.win w).body.geom? = some g) (len : Nat) :
    (¬g.holds len → s.manifestRefusal w len = some .range) ∧
      (g.holds len →
        ((∃ v view, s.view v = some view ∧ view.current = w) → s.manifestRefusal w len = some .activeBank) ∧
        ((∀ v view, s.view v = some view → view.current ≠ w) → s.manifestRefusal w len = none)) := by
  have range : (len < 1 ∨ min g.size (Config.maxChunks * g.chunkSize) < len) ↔ ¬g.holds len := by
    simp only [Geometry.holds, Config.maxChunks]
    omega
  simp only [State.manifestRefusal, h]
  refine ⟨fun out => if_pos (range.2 out), fun inside => ?_⟩
  rw [if_neg fun out => range.1 out inside]
  refine ⟨fun selected => if_pos ((s.isCurrent_iff w).2 selected), fun unselected => if_neg fun selected => ?_⟩
  obtain ⟨v, view, present, current⟩ := (s.isCurrent_iff w).1 selected
  exact unselected v view present current

theorem State.manifestRefusal_eq_none {s : State} {w : Fin 32} {len : Nat} (h : s.manifestRefusal w len = none) :
    ∃ g, (s.win w).body.geom? = some g ∧ g.holds len ∧ ∀ v view, s.view v = some view → view.current ≠ w := by
  cases hg : (s.win w).body.geom? with
  | none => rw [State.manifestRefusal_of_vacant hg] at h; cases h
  | some g =>
    obtain ⟨outside, inside⟩ := State.manifestRefusal_of_geom hg len
    by_cases holds : g.holds len
    · refine ⟨g, rfl, holds, fun v view present selected => ?_⟩
      rw [(inside holds).1 ⟨v, view, present, selected⟩] at h
      cases h
    · rw [outside holds] at h
      cases h

/-! ### The ruling -/

/-- The catalogue a MANIFEST opens: `n` records that know nothing in the run from `p` on (R48, R53). -/
def manifestCatalogue (bytes : List Byte) (n p : Nat) : Catalogue :=
  { target := field bytes 10 2, version := field bytes 12 4, len := field bytes 16 4
    list := digestOf ((bytes.drop 20).take 16), runStart := p, received := 0, chunks := List.replicate n Chunk.fresh }

theorem State.takeManifest_of_refusal {s : State} {bytes : List Byte} {w : Fin 32} {r : Reason} (hw : field bytes 8 1 = w.val)
    (h : s.manifestRefusal w (field bytes 16 4) = some r) : s.takeManifest bytes = .refused s r := by
  simp only [State.takeManifest, windowNumber_of_eq hw, h]

theorem State.takeManifest_of_none {s : State} {bytes : List Byte} {w : Fin 32} {g : Geometry} (hw : field bytes 8 1 = w.val)
    (hg : (s.win w).body.geom? = some g) (h : s.manifestRefusal w (field bytes 16 4) = none) :
    (s.firstFit w (chunkCount (field bytes 16 4) g.chunkSize) = none → s.takeManifest bytes = .refused s .poolFull) ∧
      ∀ p, s.firstFit w (chunkCount (field bytes 16 4) g.chunkSize) = some p →
        s.takeManifest bytes =
          .taken (s.openCatalogue w g (manifestCatalogue bytes (chunkCount (field bytes 16 4) g.chunkSize) p)) := by
  simp only [State.takeManifest, windowNumber_of_eq hw, h, hg]
  exact ⟨fun full => by rw [full], fun p fit => by rw [fit]; rfl⟩

theorem State.takeManifest_taken {s t : State} {bytes : List Byte} {w : Fin 32} (hw : field bytes 8 1 = w.val)
    (h : s.takeManifest bytes = .taken t) :
    ∃ g p, (s.win w).body.geom? = some g ∧ g.holds (field bytes 16 4) ∧
      (∀ v view, s.view v = some view → view.current ≠ w) ∧
      s.firstFit w (chunkCount (field bytes 16 4) g.chunkSize) = some p ∧
      t = s.openCatalogue w g (manifestCatalogue bytes (chunkCount (field bytes 16 4) g.chunkSize) p) := by
  cases hr : s.manifestRefusal w (field bytes 16 4) with
  | some r => rw [State.takeManifest_of_refusal hw hr] at h; cases h
  | none =>
    obtain ⟨g, hg, holds, unselected⟩ := State.manifestRefusal_eq_none hr
    obtain ⟨full, fits⟩ := State.takeManifest_of_none hw hg hr
    cases hf : s.firstFit w (chunkCount (field bytes 16 4) g.chunkSize) with
    | none => rw [full hf] at h; cases h
    | some p =>
      rw [fits p hf] at h
      cases h
      exact ⟨g, p, hg, holds, unselected, hf, rfl⟩

/-! ### The catalogue it opens -/

theorem State.openCatalogue_win (s : State) (w u : Fin 32) (g : Geometry) (c : Catalogue) :
    (s.openCatalogue w g c).win u = if w = u then (s.win w).torn (.opened g c) else s.win u := by
  rw [State.win, s.openCatalogue_windows w g c]
  exact State.win_modWin _ _ _ _

theorem State.openCatalogue_of_bare {s : State} {w : Fin 32} (h : (s.win w).body.cat? = none) (g : Geometry) (c : Catalogue) :
    s.openCatalogue w g c = s.setWin w ((s.win w).torn (.opened g c)) := by
  rw [State.openCatalogue, h]
  rfl

theorem State.openCatalogue_of_catalogue {s : State} {w : Fin 32} (h : (s.win w).body.cat? ≠ none) (g : Geometry)
    (c : Catalogue) : s.openCatalogue w g c = s.teardown w (.opened g c) := by
  rw [State.openCatalogue, if_pos (Option.isSome_iff_ne_none.2 h)]

/-- The state behind IMAGE (lost) is settled by what the statements say of it (R51). -/
theorem State.eq_loseImage {s lost : State} {w : Fin 32}
    (complete : ∀ g c e, (s.win w).body = .loaded g c e → (s.win w).goodCount = c.chunks.length →
      lost = s.raise (.image w true c.target c.version c.chunks.length 0))
    (incomplete : (∀ g c e, (s.win w).body = .loaded g c e → (s.win w).goodCount ≠ c.chunks.length) → lost = s) :
    lost = s.loseImage w := by
  by_cases full : ∃ g c e, (s.win w).body = .loaded g c e ∧ (s.win w).goodCount = c.chunks.length
  · obtain ⟨g, c, e, hb, count⟩ := full
    rw [complete g c e hb count, State.loseImage_of_complete hb count]
  · have none : ∀ g c e, (s.win w).body = .loaded g c e → (s.win w).goodCount ≠ c.chunks.length :=
      fun g c e hb count => full ⟨g, c, e, hb, count⟩
    rw [incomplete none, State.loseImage_of_not_complete none]

theorem State.isCommitReport.of_windows {s t : State} {v : Fin 8} {view : View} {outcome : CommitOutcome}
    {reason : Option Reason} {bank : Bank} {recordAddr : Nat} {r : Report}
    (h : s.isCommitReport v view outcome reason bank recordAddr r) (same : t.windows = s.windows) :
    t.isCommitReport v view outcome reason bank recordAddr r := by
  simpa only [State.isCommitReport, State.win, same] using h

theorem State.raise_reports_congr {s t : State} (h : t.reports = s.reports) (r : Report) :
    (t.raise r).reports = (s.raise r).reports := by
  rw [State.raise_eq, State.raise_eq, h]

/-- A dropped commit: its mark if its record stands, and then its report (R143, R145). -/
theorem State.dropPending_reports {s : State} {v : Fin 8} {view : View} {pc : PendingCommit} {r : Report}
    (report : s.isCommitReport v view .dropped (some .state) pc.bank pc.recordAddr r) :
    (s.dropPending v view pc .state).reports =
      ((if pc.recordStands = true then
          s.requestMark { addr := pc.recordAddr + 1, kind := .void, restart := false }
        else s).raise r).reports := by
  have windows : ((s.setView v (some { view with pendingCommit := none })).markCommit pc .void).windows = s.windows :=
    State.markCommit_windows _ _ _
  rw [State.dropPending, State.raiseCommit_eq (report.of_windows windows)]
  refine State.raise_reports_congr ?_ r
  unfold State.markCommit
  split
  · rw [State.requestMark_eq, State.requestMark_eq]
    rfl
  · rfl

/-- Settles O49. -/
theorem manifestOpensACatalogueThatKnowsNothing : Obligations.ManifestOpensACatalogueThatKnowsNothing := by
  refine ⟨fun s t bytes w hw taken => ?_, fun s bytes beyond => ?_, fun s bytes w len hw hlen => ⟨fun vacant => ?_, ?_⟩⟩
  · obtain ⟨g, p, hg, ⟨least, inside, most⟩, unselected, fit, rfl⟩ := State.takeManifest_taken hw taken
    refine ⟨g, p, hg, fit, least, inside, most, unselected, ?_, fun u other => ?_, fun bare => ?_, fun catalogue => ?_⟩
    · rw [State.openCatalogue_win, if_pos rfl]
      rfl
    · rw [State.openCatalogue_win, if_neg (Ne.symm other)]
    · rw [State.openCatalogue_win, if_pos rfl, State.openCatalogue_of_bare bare]
    · rw [State.openCatalogue_of_catalogue catalogue]
      obtain ⟨freed, scheduler, views, reports⟩ :=
        s.teardown_leaves w (.opened g (manifestCatalogue bytes (chunkCount (field bytes 16 4) g.chunkSize) p))
      generalize s.teardown w (.opened g (manifestCatalogue bytes (chunkCount (field bytes 16 4) g.chunkSize) p)) = t at *
      refine ⟨fun e member => ?_, freed, scheduler, views, fun lost complete incomplete => ?_⟩
      · rw [scheduler, List.mem_filter] at member
        simpa using member.2
      · obtain rfl := State.eq_loseImage complete incomplete
        have sameViews : ∀ v, (s.loseImage w).view v = s.view v := fun v => by
          obtain ⟨_, _, frame⟩ := s.loseImage_frame w
          rw [frame]
          rfl
        refine ⟨fun unstaged => ?_, fun v view pc r present pending staged others report => ?_⟩
        · have none : (s.loseImage w).stagesNoCommit w := fun v view pc hv => unstaged v view pc (sameViews v ▸ hv)
          rw [State.dropStagedCommit_of_unstaged none] at reports
          exact reports
        · rw [State.dropStagedCommits_of_one ((sameViews v).trans present) pending staged
              (fun u y pc' other hy => others u y pc' other (sameViews u ▸ hy)), if_pos (mem_allViews v),
            State.dropPending_reports (report.of_windows (s.loseImage_windows w))] at reports
          exact reports
  · simp [State.takeManifest, windowNumber_of_le beyond]
  · exact State.takeManifest_of_refusal hw (State.manifestRefusal_of_vacant (by rw [vacant]; rfl) _)
  · subst hlen
    intro g hg n taken
    obtain ⟨outside, within⟩ := State.manifestRefusal_of_geom hg (field bytes 16 4)
    refine ⟨fun out => ?_, fun least inside most => ⟨fun selected => ?_, fun unselected => ⟨fun full => ?_, ?_⟩⟩⟩
    · refine State.takeManifest_of_refusal hw (outside fun ⟨least, inside, most⟩ => ?_)
      omega
    · exact State.takeManifest_of_refusal hw ((within ⟨least, inside, most⟩).1 selected)
    · have passed := (within ⟨least, inside, most⟩).2 unselected
      refine (State.takeManifest_of_none hw hg passed).1 ((s.firstFit_eq_none_iff _ _).2 fun p room => ?_)
      exact (s.runAvailable_eq_false_iff _ _ _).2 (full p room)
    · intro p room free lowest
      have passed := (within ⟨least, inside, most⟩).2 unselected
      have fit : s.firstFit w n = some p := by
        refine (s.firstFit_eq_some_iff _ _ _).2 ⟨room, ?_, fun q below => ?_⟩
        · exact Bool.of_not_eq_false fun no => free ((s.runAvailable_eq_false_iff _ _ _).1 no)
        · exact (s.runAvailable_eq_false_iff _ _ _).2 (lowest q below)
      refine ⟨_, manifestCatalogue bytes n p, (State.takeManifest_of_none hw hg passed).2 p fit, ?_, rfl, List.length_replicate⟩
      rw [State.openCatalogue_win, if_pos rfl]
      rfl

end Sys2Proof.Machine
end

section
/-! What a DIGESTS record offers (R55 to R58): conflicts, the digests stored, and how many of them are new. -/

namespace Sys2Proof.Machine

/-! ### Chunk records of a list -/

/-- A list counted by its indices. -/
theorem countP_range_getElem? {α : Type} (p : α → Bool) (l : List α) :
    ((List.range l.length).countP fun j => (l[j]?).any p) = l.countP p := by
  induction l with
  | nil => rfl
  | cons a l ih =>
    rw [List.length_cons, List.range_succ_eq_map, List.countP_cons, List.countP_map, List.countP_cons, ← ih]
    rfl

/-- An offered digest conflicts exactly if some record of the range expects another (R55). -/
theorem anyConflict_iff (i : Nat) (ds : List Digest) (chunks : List Chunk) :
    anyConflict i ds chunks = true ↔
      ∃ j x e d, chunks[i + j]? = some x ∧ x.expected = some e ∧ ds[j]? = some d ∧ e ≠ d := by
  simp only [anyConflict, List.any_eq_true, List.mem_range]
  refine exists_congr fun j => ⟨?_, ?_⟩
  · rintro ⟨-, conflict⟩
    split at conflict
    · next x d hx hd =>
      unfold Chunk.conflicts at conflict
      split at conflict
      · next e he => exact ⟨x, e, d, hx, he, hd, by simpa using conflict⟩
      · cases conflict
    · cases conflict
  · rintro ⟨x, e, d, hx, he, hd, differ⟩
    refine ⟨(List.getElem?_eq_some_iff.1 hd).1, ?_⟩
    rw [hx, hd]
    simp [Chunk.conflicts, he, differ]

/-! ### Digests stored (R56) -/

/-- A record to which a digest may be offered: a present one stands (R56). -/
def Chunk.offered (d : Option Digest) (x : Chunk) : Chunk := { x with expected := x.expected.or d }

@[simp] theorem Chunk.offered_none : Chunk.offered none = id := by
  funext x
  simp [Chunk.offered]

theorem getElem?_offerDigests (i : Nat) (ds : List Digest) (chunks : List Chunk) (j : Nat) :
    (offerDigests i ds chunks)[j]? = (chunks[j]?).map (Chunk.offered (if i ≤ j then ds[j - i]? else none)) := by
  induction ds generalizing i chunks with
  | nil => simp [offerDigests]
  | cons d ds ih =>
    rw [offerDigests, ih, List.getElem?_modify]
    rcases Nat.lt_trichotomy j i with before | rfl | behind
    · simp [Nat.not_le.2 before, Nat.not_le.2 (Nat.lt_succ_of_lt before), Ne.symm before.ne]
    · cases hx : chunks[j]? with
      | none => rfl
      | some x => cases he : x.expected <;> simp [Chunk.offered, he]
    · obtain ⟨n, rfl⟩ : ∃ n, j = i + 1 + n := ⟨j - (i + 1), by omega⟩
      have index : i + 1 + n - i = n + 1 := by omega
      simp [index, show i ≤ i + 1 + n by omega, show i ≠ i + 1 + n by omega]

/-- Where no offered digest conflicts, each record of the range expects the digest offered to it, and the others stand (R56). -/
theorem offerDigests_eq_mapIdx {i : Nat} {ds : List Digest} {chunks : List Chunk} (clear : anyConflict i ds chunks = false) :
    offerDigests i ds chunks =
      chunks.mapIdx fun j x => if i ≤ j ∧ j < i + ds.length then { x with expected := ds[j - i]? } else x := by
  refine List.ext_getElem? fun j => ?_
  rw [getElem?_offerDigests, List.getElem?_mapIdx]
  cases hx : chunks[j]? with
  | none => rfl
  | some x =>
    rw [Option.map_some, Option.map_some, Option.some.injEq]
    by_cases inside : i ≤ j ∧ j < i + ds.length
    · rw [if_pos inside, if_pos inside.1]
      obtain ⟨d, hd⟩ : ∃ d, ds[j - i]? = some d := ⟨_, List.getElem?_eq_getElem (by omega)⟩
      cases he : x.expected with
      | none => simp [Chunk.offered, he]
      | some e =>
        have agree : e = d := by
          by_contra differ
          have conflict := (anyConflict_iff i ds chunks).2
            ⟨j - i, x, e, d, by rwa [show i + (j - i) = j by omega], he, hd, differ⟩
          rw [clear] at conflict
          cases conflict
        simp [Chunk.offered, he, hd, agree]
    · rw [if_neg inside]
      have nothing : (if i ≤ j then ds[j - i]? else none) = none := by
        split
        · next low => exact List.getElem?_eq_none (by omega)
        · rfl
      rw [nothing, Chunk.offered_none, id]

theorem presentDigests_modify (i : Nat) (d : Digest) (chunks : List Chunk) :
    presentDigests (chunks.modify i fun x => { x with expected := some (x.expected.getD d) }) =
      presentDigests chunks + if (chunks[i]?).any fun x => x.expected.isNone then 1 else 0 := by
  induction chunks generalizing i with
  | nil => simp [presentDigests]
  | cons x chunks ih =>
    cases i with
    | zero => cases he : x.expected <;> simp [presentDigests, he]
    | succ i =>
      have rest := ih i
      unfold presentDigests at rest ⊢
      rw [List.modify_succ_cons, List.countP_cons, List.countP_cons, rest, List.getElem?_cons_succ]
      omega

/-- The digests that come new are those of records that expected none (R56). -/
theorem presentDigests_offerDigests (i : Nat) (ds : List Digest) (chunks : List Chunk) :
    presentDigests (offerDigests i ds chunks) =
      presentDigests chunks +
        (List.range ds.length).countP fun j => (chunks[i + j]?).any fun x => x.expected.isNone := by
  induction ds generalizing i chunks with
  | nil => rfl
  | cons d ds ih =>
    have later : ∀ j, (chunks.modify i fun x => { x with expected := some (x.expected.getD d) })[i + 1 + j]? =
        chunks[i + (j + 1)]? := fun j => by
      rw [List.getElem?_modify, show i + (j + 1) = i + 1 + j by omega]
      simp [show i ≠ i + 1 + j by omega]
    rw [offerDigests, ih, presentDigests_modify, List.length_cons, List.range_succ_eq_map, List.countP_cons, List.countP_map]
    simp only [later, Nat.add_zero, Function.comp_def, Nat.succ_eq_add_one]
    omega

theorem Catalogue.offered_received (i : Nat) (ds : List Digest) (c : Catalogue) :
    (c.offered i ds).received =
      c.received + (List.range ds.length).countP fun j => (c.chunks[i + j]?).any fun x => x.expected.isNone := by
  simp only [Catalogue.offered, presentDigests_offerDigests]
  omega

@[simp] theorem Catalogue.offered_length (i : Nat) (ds : List Digest) (c : Catalogue) :
    (c.offered i ds).chunks.length = c.chunks.length := offerDigests_length _ _ _

/-- An offered digest changes no chunk's state (R56). -/
theorem Catalogue.offered_state {i : Nat} {ds : List Digest} {c : Catalogue} {x : Chunk} (h : x ∈ (c.offered i ds).chunks) :
    ∃ y ∈ c.chunks, x.state = y.state := by
  obtain ⟨j, hj⟩ := List.mem_iff_getElem?.1 h
  rw [Catalogue.offered, getElem?_offerDigests, Option.map_eq_some_iff] at hj
  obtain ⟨y, hy, rfl⟩ := hj
  exact ⟨y, List.mem_iff_getElem?.2 ⟨j, hy⟩, rfl⟩

/-- The list digest speaks of the expected digests only (R58). -/
theorem listString_congr {a b : List Chunk} (h : a.map (·.expected) = b.map (·.expected)) : listString a = listString b := by
  have string : ∀ l : List Chunk, listString l = (l.map (·.expected)).flatMap fun e => digestBytes (e.getD 0) := fun l => by
    rw [listString, List.flatMap_map]
  rw [string, h, string]

end Sys2Proof.Machine
end

section
/-! The entry to LOADED (R60 to R62): the load comparison of one chunk and of all of them, and the reports that follow. -/

namespace Sys2Proof.Machine

/-! ### The load comparison of one chunk -/

/-- A chunk record behind its load comparison, for the erased digest of the chunk (R61). -/
def Chunk.compared (erased : Digest) (x : Chunk) : Chunk :=
  match x.state with
  | .computed => { x with state := if x.observed = x.expected then .good else .bad, queued := false }
  | .erased => if x.expected = some erased then { x with state := .good, observed := x.expected, queued := false } else x
  | .unchecked | .filling | .checking | .good | .bad => x

/-- The load comparison of the chunk is a verdict GOOD, and a verdict BAD (R61, R91). -/
def Chunk.passes (x : Chunk) : Bool := decide (x.state = .computed ∧ x.observed = x.expected)
def Chunk.fails (x : Chunk) : Bool := decide (x.state = .computed ∧ x.observed ≠ x.expected)

theorem Chunk.compared_expected (erased : Digest) (x : Chunk) : (x.compared erased).expected = x.expected := by
  unfold Chunk.compared
  split
  · rfl
  · split <;> rfl
  all_goals rfl

/-- The record behind its load comparison, in the words of the statements (R61). -/
theorem Chunk.known_compared (erased : Digest) (x : Chunk) :
    (x.compared erased).known =
      if x.state = .computed then (if x.observed = x.expected then .good else .bad, x.expected, x.observed, x.link)
      else if x.state = .erased ∧ x.expected = some erased then (.good, x.expected, x.expected, x.link)
      else x.known := by
  cases h : x.state
  case erased => by_cases e : x.expected = some erased <;> simp [Chunk.compared, Chunk.known, h, e]
  all_goals simp [Chunk.compared, Chunk.known, h]

/-- A chunk that a load comparison makes GOOD has observed what it expects (R61, R92). -/
theorem Chunk.observed_of_compared_good {erased : Digest} {x : Chunk} (before : x.state ≠ .good)
    (h : (x.compared erased).state = .good) : (x.compared erased).observed = (x.compared erased).expected := by
  unfold Chunk.compared at h ⊢
  split at h
  · next st =>
    simp only [ite_eq_left_iff, reduceCtorEq, imp_false, not_not] at h
    simpa [st] using h
  · next st =>
    split at h
    · next agree => simp [agree]
    · exact absurd h before
  all_goals exact absurd h before

/-- What a verdict of the load comparison counts (R61, R91). -/
def Counters.compared (x : Chunk) (c : Counters) : Counters :=
  { c with
    goodVerdicts := if x.passes then countUp c.goodVerdicts else c.goodVerdicts
    badVerdicts := if x.fails then countUp c.badVerdicts else c.badVerdicts }

/-- The load comparison of one chunk: its record, the frame, the counters and the good count; it reports nothing yet (R61). -/
theorem State.loadCompare_spec {s : State} {w : Fin 32} {i : Nat} {x : Chunk} (c : Catalogue) (e : ErasedDigests)
    (hx : s.chunk? w i = some x) :
    let t := s.loadCompare w c e i
    t.chunk? w i = some (x.compared (erasedDigest c e i)) ∧ (∀ j, j ≠ i → t.chunk? w j = s.chunk? w j) ∧
      (∀ u, u ≠ w → t.win u = s.win u) ∧ Told s t [] ∧ t.reports.counters = s.reports.counters.compared x ∧
      (x.state ≠ .good →
        (t.win w).goodCount =
          (s.win w).goodCount + if (x.compared (erasedDigest c e i)).state = .good then 1 else 0) := by
  intro t
  have other : ∀ j, j ≠ i → (w, j) ≠ (w, i) := fun j h e => h (congrArg Prod.snd e)
  have moved := fun st d => s.moveChunk_spec w i st d x hx
  have kept := fun st d => fun u (h : u ≠ w) => s.moveChunk_win_of_ne w i st d h
  have told := fun st d => s.moveChunk_told w i st d
  have stands : t = s → x.compared (erasedDigest c e i) = x → x.passes = false → x.fails = false →
      t.chunk? w i = some (x.compared (erasedDigest c e i)) ∧ (∀ j, j ≠ i → t.chunk? w j = s.chunk? w j) ∧
        (∀ u, u ≠ w → t.win u = s.win u) ∧ Told s t [] ∧ t.reports.counters = s.reports.counters.compared x ∧
        (x.state ≠ .good →
          (t.win w).goodCount =
            (s.win w).goodCount + if (x.compared (erasedDigest c e i)).state = .good then 1 else 0) := by
    intro same compared passes fails
    rw [same, compared]
    exact ⟨hx, fun _ _ => rfl, fun _ _ => rfl, .refl s, by simp [Counters.compared, passes, fails],
      fun before => by rw [if_neg before]; rfl⟩
  cases hst : x.state with
  | computed =>
    by_cases agree : x.observed = x.expected
    · obtain ⟨chunk, others, _, reports, good⟩ := moved .good x.observed
      have ht : t = (s.moveChunk w i .good x.observed).countGoodVerdict := by simp [t, State.loadCompare, hx, hst, agree]
      rw [ht]
      refine ⟨?_, fun j h => others w j (other j h), kept _ _, (told _ _).silent (State.modCounters_told _ _), ?_, fun _ => ?_⟩
      · refine chunk.trans ?_
        simp [Chunk.compared, hst, agree]
      · show Counters.mk .. = _
        rw [reports]
        simp [Counters.compared, Chunk.passes, Chunk.fails, hst, agree]
      · refine good.trans ?_
        simp [Chunk.compared, hst, agree]
    · obtain ⟨chunk, others, _, reports, good⟩ := moved .bad x.observed
      have ht : t = (s.moveChunk w i .bad x.observed).countBadVerdict := by simp [t, State.loadCompare, hx, hst, agree]
      rw [ht]
      refine ⟨?_, fun j h => others w j (other j h), kept _ _, (told _ _).silent (State.modCounters_told _ _), ?_, fun _ => ?_⟩
      · refine chunk.trans ?_
        simp [Chunk.compared, hst, agree]
      · show Counters.mk .. = _
        rw [reports]
        simp [Counters.compared, Chunk.passes, Chunk.fails, hst, agree]
      · refine good.trans ?_
        simp [Chunk.compared, hst, agree]
  | erased =>
    by_cases agree : x.expected = some (erasedDigest c e i)
    · obtain ⟨chunk, others, _, reports, good⟩ := moved .good x.expected
      have ht : t = s.moveChunk w i .good x.expected := by simp [t, State.loadCompare, hx, hst, agree]
      rw [ht]
      refine ⟨?_, fun j h => others w j (other j h), kept _ _, told _ _, ?_, fun _ => ?_⟩
      · refine chunk.trans ?_
        simp [Chunk.compared, hst, agree]
      · rw [reports]
        simp [Counters.compared, Chunk.passes, Chunk.fails, hst]
      · refine good.trans ?_
        simp [Chunk.compared, hst, agree]
    · exact hst ▸ stands (by simp [t, State.loadCompare, hx, hst, agree]) (by simp [Chunk.compared, hst, agree])
        (by simp [Chunk.passes, hst]) (by simp [Chunk.fails, hst])
  | unchecked | filling | checking | good | bad =>
    exact hst ▸ stands (by simp [t, State.loadCompare, hx, hst]) (by simp [Chunk.compared, hst])
      (by simp [Chunk.passes, hst]) (by simp [Chunk.fails, hst])

/-! ### The load comparisons of a window -/

/-- The number of chunks of window `w` below index `m` of which `p` holds. -/
def State.countBelow (s : State) (w : Fin 32) (m : Nat) (p : Nat → Chunk → Bool) : Nat :=
  (List.range m).countP fun j => (s.chunk? w j).any (p j)

theorem State.countBelow_succ (s : State) (w : Fin 32) (m : Nat) (p : Nat → Chunk → Bool) :
    s.countBelow w (m + 1) p = s.countBelow w m p + if (s.chunk? w m).any (p m) then 1 else 0 := by
  simp only [State.countBelow, List.range_succ, List.countP_append, List.countP_singleton]

theorem countUp_min (n : Nat) : countUp (min 65535 n) = min 65535 (n + 1) := by
  unfold countUp Config.countMax
  split <;> omega

/-- From `s` to `t` the chunks of window `w` below index `m` had their load comparisons (R61). -/
structure LoadCompared (w : Fin 32) (c : Catalogue) (e : ErasedDigests) (m : Nat) (s t : State) : Prop where
  chunk : ∀ j, t.chunk? w j =
    if j < m then (s.chunk? w j).map (Chunk.compared (erasedDigest c e j)) else s.chunk? w j
  others : ∀ u, u ≠ w → t.win u = s.win u
  told : Told s t []
  counters : s.reports.counters.goodVerdicts ≤ 65535 → s.reports.counters.badVerdicts ≤ 65535 →
    t.reports.counters =
      { s.reports.counters with
        goodVerdicts := min 65535 (s.reports.counters.goodVerdicts + s.countBelow w m fun _ => Chunk.passes)
        badVerdicts := min 65535 (s.reports.counters.badVerdicts + s.countBelow w m fun _ => Chunk.fails) }
  goodCount : (∀ j x, s.chunk? w j = some x → x.state ≠ .good) →
    (t.win w).goodCount = (s.win w).goodCount +
      s.countBelow w m fun j x => decide ((x.compared (erasedDigest c e j)).state = .good)

theorem LoadCompared.zero (w : Fin 32) (c : Catalogue) (e : ErasedDigests) (s : State) : LoadCompared w c e 0 s s where
  chunk j := by simp
  others _ _ := rfl
  told := .refl s
  counters good bad := by simp [State.countBelow, good, bad]
  goodCount _ := rfl

theorem LoadCompared.succ {w : Fin 32} {c : Catalogue} {e : ErasedDigests} {m : Nat} {s t : State}
    (h : LoadCompared w c e m s t) : LoadCompared w c e (m + 1) s (t.loadCompare w c e m) := by
  have next : t.chunk? w m = s.chunk? w m := (h.chunk m).trans (if_neg (Nat.lt_irrefl m))
  cases hx : s.chunk? w m with
  | none =>
    have idle : t.loadCompare w c e m = t := by simp [State.loadCompare, next, hx]
    have more : ∀ p, s.countBelow w (m + 1) p = s.countBelow w m p := fun p => by simp [State.countBelow_succ, hx]
    rw [idle]
    refine ⟨fun j => (h.chunk j).trans ?_, h.others, h.told, ?_, ?_⟩
    · by_cases last : j = m
      · rw [last, hx]
        simp
      · simp only [show j < m + 1 ↔ j < m by omega]
    · simpa only [more] using h.counters
    · simpa only [more] using h.goodCount
  | some x =>
    have more : ∀ p, s.countBelow w (m + 1) p = s.countBelow w m p + if p m x then 1 else 0 := fun p => by
      simp [State.countBelow_succ, hx]
    obtain ⟨chunk, rest, others, told, counters, good⟩ := State.loadCompare_spec c e (next.trans hx)
    refine ⟨fun j => ?_, fun u hu => (others u hu).trans (h.others u hu), h.told.silent told, fun hg hb => ?_, fun before => ?_⟩
    · by_cases last : j = m
      · rw [last, chunk, hx, if_pos (Nat.lt_succ_self m)]
        rfl
      · simp only [rest j last, h.chunk j, show j < m + 1 ↔ j < m by omega]
    · rw [counters, h.counters hg hb, more, more]
      simp only [Counters.compared, countUp_min, Counters.mk.injEq, and_true]
      constructor <;> split <;> rfl
    · rw [good (before m x hx), h.goodCount before, more, Nat.add_assoc]
      simp only [decide_eq_true_eq]

theorem State.loadCompares (w : Fin 32) (c : Catalogue) (e : ErasedDigests) (s : State) (m : Nat) :
    LoadCompared w c e m s ((List.range m).foldl (State.loadCompare w c e) s) := by
  induction m with
  | zero => exact .zero w c e s
  | succ m ih =>
    rw [List.range_succ, List.foldl_append]
    exact ih.succ

/-! ### CHUNK_BAD at the entry to LOADED -/

/-- The chunk is BAD. -/
def State.isBad (s : State) (w : Fin 32) (i : Nat) : Bool := (s.chunk? w i).any fun x => decide (x.state = .bad)

theorem State.raiseLoadBad_eq (s : State) (w : Fin 32) (i : Nat) :
    s.raiseLoadBad w i = if s.isBad w i then s.raise (.chunkBad w .load i ((s.win w).body.chunkLen i)) else s := by
  unfold State.raiseLoadBad State.isBad
  cases s.chunk? w i <;> simp

/-- Each BAD chunk has its CHUNK_BAD, in the order of the indices, and nothing but reports changes (R61, R91). -/
theorem State.raiseLoadBads (w : Fin 32) (l : List Nat) (s : State) :
    reported s (l.foldl (State.raiseLoadBad w) s)
        ((l.filter (s.isBad w)).map fun i => .chunkBad w .load i ((s.win w).body.chunkLen i)) ∧
      (l.foldl (State.raiseLoadBad w) s).windows = s.windows ∧
      (l.foldl (State.raiseLoadBad w) s).reports.counters = s.reports.counters := by
  induction l generalizing s with
  | nil => exact ⟨reported_nil s, rfl, rfl⟩
  | cons i l ih =>
    obtain ⟨told, windows, counters⟩ := ih (s.raiseLoadBad w i)
    rw [List.foldl_cons]
    rw [s.raiseLoadBad_eq w i] at told windows counters ⊢
    by_cases bad : s.isBad w i = true
    · rw [if_pos bad] at told windows counters ⊢
      rw [List.filter_cons_of_pos bad]
      exact ⟨(s.raise_reported _).trans told, windows, counters.trans (State.raise_counters _ _)⟩
    · rw [if_neg bad] at told windows counters ⊢
      rw [List.filter_cons_of_neg bad]
      exact ⟨told, windows, counters⟩

end Sys2Proof.Machine
end

section
/-! The entry to LOADED as a whole (R60 to R62). -/

namespace Sys2Proof.Machine

/-- A catalogue behind the load comparisons of all its chunks (R61). -/
def Catalogue.compared (g : Geometry) (c : Catalogue) : Catalogue :=
  { c with chunks := c.chunks.mapIdx fun j x => x.compared (erasedDigest c (erasedDigests g c) j) }

@[simp] theorem Catalogue.compared_length (g : Geometry) (c : Catalogue) : (c.compared g).chunks.length = c.chunks.length := by
  simp [Catalogue.compared]

/-- The chunks of a window's catalogue that the comparisons count, counted in the catalogue itself. -/
theorem State.countBelow_length {s : State} {w : Fin 32} {c : Catalogue} (h : ∀ j, s.chunk? w j = c.chunks[j]?)
    (p : Nat → Chunk → Bool) (f : Nat → Chunk → Chunk) (q : Chunk → Bool) (hp : ∀ j x, p j x = q (f j x)) :
    s.countBelow w c.chunks.length p = (c.chunks.mapIdx f).countP q := by
  rw [← countP_range_getElem?, List.length_mapIdx, State.countBelow]
  refine List.countP_congr fun j _ => ?_
  rw [h, List.getElem?_mapIdx]
  cases c.chunks[j]? <;> simp [hp]

theorem State.countBelow_records {s : State} {w : Fin 32} {c : Catalogue} (h : ∀ j, s.chunk? w j = c.chunks[j]?)
    (q : Chunk → Bool) : (s.countBelow w c.chunks.length fun _ => q) = c.chunks.countP q := by
  simp only [State.countBelow, h, countP_range_getElem?]

/-- From `s` to `t` window `w` entered LOADED with catalogue `c` (R60 to R62). -/
structure EntersLoaded (w : Fin 32) (g : Geometry) (c : Catalogue) (s t : State) : Prop where
  body : (t.win w).body = .loaded g (c.compared g) (erasedDigests g c)
  quiet : (t.win w).quiet = (WinBody.defined g).quietStart
  others : ∀ u, u ≠ w → t.win u = s.win u
  goodCount : (∀ x ∈ c.chunks, x.state ≠ .good) →
    (t.win w).goodCount = (s.win w).goodCount + countState (c.compared g).chunks .good
  reported : reported s t
    (.catalogue w none c.target c.chunks.length c.version (t.win w).goodCount ::
        (((List.range c.chunks.length).filter (t.isBad w)).map fun i =>
          .chunkBad w .load i ((WinBody.opened g c).chunkLen i)) ++
      if 0 < c.chunks.length ∧ (t.win w).goodCount = c.chunks.length then
        [.image w false c.target c.version c.chunks.length c.chunks.length]
      else [])
  counters : s.reports.counters.goodVerdicts ≤ 65535 → s.reports.counters.badVerdicts ≤ 65535 →
    t.reports.counters =
      { s.reports.counters with
        goodVerdicts := min 65535 (s.reports.counters.goodVerdicts + c.chunks.countP Chunk.passes)
        badVerdicts := min 65535 (s.reports.counters.badVerdicts + c.chunks.countP Chunk.fails) }

theorem EntersLoaded.known {w : Fin 32} {g : Geometry} {c : Catalogue} {s t : State} (h : EntersLoaded w g c s t) {i : Nat}
    {x : Chunk} (hx : c.chunks[i]? = some x) : ∃ d, t.chunk? w i = some d ∧
      d.known =
        if x.state = .computed then (if x.observed = x.expected then .good else .bad, x.expected, x.observed, x.link)
        else if x.state = .erased ∧ x.expected = some (erasedDigest c (erasedDigests g c) i) then
          (.good, x.expected, x.expected, x.link)
        else x.known := by
  refine ⟨x.compared (erasedDigest c (erasedDigests g c) i), ?_, x.known_compared _⟩
  rw [State.chunk?, h.body]
  simp [WinBody.cat?, Catalogue.compared, hx]

theorem State.enterLoaded_eq (s : State) (w : Fin 32) (g : Geometry) (c : Catalogue) :
    s.enterLoaded w g c =
      ((List.range c.chunks.length).foldl (State.raiseLoadBad w)
        (((List.range c.chunks.length).foldl (State.loadCompare w c (erasedDigests g c))
            (s.modWin w (Window.entered g c))).raise
          (.catalogue w none c.target c.chunks.length c.version
            (((List.range c.chunks.length).foldl (State.loadCompare w c (erasedDigests g c))
              (s.modWin w (Window.entered g c))).win w).goodCount))).reportImage w 0 := rfl

/-- At the entry to LOADED an image that is complete is reported, and no other (R61, R90). -/
theorem State.reportImage_zero {t : State} {w : Fin 32} {g : Geometry} {c : Catalogue} {e : ErasedDigests}
    (hb : (t.win w).body = .loaded g c e) :
    reported t (t.reportImage w 0)
      (if 0 < c.chunks.length ∧ (t.win w).goodCount = c.chunks.length then
        [.image w false c.target c.version c.chunks.length c.chunks.length]
      else []) := by
  have image := t.reportImage_reported 0 hb
  by_cases whole : 0 < c.chunks.length ∧ (t.win w).goodCount = c.chunks.length
  · rw [if_pos whole, whole.2] at image
    rwa [if_pos whole]
  · rw [if_neg whole, if_neg (by omega)] at image
    rwa [if_neg whole]

theorem State.reportImage_counters (s : State) (w : Fin 32) (n : Nat) :
    (s.reportImage w n).reports.counters = s.reports.counters := by
  unfold State.reportImage
  split
  · dsimp only
    split
    · exact s.raise_counters _
    · split
      · exact s.raise_counters _
      · rfl
  all_goals rfl

theorem State.isBad_congr {s t : State} {w : Fin 32} (h : t.win w = s.win w) : t.isBad w = s.isBad w := by
  funext i
  rw [State.isBad, State.isBad, State.chunk?, State.chunk?, h]

theorem State.enterLoaded_enters (s : State) (w : Fin 32) (g : Geometry) (c : Catalogue) :
    EntersLoaded w g c s (s.enterLoaded w g c) := by
  have work := s.enterLoaded_work w g c
  rw [State.enterLoaded_eq] at work ⊢
  obtain ⟨chunk, others, told, counters, good⟩ :=
    State.loadCompares w c (erasedDigests g c) (s.modWin w (Window.entered g c)) c.chunks.length
  generalize (List.range c.chunks.length).foldl (State.loadCompare w c (erasedDigests g c)) _ = compared at *
  have enteredWin : (s.modWin w (Window.entered g c)).win w = (s.win w).entered g c := by rw [State.win_modWin, if_pos rfl]
  have enteredChunk : ∀ j, (s.modWin w (Window.entered g c)).chunk? w j = c.chunks[j]? := fun j => by
    rw [State.chunk?, enteredWin]
    rfl
  obtain ⟨bads, windows, badCounters⟩ := State.raiseLoadBads w (List.range c.chunks.length)
    (compared.raise (.catalogue w none c.target c.chunks.length c.version (compared.win w).goodCount))
  generalize (List.range c.chunks.length).foldl (State.raiseLoadBad w) _ = spoken at *
  have spokenWin : ∀ u, spoken.win u = compared.win u := fun u => by rw [State.win, windows]; rfl
  have win : ∀ u, (spoken.reportImage w 0).win u = compared.win u := fun u => by rw [State.reportImage_win, spokenWin]
  have body : (compared.win w).body = .loaded g (c.compared g) (erasedDigests g c) := by
    obtain ⟨chunks, hb⟩ := WinBody.modCat_of_outline (work.outline w)
    rw [win, enteredWin] at hb
    replace hb : (compared.win w).body = .loaded g { c with chunks := chunks } (erasedDigests g c) := hb
    have records : chunks = (c.compared g).chunks := by
      refine List.ext_getElem? fun j => ?_
      have here := chunk j
      rw [enteredChunk, State.chunk?, hb] at here
      refine here.trans ?_
      rw [Catalogue.compared, List.getElem?_mapIdx]
      split
      · rfl
      · next beyond => rw [List.getElem?_eq_none (Nat.not_lt.1 beyond)]; rfl
    rw [hb, records]
    rfl
  refine ⟨by rw [win, body], ?_, fun u hu => ?_, fun before => ?_, ?_, fun hg hb => ?_⟩
  · rw [work.quiet, enteredWin]
    rfl
  · rw [win, others u hu, State.win_modWin, if_neg (Ne.symm hu)]
  · rw [win, good fun j x hx => before x (List.mem_iff_getElem?.2 ⟨j, (enteredChunk j).symm.trans hx⟩), enteredWin,
      State.countBelow_length enteredChunk _ (fun j x => x.compared (erasedDigest c (erasedDigests g c) j))
        (fun x => decide (x.state = .good)) fun _ _ => rfl]
    rfl
  · have silent : reported s compared [] :=
      (reported.of_reports_eq (s := s) (t := s.modWin w (Window.entered g c)) rfl rfl).trans told.reported
    have image := spoken.reportImage_zero ((congrArg Window.body (spokenWin w)).trans body)
    rw [Catalogue.compared_length] at image
    have all := ((silent.trans (compared.raise_reported _)).trans bads).trans image
    rw [spokenWin] at all
    have lengths : ∀ i, (compared.win w).body.chunkLen i = (WinBody.opened g c).chunkLen i := fun i => by
      simp only [body, WinBody.chunkLen, WinBody.geom?, WinBody.cat?, Catalogue.compared_length]
      rfl
    have bad : (spoken.reportImage w 0).isBad w = compared.isBad w := State.isBad_congr (win w)
    simp only [bad, win, ← lengths]
    exact all
  · rw [State.reportImage_counters, badCounters, State.raise_counters, counters hg hb,
      State.countBelow_records enteredChunk, State.countBelow_records enteredChunk]
    rfl

end Sys2Proof.Machine
end

section
/-! DIGESTS (R55 to R59): its checks in their order, a rejection, and what a record makes of an OPEN window (O50). -/

namespace Sys2Proof.Machine

/-! ### The checks -/

theorem State.takeDigests_of_bad_count {s : State} {bytes : List Byte} (h : field bytes 9 1 < 1 ∨ 64 < field bytes 9 1) :
    s.takeDigests bytes = .refused s .range := by
  simp only [State.takeDigests]
  split
  · rfl
  · exact if_pos h

theorem State.takeDigests_of_bare {s : State} {bytes : List Byte} {w : Fin 32} (hw : field bytes 8 1 = w.val)
    (count : ¬(field bytes 9 1 < 1 ∨ 64 < field bytes 9 1)) (h : (s.win w).body.cat? = none) :
    s.takeDigests bytes = .refused s .state := by
  simp only [State.takeDigests, windowNumber_of_eq hw, Config.digestsPerRecord]
  cases hb : (s.win w).body <;> simp_all [WinBody.cat?]

theorem State.takeDigests_of_opened {s : State} {bytes : List Byte} {w : Fin 32} {g : Geometry} {c : Catalogue}
    (hw : field bytes 8 1 = w.val) (count : ¬(field bytes 9 1 < 1 ∨ 64 < field bytes 9 1))
    (h : (s.win w).body = .opened g c) :
    s.takeDigests bytes =
      if c.chunks.length < field bytes 10 2 + field bytes 9 1 then .refused s .range
      else .taken (s.offerOpen w g c (field bytes 10 2) (recordDigests (field bytes 9 1) bytes)) := by
  simp only [State.takeDigests, windowNumber_of_eq hw, Config.digestsPerRecord, if_neg count, h]

theorem State.takeDigests_of_loaded {s : State} {bytes : List Byte} {w : Fin 32} {g : Geometry} {c : Catalogue}
    {e : ErasedDigests} (hw : field bytes 8 1 = w.val) (count : ¬(field bytes 9 1 < 1 ∨ 64 < field bytes 9 1))
    (h : (s.win w).body = .loaded g c e) :
    s.takeDigests bytes =
      if c.chunks.length < field bytes 10 2 + field bytes 9 1 then .refused s .range
      else if anyConflict (field bytes 10 2) (recordDigests (field bytes 9 1) bytes) c.chunks then .refused s .conflict
      else .taken s := by
  simp only [State.takeDigests, windowNumber_of_eq hw, Config.digestsPerRecord, if_neg count, h]

/-- A DIGESTS record is taken in a LOADED window, which it leaves alone, or in an OPEN one (R56, R57). -/
theorem State.takeDigests_taken {s t : State} {bytes : List Byte} {w : Fin 32} (hw : field bytes 8 1 = w.val)
    (h : s.takeDigests bytes = .taken t) :
    ((s.win w).body.isLoaded = true ∧ t = s) ∨
      ∃ g c, (s.win w).body = .opened g c ∧
        t = s.offerOpen w g c (field bytes 10 2) (recordDigests (field bytes 9 1) bytes) := by
  by_cases count : field bytes 9 1 < 1 ∨ 64 < field bytes 9 1
  · rw [State.takeDigests_of_bad_count count] at h
    cases h
  · cases hb : (s.win w).body with
    | opened g c =>
      rw [State.takeDigests_of_opened hw count hb] at h
      split at h
      · cases h
      · cases h
        exact .inr ⟨g, c, rfl, rfl⟩
    | loaded g c e =>
      rw [State.takeDigests_of_loaded hw count hb] at h
      split at h
      · cases h
      · split at h <;> cases h
        exact .inl ⟨rfl, rfl⟩
    | vacant | defined _ | rejected _ =>
      rw [State.takeDigests_of_bare hw count (by rw [hb]; rfl)] at h
      cases h

/-! ### A rejection (R50, R59) -/

/-- The window's catalogue becomes `d` (R56). -/
def State.store (w : Fin 32) (g : Geometry) (d : Catalogue) (s : State) : State :=
  s.modWin w fun v => { v with body := .opened g d }

theorem State.store_win (s : State) (w u : Fin 32) (g : Geometry) (d : Catalogue) :
    (s.store w g d).win u = if w = u then { s.win w with body := .opened g d } else s.win u := State.win_modWin _ _ _ _

/-- Storing the catalogue that an OPEN window has changes nothing. -/
theorem State.store_self {s : State} {w : Fin 32} {g : Geometry} {c : Catalogue} (h : (s.win w).body = .opened g c) :
    s.store w g c = s := by
  rw [State.store, State.modWin, ← h]
  exact s.setWin_eq_self w

theorem State.offerOpen_eq_store (s : State) (w : Fin 32) (g : Geometry) (c : Catalogue) (i : Nat) (ds : List Digest) :
    s.offerOpen w g c i ds =
      if anyConflict i ds c.chunks then s.reject w g c .conflict
      else if (c.offered i ds).received = c.chunks.length then
        if chunkDigest (listString (c.offered i ds).chunks) = c.list then
          (s.store w g (c.offered i ds)).enterLoaded w g (c.offered i ds)
        else (s.store w g (c.offered i ds)).reject w g (c.offered i ds) .list
      else s.store w g (c.offered i ds) := s.offerOpen_eq w g c i ds

theorem State.reject_win (s : State) (w u : Fin 32) (g : Geometry) (c : Catalogue) (r : Reason) :
    (s.reject w g c r).win u = if w = u then (s.win w).torn (.rejected g) else s.win u := by
  rw [State.win, s.reject_windows w g c r]
  exact State.win_modWin _ _ _ _

/-- A rejection tears the catalogue down and reports it; with no commit staged in the window it reports no more (R50, R59). -/
theorem State.reject_leaves (s : State) (w : Fin 32) (g : Geometry) (d : Catalogue) (r : Reason) :
    let t := (s.store w g d).reject w g d r
    t.win w = (s.win w).torn (.rejected g) ∧ (∀ u, u ≠ w → t.win u = s.win u) ∧ contextsFreed s t w ∧
      t.scheduler = { s.scheduler with queue := s.scheduler.queue.filter fun e => decide (e.window ≠ w) } ∧
      (s.stagesNoCommit w → t.views = s.views ∧
        t.reports =
          { (s.raise (.catalogue w (some r) d.target d.chunks.length d.version 0)).reports with
            counters := t.reports.counters }) := by
  intro t
  have engine : (s.store w g d).engine = s.engine := State.modWin_engine _ _ _
  have reports : (s.store w g d).reports = s.reports := State.modWin_reports _ _ _
  have queue : (s.store w g d).scheduler = s.scheduler := State.modWin_scheduler _ _ _
  have views : (s.store w g d).views = s.views := State.modWin_views _ _ _
  have bare : (s.store w g d).loseImage w = s.store w g d := State.loseImage_of_not_complete fun g' c e hb => by
    rw [State.store_win, if_pos rfl] at hb
    cases hb
  have raised : t = ((s.store w g d).teardown w (.rejected g)).raise
      (.catalogue w (some r) d.target d.chunks.length d.version 0) := rfl
  obtain ⟨freed, scheduler, _, _⟩ := (s.store w g d).teardown_leaves w (.rejected g)
  refine ⟨?_, fun u other => ?_, ?_, ?_, fun unstaged => ?_⟩
  · rw [State.reject_win, if_pos rfl, State.store_win, if_pos rfl]
    rfl
  · rw [State.reject_win, if_neg (Ne.symm other), State.store_win, if_neg (Ne.symm other)]
  · rw [raised]
    exact freed.of_eq engine (by rw [reports]) (State.raise_engine _ _) (State.raise_counters _ _)
  · rw [raised, State.raise_scheduler, scheduler, queue]
  · have none : (s.store w g d).stagesNoCommit w := by
      simpa only [State.stagesNoCommit, State.view, views] using unstaged
    obtain ⟨_, _, _, _, told, flag, _, _, _, _, counters, frame⟩ := State.teardown_spec none (.rejected g)
    rw [bare] at told flag
    rw [raised]
    generalize (s.store w g d).teardown w (.rejected g) = torn at *
    have same : torn.reports = { s.reports with counters := counters } := by
      have parts := congrArg State.reports frame
      rw [parts, reports] at told flag
      rw [parts, reports]
      exact congrArg₂ (fun l b => { s.reports with queue := l, dropped := b, counters := counters }) told flag
    refine ⟨?_, ?_⟩
    · rw [State.raise_views, frame, ← views]
    · rw [State.raise_eq, State.raise_eq, same]

/-! ### Digests offered to an OPEN window -/

theorem erasedDigests_offered (g : Geometry) (c : Catalogue) (i : Nat) (ds : List Digest) :
    erasedDigests g (c.offered i ds) = erasedDigests g c := by
  simp only [erasedDigests, Catalogue.offered_length]
  rfl

theorem erasedDigest_offered (c : Catalogue) (i : Nat) (ds : List Digest) (e : ErasedDigests) (j : Nat) :
    erasedDigest (c.offered i ds) e j = erasedDigest c e j := by
  simp only [erasedDigest, Catalogue.offered_length]

theorem chunkLen_offered (g : Geometry) (c : Catalogue) (i : Nat) (ds : List Digest) (j : Nat) :
    (WinBody.opened g (c.offered i ds)).chunkLen j = (WinBody.opened g c).chunkLen j := by
  simp only [WinBody.chunkLen, WinBody.geom?, WinBody.cat?, Catalogue.offered_length]
  rfl

theorem listString_compared (g : Geometry) (c : Catalogue) : listString (c.compared g).chunks = listString c.chunks := by
  refine listString_congr (List.ext_getElem? fun j => ?_)
  rw [Catalogue.compared, List.getElem?_map, List.getElem?_map, List.getElem?_mapIdx]
  cases c.chunks[j]? <;> simp [Chunk.compared_expected]

/-- A window becomes LOADED only with a matching list digest (R58, R60). -/
theorem State.offerOpen_isLoaded {s : State} {w : Fin 32} {g : Geometry} {c : Catalogue} {i : Nat} {ds : List Digest}
    (h : ((s.offerOpen w g c i ds).win w).body.isLoaded = true) :
    chunkDigest (listString (c.offered i ds).chunks) = c.list ∧
      s.offerOpen w g c i ds = (s.store w g (c.offered i ds)).enterLoaded w g (c.offered i ds) := by
  rw [State.offerOpen_eq_store] at h ⊢
  split at h
  · rw [State.reject_win, if_pos rfl] at h
    cases h
  · next clear =>
    rw [if_neg clear]
    split at h
    · next whole =>
      rw [if_pos whole]
      split at h
      · next agree => exact ⟨agree, if_pos agree⟩
      · rw [State.reject_win, if_pos rfl] at h
        cases h
    · rw [State.store_win, if_pos rfl] at h
      cases h

/-! ### The law of R89 -/

theorem Window.goodLaw_opened {v : Window} {g : Geometry} {c : Catalogue} (h : v.body = .opened g c) :
    v.goodLaw ↔ v.goodCount = 0 ∧ ∀ x ∈ c.chunks, x.state ≠ .good := by rw [Window.goodLaw, h]

theorem Window.goodLaw_torn (v : Window) (g : Geometry) : (v.torn (.rejected g)).goodLaw := by
  simp [Window.goodLaw, Window.torn]

theorem GoodLaw.of_one {s t : State} {w : Fin 32} {v : Window} (law : GoodLaw s) (others : ∀ u, u ≠ w → t.win u = s.win u)
    (here : t.win w = v) (one : v.goodLaw) : GoodLaw t := fun u => by
  by_cases e : u = w
  · exact e ▸ here ▸ one
  · exact others u e ▸ law u

theorem GoodLaw.rejected {s t : State} {w : Fin 32} {g : Geometry} {c : Catalogue} {r : Reason} (law : GoodLaw s)
    (h : t = s.reject w g c r) : GoodLaw t := by
  have others : ∀ u, u ≠ w → t.win u = s.win u := fun u other => by rw [h, State.reject_win, if_neg (Ne.symm other)]
  have here : t.win w = (s.win w).torn (.rejected g) := by rw [h, State.reject_win, if_pos rfl]
  exact law.of_one others here (Window.goodLaw_torn _ g)

/-- The GOOD chunks of a window that entered LOADED are those its load comparisons made GOOD, and its good count their
number (R61, R89). -/
theorem GoodLaw.entered {s t : State} {w : Fin 32} {g : Geometry} {c : Catalogue} (law : GoodLaw s)
    (hb : (s.win w).body = .opened g c) (enters : EntersLoaded w g c s t) : GoodLaw t := by
  obtain ⟨zero, before⟩ := (Window.goodLaw_opened hb).1 (law w)
  refine law.of_one enters.others rfl ?_
  rw [Window.goodLaw, enters.body]
  refine ⟨by rw [enters.goodCount before, zero, Nat.zero_add], fun x hx good => ?_⟩
  obtain ⟨j, hj⟩ := List.mem_iff_getElem?.1 hx
  rw [Catalogue.compared, List.getElem?_mapIdx, Option.map_eq_some_iff] at hj
  obtain ⟨y, hy, rfl⟩ := hj
  exact Chunk.observed_of_compared_good (before y (List.mem_iff_getElem?.2 ⟨j, hy⟩)) good

theorem GoodLaw.stored {s t : State} {w : Fin 32} {g : Geometry} {c : Catalogue} (law : GoodLaw s)
    (hb : (s.win w).body = .opened g c) {i : Nat} {ds : List Digest} (h : t = s.store w g (c.offered i ds)) :
    GoodLaw t := by
  obtain ⟨zero, before⟩ := (Window.goodLaw_opened hb).1 (law w)
  have others : ∀ u, u ≠ w → t.win u = s.win u := fun u other => by rw [h, State.store_win, if_neg (Ne.symm other)]
  have here : t.win w = { s.win w with body := .opened g (c.offered i ds) } := by rw [h, State.store_win, if_pos rfl]
  refine law.of_one others here ((Window.goodLaw_opened (by rfl)).2 ⟨zero, fun x hx => ?_⟩)
  obtain ⟨y, hy, same⟩ := Catalogue.offered_state hx
  rw [same]
  exact before y hy

theorem GoodLaw.offered {s t : State} {w : Fin 32} {g : Geometry} {c : Catalogue} (law : GoodLaw s)
    (hb : (s.win w).body = .opened g c) {i : Nat} {ds : List Digest} (h : t = s.offerOpen w g c i ds) : GoodLaw t := by
  rw [State.offerOpen_eq_store] at h
  have opened : ((s.store w g (c.offered i ds)).win w).body = .opened g (c.offered i ds) := by
    rw [State.store_win, if_pos rfl]
  generalize stores : s.store w g (c.offered i ds) = m at h opened
  have kept : GoodLaw m := law.stored hb stores.symm
  split at h
  · exact law.rejected h
  · split at h
    · split at h
      · exact kept.entered opened (h ▸ m.enterLoaded_enters w g (c.offered i ds))
      · exact kept.rejected h
    · exact h ▸ kept

/-! ### The obligation -/

/-- Settles O50: `EntersLoaded` for the entry to LOADED, `State.reject_leaves` for both rejections. -/
theorem onlyAMatchingListDigestLoadsAWindow : Obligations.OnlyAMatchingListDigestLoadsAWindow := by
  refine ⟨fun s t bytes w hw taken => ⟨fun loaded => ?_, fun unloaded loads => ?_, fun law => ?_⟩,
    fun s bytes outside => ?_, fun s bytes w k first ds hw hk least most hfirst hds => ⟨fun bare => ?_, fun c hc => ?_⟩⟩
  · rcases State.takeDigests_taken hw taken with ⟨_, same⟩ | ⟨g, c, hb, _⟩
    · exact same
    · rw [hb] at loaded
      cases loaded
  · rcases State.takeDigests_taken hw taken with ⟨loaded, _⟩ | ⟨g, c, hb, rfl⟩
    · exact absurd (unloaded.symm.trans loaded) nofun
    · obtain ⟨agree, entered⟩ := State.offerOpen_isLoaded loads
      rw [entered]
      obtain ⟨body, quiet, _, _, _, _⟩ := State.enterLoaded_enters (s.store w g (c.offered (field bytes 10 2) _)) w g
        (c.offered (field bytes 10 2) (recordDigests (field bytes 9 1) bytes))
      refine ⟨g, c, _, _, hb, body, (congrArg chunkDigest (listString_compared g _)).trans agree, rfl, rfl, ?_, quiet⟩
      rw [Catalogue.compared_length]
      rfl
  · rcases State.takeDigests_taken hw taken with ⟨_, rfl⟩ | ⟨g, c, hb, offers⟩
    · exact law
    · exact law.offered hb offers
  · rcases outside with beyond | count
    · simp [State.takeDigests, windowNumber_of_le beyond]
    · exact State.takeDigests_of_bad_count count
  · exact State.takeDigests_of_bare hw (by omega) bare
  · have digests : recordDigests k bytes = ds := hds.symm
    have count : ¬(field bytes 9 1 < 1 ∨ 64 < field bytes 9 1) := by omega
    have ofOpened {g c'} := State.takeDigests_of_opened (s := s) (g := g) (c := c') hw count
    have ofLoaded {g c' e} := State.takeDigests_of_loaded (s := s) (g := g) (c := c') (e := e) hw count
    simp only [hk, hfirst, digests] at ofOpened ofLoaded
    have many : ds.length = k := by rw [hds, List.length_map, List.length_range]
    intro conflict
    have conflicts : anyConflict first ds c.chunks = true ↔ conflict := anyConflict_iff _ _ _
    refine ⟨fun beyond => ?_, fun within loaded => ?_, fun g hb within => ?_⟩
    · cases hb : (s.win w).body with
      | opened g d =>
        rw [hb] at hc
        cases hc
        rw [ofOpened hb, if_pos beyond]
      | loaded g d e =>
        rw [hb] at hc
        cases hc
        rw [ofLoaded hb, if_pos beyond]
      | vacant | defined _ | rejected _ =>
        rw [hb] at hc
        cases hc
    · cases hb : (s.win w).body with
      | loaded g d e =>
        rw [hb] at hc
        cases hc
        rw [ofLoaded hb, if_neg (Nat.not_lt.2 within)]
        exact ⟨fun h => if_pos (conflicts.2 h), fun h => if_neg (mt conflicts.1 h)⟩
      | vacant | defined _ | opened _ _ | rejected _ =>
        rw [hb] at loaded
        cases loaded
    · have ruling := (ofOpened hb).trans (if_neg (Nat.not_lt.2 within))
      rw [State.offerOpen_eq_store] at ruling
      intro rejected
      refine ⟨fun h => ⟨_, ruling.trans (congrArg _ (if_pos (conflicts.2 h))), ?_⟩, fun clear received chunks hr hch => ?_⟩
      · have left := s.reject_leaves w g c .conflict
        rw [State.store_self hb] at left
        exact left
      · have agreed : ¬anyConflict first ds c.chunks = true := mt conflicts.1 clear
        rw [if_neg agreed] at ruling
        have length : (c.offered first ds).chunks.length = c.chunks.length := Catalogue.offered_length _ _ _
        obtain rfl : received = (c.offered first ds).received := by rw [hr, Catalogue.offered_received, many]
        obtain rfl : chunks = (c.offered first ds).chunks := by
          rw [hch, Catalogue.offered, offerDigests_eq_mapIdx (Bool.not_eq_true _ ▸ agreed), many]
        refine ⟨fun part => ruling.trans (congrArg _ (if_neg part)),
          fun whole other => ⟨_, ruling.trans (congrArg _ ((if_pos whole).trans (if_neg other))), ?_⟩,
          fun whole agree => ⟨_, erasedDigests g c, ruling.trans (congrArg _ ((if_pos whole).trans (if_pos agree))), ?_⟩⟩
        · have left := s.reject_leaves w g (c.offered first ds) .list
          rw [length] at left
          exact left
        · have enters := (s.store w g (c.offered first ds)).enterLoaded_enters w g (c.offered first ds)
          generalize stores : s.store w g (c.offered first ds) = m at enters ⊢
          have reports : m.reports = s.reports := stores ▸ State.modWin_reports _ _ _
          have told := enters.reported
          have counted := enters.counters
          have lengths : ∀ i, (s.win w).body.chunkLen i = (WinBody.opened g (c.offered first ds)).chunkLen i := fun i => by
            rw [hb, chunkLen_offered]
          rw [length, reported, reports] at told
          rw [reports] at counted
          refine ⟨fun i x hx => ?_, rfl, rfl, fun u j other => ?_, ?_, counted⟩
          · rw [← erasedDigest_offered c first ds, ← erasedDigests_offered g c first ds]
            exact enters.known hx
          · rw [sameChunk, State.chunk?, enters.others u other, ← stores, State.store_win, if_neg (Ne.symm other)]
            rfl
          · simp only [lengths]
            exact told

end Sys2Proof.Machine
end

section
/-! The laws of contexts (R98, R99) in one word for both kinds of context: what each context holds, and how the laws stand behind a
change of one chunk record and of the context that follows it. -/

namespace Sys2Proof.Machine

/-! ### What a context holds -/

/-- The state of a chunk that a stream of this kind holds (R98). -/
def StreamKind.state : StreamKind → ChunkState
  | .program => .filling
  | .read => .unchecked

/-- The chunk a context holds, with the state that such a chunk is in (R97, R98). -/
def State.held (s : State) : Link → Option (Fin 32 × Nat × ChunkState)
  | .stream k => (s.stream k).map fun x => (x.window, x.chunk, x.kind.state)
  | .readback => s.engine.readback.map fun r => (r.window, r.chunk, .checking)

/-- The law of R99: the recency list holds exactly the BUSY stream contexts, each once. -/
structure RecencyLaw (s : State) : Prop where
  nodup : s.engine.recency.Nodup
  busy : ∀ k, k ∈ s.engine.recency ↔ (s.stream k).isSome = true

/-- The chunk is in no state that needs a context (R68). -/
def ChunkState.alone (st : ChunkState) : Prop := st ≠ .filling ∧ st ≠ .checking

/-- The law of R98: a context and the chunk it holds name each other, and the chunk is in the state that goes with the context. -/
structure HeldLaw (s : State) : Prop where
  chunk : ∀ l w i st, s.held l = some (w, i, st) → ∃ c, s.chunk? w i = some c ∧ c.link = some l ∧ c.state = st
  context : ∀ w i c l, s.chunk? w i = some c → c.link = some l → ∃ st, s.held l = some (w, i, st)
  alone : ∀ w i c, s.chunk? w i = some c → c.link = none → c.state.alone

theorem State.streamHolds_iff (s : State) (k : Fin 3) (x : StreamCtx) :
    s.streamHolds k x ↔
      ∃ c, s.chunk? x.window x.chunk = some c ∧ c.link = some (.stream k) ∧ c.state = x.kind.state := by
  unfold State.streamHolds
  cases x.kind <;> rfl

theorem contextLaw_iff (s : State) : ContextLaw s ↔ RecencyLaw s ∧ HeldLaw s := by
  constructor
  · rintro ⟨nodup, busy, streams, readback, links⟩
    refine ⟨⟨nodup, busy⟩, fun l w i st hl => ?_, fun w i c l hc hl => ?_, fun w i c hc hl => ?_⟩
    · cases l with
      | stream k =>
        obtain ⟨x, hx, e⟩ := Option.map_eq_some_iff.1 hl
        cases e
        exact (s.streamHolds_iff k x).1 (streams k x hx)
      | readback =>
        obtain ⟨r, hr, e⟩ := Option.map_eq_some_iff.1 hl
        cases e
        exact readback r hr
    · have stands := links w i c hc
      rw [State.linkStands, hl] at stands
      cases l <;> obtain ⟨x, hx, rfl, rfl⟩ := stands <;> exact ⟨_, by rw [State.held, hx]; rfl⟩
    · have stands := links w i c hc
      rwa [State.linkStands, hl] at stands
  · rintro ⟨⟨nodup, busy⟩, chunk, context, alone⟩
    refine ⟨nodup, busy, fun k x hx => (s.streamHolds_iff k x).2 ?_, fun r hr => ?_, fun w i c hc => ?_⟩
    · exact chunk (.stream k) _ _ _ (by rw [State.held, hx]; rfl)
    · exact chunk .readback _ _ _ (by rw [State.held, hr]; rfl)
    · unfold State.linkStands
      cases hl : c.link with
      | none => exact alone w i c hc hl
      | some l =>
        obtain ⟨st, hs⟩ := context w i c l hc hl
        cases l <;>
        · obtain ⟨x, hx, e⟩ := Option.map_eq_some_iff.1 hs
          cases e
          exact ⟨x, hx, rfl, rfl⟩

theorem ContextLaw.recency {s : State} (law : ContextLaw s) : RecencyLaw s := ((contextLaw_iff s).1 law).1

theorem ContextLaw.heldLaw {s : State} (law : ContextLaw s) : HeldLaw s := ((contextLaw_iff s).1 law).2

/-- The context that a chunk record names holds the chunk, in the state the chunk is in. -/
theorem HeldLaw.held_of_link {s : State} (law : HeldLaw s) {w : Fin 32} {i : Nat} {c : Chunk} {l : Link}
    (hc : s.chunk? w i = some c) (hl : c.link = some l) : s.held l = some (w, i, c.state) := by
  obtain ⟨st, held⟩ := law.context w i c l hc hl
  obtain ⟨d, hd, _, state⟩ := law.chunk l w i st held
  rw [hc] at hd
  obtain rfl := Option.some.inj hd
  rw [held, state]

/-- A stream context holds a FILLING or an UNCHECKED chunk, and the read-back context a CHECKING one. -/
theorem State.held_state {s : State} {l : Link} {w : Fin 32} {i : Nat} {st : ChunkState} (h : s.held l = some (w, i, st)) :
    st = .filling ∨ st = .unchecked ∨ st = .checking := by
  cases l with
  | stream k =>
    obtain ⟨x, _, e⟩ := Option.map_eq_some_iff.1 h
    cases e
    cases x.kind
    · exact .inl rfl
    · exact .inr (.inl rfl)
  | readback =>
    obtain ⟨r, _, e⟩ := Option.map_eq_some_iff.1 h
    cases e
    exact .inr (.inr rfl)

/-- A chunk in another state than a context's is linked to none (R68). -/
theorem HeldLaw.unlinked {s : State} (law : HeldLaw s) {w : Fin 32} {i : Nat} {c : Chunk} (hc : s.chunk? w i = some c)
    (h : c.state ≠ .filling ∧ c.state ≠ .unchecked ∧ c.state ≠ .checking) : c.link = none := by
  cases hl : c.link with
  | none => rfl
  | some l =>
    obtain ⟨filling, unchecked, checking⟩ := h
    rcases State.held_state (law.held_of_link hc hl) with e | e | e
    · exact absurd e filling
    · exact absurd e unchecked
    · exact absurd e checking

theorem State.held_of_engine {s t : State} (h : t.engine = s.engine) (l : Link) : t.held l = s.held l := by
  cases l <;> simp only [State.held, State.stream, h]

theorem RecencyLaw.of_engine {s t : State} (law : RecencyLaw s) (h : t.engine = s.engine) : RecencyLaw t := by
  refine ⟨by rw [h]; exact law.nodup, fun k => ?_⟩
  rw [State.stream, h]
  exact law.busy k

/-! ### Changes of chunk records -/

/-- With the contexts as they were, the law stands if every record keeps its link, and its state too unless it is linked to
nothing. -/
theorem HeldLaw.of_records {s t : State} (law : HeldLaw s) (held : ∀ l, t.held l = s.held l)
    (back : ∀ w i d, t.chunk? w i = some d → (s.chunk? w i).isSome = true)
    (forth : ∀ w i c, s.chunk? w i = some c →
      ∃ d, t.chunk? w i = some d ∧ d.link = c.link ∧ (d.state = c.state ∨ (c.link = none ∧ d.state.alone))) : HeldLaw t := by
  refine ⟨fun l w i st hl => ?_, fun w i d l hd hl => ?_, fun w i d hd hl => ?_⟩
  · rw [held] at hl
    obtain ⟨c, hc, link, rfl⟩ := law.chunk l w i st hl
    obtain ⟨d, hd, same, state⟩ := forth w i c hc
    refine ⟨d, hd, same.trans link, state.elim id fun h => ?_⟩
    rw [link] at h
    cases h.1
  · obtain ⟨c, hc⟩ := Option.isSome_iff_exists.1 (back w i d hd)
    obtain ⟨e, he, same, _⟩ := forth w i c hc
    rw [hd] at he
    obtain rfl := Option.some.inj he
    rw [held]
    exact law.context w i c l hc (same.symm.trans hl)
  · obtain ⟨c, hc⟩ := Option.isSome_iff_exists.1 (back w i d hd)
    obtain ⟨e, he, same, state⟩ := forth w i c hc
    rw [hd] at he
    obtain rfl := Option.some.inj he
    rcases state with state | ⟨_, alone⟩
    · rw [state]
      exact law.alone w i c hc (same.symm.trans hl)
    · exact alone

/-- A chunk record that says the same in `t` was there in `s`. -/
theorem sameChunk.back {s t : State} {w : Fin 32} {i : Nat} {d : Chunk} (h : sameChunk s t w i) (hd : t.chunk? w i = some d) :
    ∃ c, s.chunk? w i = some c ∧ c.known = d.known := by
  rw [sameChunk, hd] at h
  exact Option.map_eq_some_iff.1 h.symm

theorem Chunk.state_link_of_known {c d : Chunk} (h : c.known = d.known) : c.state = d.state ∧ c.link = d.link := by
  simp only [Chunk.known, Prod.mk.injEq] at h
  exact ⟨h.1, h.2.2.2⟩

theorem ContextLaw.of_same {s t : State} (law : ContextLaw s) (engine : t.engine = s.engine) (known : ∀ w i, sameChunk s t w i) :
    ContextLaw t := by
  refine (contextLaw_iff t).2 ⟨law.recency.of_engine engine, law.heldLaw.of_records (State.held_of_engine engine)
    (fun w i d hd => ?_) fun w i c hc => ?_⟩
  · obtain ⟨c, hc, _⟩ := (known w i).back hd
    rw [hc]
    rfl
  · obtain ⟨d, hd, e⟩ := (known w i).knows ⟨c, hc, rfl⟩
    obtain ⟨state, link⟩ := Chunk.state_link_of_known e
    exact ⟨d, hd, link, .inl state⟩

/-- One chunk gets another record, the context it named lets it go, and the context it now names, which was FREE or its own, holds
it. -/
theorem HeldLaw.of_one {s t : State} (law : HeldLaw s) {w : Fin 32} {i : Nat} {c d : Chunk} (hc : s.chunk? w i = some c)
    (hd : t.chunk? w i = some d) (others : ∀ u j, (u, j) ≠ (w, i) → sameChunk s t u j)
    (held : ∀ l, t.held l =
      if d.link = some l then some (w, i, d.state) else if c.link = some l then none else s.held l)
    (free : ∀ l, d.link = some l → c.link = some l ∨ s.held l = none) (alone : d.link = none → d.state.alone) : HeldLaw t := by
  have apart : ∀ u j f, (u, j) ≠ (w, i) → t.chunk? u j = some f →
      ∃ g, s.chunk? u j = some g ∧ g.state = f.state ∧ g.link = f.link := by
    intro u j f h hf
    obtain ⟨g, hg, e⟩ := (others u j h).back hf
    exact ⟨g, hg, Chunk.state_link_of_known e⟩
  have here : ∀ f, t.chunk? w i = some f → f = d := fun f hf => by
    rw [hd] at hf
    exact (Option.some.inj hf).symm
  refine ⟨fun l u j st hl => ?_, fun u j f l hf hl => ?_, fun u j f hf hl => ?_⟩
  · rw [held] at hl
    split at hl
    · next link => cases hl; exact ⟨d, hd, link, rfl⟩
    · split at hl
      · cases hl
      · next not_its =>
        obtain ⟨g, hg, link, state⟩ := law.chunk l u j st hl
        have other : (u, j) ≠ (w, i) := by
          intro h
          cases h
          rw [hc] at hg
          exact not_its (Option.some.inj hg ▸ link)
        obtain ⟨f, hf, e⟩ := (others u j other).knows ⟨g, hg, rfl⟩
        obtain ⟨state', link'⟩ := Chunk.state_link_of_known e
        exact ⟨f, hf, link'.trans link, state'.trans state⟩
  · by_cases h : (u, j) = (w, i)
    · cases h
      cases here f hf
      exact ⟨d.state, by rw [held, if_pos hl]⟩
    · obtain ⟨g, hg, _, link⟩ := apart u j f h hf
      have holds := law.held_of_link hg (link.trans hl)
      have not_its : c.link ≠ some l := fun its => by
        rw [law.held_of_link hc its] at holds
        simp only [Option.some.injEq, Prod.mk.injEq] at holds
        obtain ⟨hw, hi, _⟩ := holds
        exact h (by rw [hw, hi])
      have not_now : d.link ≠ some l := fun now => (free l now).elim not_its fun none => by
        rw [none] at holds
        cases holds
      exact ⟨g.state, by rw [held, if_neg not_now, if_neg not_its, holds]⟩
  · by_cases h : (u, j) = (w, i)
    · cases h
      cases here f hf
      exact alone hl
    · obtain ⟨g, hg, state, link⟩ := apart u j f h hf
      rw [← state]
      exact law.alone u j g hg (link.trans hl)

/-! ### Contexts that are taken and freed (R97, R99) -/

theorem RecencyLaw.freeStream {s : State} (law : RecencyLaw s) (k : Fin 3) : RecencyLaw (s.freeStream k) := by
  obtain ⟨streams, recency, _⟩ := s.freeStream_spec k
  refine ⟨by rw [recency]; exact law.nodup.filter _, fun j => ?_⟩
  rw [recency, streams, List.mem_filter, law.busy]
  by_cases h : j = k <;> simp [h]

/-- The recency list behind a step of a stream: the context is at its front if it holds a chunk, and out of it otherwise. -/
theorem RecencyLaw.of_step {s t : State} (law : RecencyLaw s) {k : Fin 3} {w : Fin 32} {i : Nat} {holds : Option StreamCtx}
    {known : ChunkState × Option Digest × Option Digest × Option Link} {counters : Counters} {good : Nat} {raised : List Report}
    (step : StreamStep s t k w i holds known counters good raised) : RecencyLaw t := by
  have out : (s.engine.recency.filter (· ≠ k)).Nodup := law.nodup.filter _
  refine ⟨?_, fun j => ?_⟩
  · rw [step.recency]
    split
    · exact List.nodup_cons.2 ⟨by simp, out⟩
    · exact out
  · rw [step.recency, step.streams]
    by_cases h : j = k
    · subst h
      cases holds <;> simp
    · cases holds <;> simp [h, law.busy]

theorem RecencyLaw.endDigesting {s : State} (law : RecencyLaw s) (w : Fin 32) (i : Nat) : RecencyLaw (s.endDigesting w i) := by
  unfold State.endDigesting
  split
  · exact (law.freeStream _).of_engine rfl
  · exact ⟨law.nodup, law.busy⟩
  · exact law

/-- What ends digesting a chunk frees the context that the chunk names, and no other (R70, R104, R114). -/
theorem State.held_endDigesting (s : State) (w : Fin 32) (i : Nat) (c : Chunk) (hc : s.chunk? w i = some c) (l : Link) :
    (s.endDigesting w i).held l = if c.link = some l then none else s.held l := by
  obtain ⟨_, _, streams, readback, _⟩ := s.endDigesting_spec w i c hc
  cases l with
  | stream k => simp only [State.held, streams]; split <;> rfl
  | readback => simp only [State.held, readback]; split <;> rfl

/-- A step of a stream keeps the laws if the chunk's record follows the context, and a chunk that is let go is in no state that
needs a context. -/
theorem ContextLaw.of_step {s t : State} (law : ContextLaw s) {k : Fin 3} {w : Fin 32} {i : Nat} {c : Chunk}
    {holds : Option StreamCtx} {st : ChunkState} {e o : Option Digest} {link : Option Link} {counters : Counters} {good : Nat}
    {raised : List Report} (step : StreamStep s t k w i holds (st, e, o, link) counters good raised) (hc : s.chunk? w i = some c)
    (before : c.link = some (.stream k) ∨ (c.link = none ∧ s.stream k = none))
    (follows : link = holds.map fun _ => Link.stream k)
    (here : ∀ x, holds = some x → x.window = w ∧ x.chunk = i ∧ st = x.kind.state) (alone : holds = none → st.alone) :
    ContextLaw t := by
  obtain ⟨d, hd, known⟩ := step.chunk
  obtain ⟨state, _, _, linked⟩ : d.state = st ∧ d.expected = e ∧ d.observed = o ∧ d.link = link := by
    simpa [Chunk.known] using known
  rw [follows] at linked
  have names : ∀ l, c.link = some l → l = .stream k := fun l hl => by
    rcases before with its | ⟨none, _⟩
    · exact Option.some.inj (hl.symm.trans its)
    · rw [hl] at none; cases none
  refine (contextLaw_iff t).2 ⟨law.recency.of_step step, law.heldLaw.of_one hc hd step.others (fun l => ?_) (fun l hl => ?_) fun hl => ?_⟩
  · by_cases hk : l = .stream k
    · subst hk
      simp only [State.held, step.streams, linked, state]
      cases hh : holds with
      | none =>
        rcases before with its | ⟨_, free⟩
        · simp [its]
        · simp [free]
      | some x =>
        obtain ⟨rfl, rfl, rfl⟩ := here x hh
        simp
    · rw [if_neg, if_neg]
      · cases l with
        | readback => simp only [State.held, step.readback]
        | stream j =>
          have : j ≠ k := fun h => hk (h ▸ rfl)
          simp only [State.held, step.streams, if_neg this]
      · exact fun hl => hk (names l hl)
      · rw [linked]
        cases holds <;> simp [Ne.symm hk]
  · rw [linked] at hl
    obtain ⟨x, _, rfl⟩ := Option.map_eq_some_iff.1 hl
    exact before.imp_right fun free => by rw [State.held, free.2]; rfl
  · rw [linked] at hl
    rw [state]
    exact alone (Option.map_eq_none_iff.1 hl)

end Sys2Proof.Machine
end

section
/-! What each operation on chunks keeps of the laws of contexts (R98, R99). -/

namespace Sys2Proof.Machine

/-! ### The end of what digests a chunk, and where the chunk goes then -/

theorem sameChunk.of_eq {s t : State} {w : Fin 32} {i : Nat} (h : t.chunk? w i = s.chunk? w i) : sameChunk s t w i :=
  congrArg (Option.map Chunk.known) h

/-- A chunk that nothing digests any more may go to any state that needs no context (R70, R71). -/
theorem ContextLaw.settle {s : State} (law : ContextLaw s) (w : Fin 32) (i : Nat) {st : ChunkState} (d : Option Digest)
    (alone : st.alone) : ContextLaw ((s.endDigesting w i).moveChunk w i st d) := by
  cases hc : s.chunk? w i with
  | none =>
    rw [State.endDigesting_none hc, s.moveChunk_none w i st d hc]
    exact law
  | some c =>
    obtain ⟨ended, others, _⟩ := s.endDigesting_spec w i c hc
    obtain ⟨moved, others', engine, _⟩ := (s.endDigesting w i).moveChunk_spec w i st d _ ended
    refine (contextLaw_iff _).2 ⟨(law.recency.endDigesting w i).of_engine engine,
      law.heldLaw.of_one hc moved (fun u j h => .of_eq ((others' u j h).trans (others u j h))) (fun l => ?_) nofun fun _ => alone⟩
    rw [State.held_of_engine engine, s.held_endDigesting w i c hc]
    exact (if_neg (by simp)).symm

theorem ContextLaw.disturb {s : State} (law : ContextLaw s) (w : Fin 32) (i : Nat) : ContextLaw (s.disturb w i) :=
  law.settle w i none ⟨nofun, nofun⟩

theorem ContextLaw.eraseFully {s : State} (law : ContextLaw s) (w : Fin 32) (i : Nat) : ContextLaw (s.eraseFully w i) := by
  unfold State.eraseFully
  split
  · split
    · exact law.settle w i _ ⟨nofun, nofun⟩
    · exact law.settle w i _ ⟨nofun, nofun⟩
  all_goals exact law.settle w i _ ⟨nofun, nofun⟩

/-- The read stream of an UNCHECKED chunk may be dropped (R107, R108). -/
theorem ContextLaw.drop {s : State} (law : ContextLaw s) {w : Fin 32} {i : Nat} {c : Chunk} (hc : s.chunk? w i = some c)
    (un : c.state = .unchecked) : ContextLaw (s.endDigesting w i) := by
  obtain ⟨ended, others, _⟩ := s.endDigesting_spec w i c hc
  refine (contextLaw_iff _).2 ⟨law.recency.endDigesting w i,
    law.heldLaw.of_one hc ended (fun u j h => .of_eq (others u j h)) (fun l => ?_) nofun fun _ => ?_⟩
  · rw [s.held_endDigesting w i c hc]
    exact (if_neg (by simp)).symm
  · rw [un]
    exact ⟨nofun, nofun⟩

/-! ### Streams (R74, R75, R82, R99 to R103) -/

theorem State.verdictOf_alone (s : State) (w : Fin 32) (expected : Option Digest) (digest : Digest) :
    (s.verdictOf w expected digest).alone := by
  unfold State.verdictOf
  split
  · exact ⟨nofun, nofun⟩
  · split <;> exact ⟨nofun, nofun⟩

theorem StreamKind.state_ne_good (k : StreamKind) : k.state ≠ .good := by cases k <;> nofun

/-- A stream that has digested further goes on or is complete (R75, R103, R107, R109). -/
theorem ContextLaw.advance {s : State} (law : ContextLaw s) {k : Fin 3} {x : StreamCtx} {c : Chunk} (source : Source)
    (hc : s.chunk? x.window x.chunk = some c) (hl : c.link = some (.stream k)) (hs : c.state = x.kind.state) :
    ContextLaw (s.advanceStream k x source) := by
  by_cases whole : x.frontier = (s.win x.window).body.chunkLen x.chunk
  · rw [s.advanceStream_whole k x source whole]
    have step := s.finalizeStream_step k x.window x.chunk x.run source c hc (hs ▸ x.kind.state_ne_good)
    exact law.of_step step hc (.inl hl) rfl nofun fun _ => s.verdictOf_alone _ _ _
  · rw [s.advanceStream_short k x source whole]
    have step := s.moveStreamToFront_step k x x.window x.chunk c hc
    exact law.of_step step hc (.inl hl) hl (fun y hy => by cases hy; exact ⟨rfl, rfl, hs⟩) nofun

/-- A FREE context takes a chunk that is linked to nothing, and digests its first bytes (R74, R100, R106). -/
theorem ContextLaw.start {s : State} (law : ContextLaw s) {k : Fin 3} {x : StreamCtx} {f : Chunk → Chunk} {c : Chunk}
    (source : Source) (hk : s.stream k = none) (hc : s.chunk? x.window x.chunk = some c) (unlinked : c.link = none)
    (hl : (f c).link = some (.stream k)) (hs : (f c).state = x.kind.state) :
    ContextLaw ((s.taking k x f).advanceStream k x source) := by
  have step := s.takeStream_step k x x.window x.chunk c f hc
  obtain ⟨d, hd, known⟩ := step.chunk
  obtain ⟨state, link⟩ := Chunk.state_link_of_known known
  have taken : ContextLaw (s.taking k x f) :=
    law.of_step step hc (.inr ⟨unlinked, hk⟩) hl (fun y hy => by cases hy; exact ⟨rfl, rfl, hs⟩) nofun
  exact taken.advance source hd (link.trans hl) (state.trans hs)

/-- An eviction frees a context and lets its chunk go as UNCHECKED (R86, R101). -/
theorem Evicted.step {s t : State} {k : Fin 3} {x : StreamCtx} {victim : Chunk} (h : Evicted s t k x victim) :
    StreamStep s t k x.window x.chunk none
      (.unchecked, victim.expected, if x.kind = .read then victim.observed else none, none)
      { s.reports.counters with evictions := countUp s.reports.counters.evictions } (s.win x.window).goodCount [] where
  chunk := h.chunk
  others u j apart := .of_eq (h.others u j apart)
  streams := h.streams
  recency := h.recency
  readback := h.readback
  counters := h.counters
  goodCount := h.goodCount _
  told := h.told

/-- An eviction finds no victim, or it is one that the law speaks of. -/
theorem ContextLaw.evict_cases {s : State} (law : ContextLaw s) :
    s.evict = s ∨ ∃ k x c, s.stream k = some x ∧ s.chunk? x.window x.chunk = some c ∧ c.link = some (.stream k) ∧
      Evicted s s.evict k x c := by
  cases hv : s.victim with
  | none => exact .inl (by simp [State.evict, hv])
  | some k =>
    cases hx : s.stream k with
    | none => exact .inl (by simp [State.evict, hv, hx])
    | some x =>
      obtain ⟨c, hc, hl, held⟩ := law.2.2.1 k x hx
      exact .inr ⟨k, x, c, hx, hc, hl, s.evict_evicted k x c hv hx hc held⟩

theorem ContextLaw.evict {s : State} (law : ContextLaw s) : ContextLaw s.evict := by
  rcases law.evict_cases with none | ⟨k, x, c, _, hc, hl, evicted⟩
  · rw [none]
    exact law
  · exact law.of_step evicted.step hc (.inl hl) rfl nofun fun _ => ⟨nofun, nofun⟩

/-- An eviction leaves an ERASED chunk alone: no stream holds one (R68). -/
theorem ContextLaw.evict_erased {s : State} (law : ContextLaw s) {w : Fin 32} {i : Nat} {c : Chunk}
    (hc : s.chunk? w i = some c) (he : c.state = .erased) : s.evict.chunk? w i = some c := by
  rcases law.evict_cases with none | ⟨k, x, _, hx, _, _, evicted⟩
  · rw [none]
    exact hc
  · rw [evicted.others w i (law.stream_ne_erased hc he k x hx)]
    exact hc

theorem ContextLaw.startProgramStream {s : State} (law : ContextLaw s) {w : Fin 32} {i : Nat} {c : Chunk}
    (hc : s.chunk? w i = some c) (he : c.state = .erased) (bytes : List Byte) :
    ContextLaw (s.startProgramStream w i bytes) := by
  have unlinked : c.link = none := law.heldLaw.unlinked hc (by rw [he]; exact ⟨nofun, nofun, nofun⟩)
  obtain ⟨roomy, hr⟩ : ∃ roomy, roomy = if s.freeContext.isSome then s else s.evict := ⟨_, rfl⟩
  have kept : ContextLaw roomy ∧ roomy.chunk? w i = some c := by
    rw [hr]
    split
    · exact ⟨law, hc⟩
    · exact ⟨law.evict, law.evict_erased hc he⟩
  cases hk : roomy.freeContext with
  | none =>
    have same : s.startProgramStream w i bytes = roomy := by simp only [State.startProgramStream, ← hr, hk]
    rw [same]
    exact kept.1
  | some k =>
    rw [State.startProgramStream_of_roomy w i bytes hr hk]
    exact kept.1.start (x := startedStream w i bytes) .stream (State.freeContext_some hk) kept.2 unlinked rfl rfl

/-- The program stream that a FILLING chunk names holds the chunk (R98). -/
theorem ContextLaw.chunkStream {s : State} (law : ContextLaw s) {w : Fin 32} {i : Nat} {c : Chunk} (hc : s.chunk? w i = some c)
    {k : Fin 3} {x : StreamCtx} (h : s.chunkStream w i = some (k, x)) :
    s.stream k = some x ∧ c.link = some (.stream k) ∧ x.window = w ∧ x.chunk = i ∧ c.state = x.kind.state := by
  simp only [State.chunkStream, hc, Option.bind_some] at h
  split at h
  · next l hl =>
    obtain ⟨y, hy, e⟩ := Option.map_eq_some_iff.1 h
    cases e
    have held := law.heldLaw.held_of_link hc hl
    rw [State.held, hy] at held
    simp only [Option.map_some, Option.some.injEq, Prod.mk.injEq] at held
    obtain ⟨hw, hi, state⟩ := held
    exact ⟨hy, hl, hw, hi, state.symm⟩
  all_goals cases h

/-- A stream that its chunk names digests more bytes. -/
theorem ContextLaw.feed {s : State} (law : ContextLaw s) {w : Fin 32} {i : Nat} {c : Chunk} (hc : s.chunk? w i = some c)
    {k : Fin 3} {x : StreamCtx} (h : s.chunkStream w i = some (k, x)) (bytes : List Byte) (source : Source) :
    ContextLaw (s.advanceStream k (x.feed bytes) source) := by
  obtain ⟨_, hl, rfl, rfl, hs⟩ := law.chunkStream hc h
  exact law.advance (x := x.feed bytes) source hc hl hs

theorem ContextLaw.programChunk {s : State} (law : ContextLaw s) (w : Fin 32) (l : Landing) (data : List Byte) :
    ContextLaw (s.programChunk w l data) := by
  unfold State.programChunk
  split
  · exact law
  · next c hc =>
    split
    · next he =>
      split
      · exact law.startProgramStream hc he _
      · exact law.disturb _ _
    · split
      · next k x hx =>
        split
        · exact law.feed hc hx _ _
        · exact law.disturb _ _
      · exact law.disturb _ _
    all_goals exact law.disturb _ _

/-- An offer on an UNCHECKED chunk starts a read stream, feeds one or drops it (R106, R107). -/
theorem ContextLaw.harvestIdle {s : State} (law : ContextLaw s) (o : Offer) {c : Chunk} (hc : s.chunk? o.window o.chunk = some c)
    (un : c.state = .unchecked) : ContextLaw (s.harvestIdle o) := by
  rcases law.harvest.link_cases hc un with unlinked | ⟨k, y, hl, hy, hw, hi⟩
  · rw [s.harvestIdle_unlinked o c hc unlinked]
    split
    · cases hk : s.freeContext with
      | none =>
        rw [s.startReadStream_full o hk]
        exact law
      | some k =>
        rw [s.startReadStream_free o k hk]
        exact law.start (x := o.started) .harvest (State.freeContext_some hk) hc unlinked rfl un
    · exact law
  · have named : s.chunkStream o.window o.chunk = some (k, y) := by
      simp only [State.chunkStream, hc, Option.bind_some, hl, hy, Option.map_some]
    simp only [State.harvestIdle, named]
    split
    · exact law.feed hc named _ _
    · exact law.drop hc un

/-! ### Read-back (R84, R85, R110, R112) -/

/-- The head entry's chunk is taken by the read-back context, ahead of the refill (R84, R110). -/
def State.beginReadback (e : Entry) (s : State) : State :=
  let dequeued := s.setQueue (s.scheduler.queue.drop 1)
  (((dequeued.endDigesting e.window e.chunk).moveChunk e.window e.chunk .checking none).modChunk e.window e.chunk
    fun c => { c with link := some .readback }).setReadback (some e.reading)

theorem State.startReadback_eq (s : State) (e : Entry) : s.startReadback e = (s.beginReadback e).refill.settleClaim := rfl

/-- A completed read-back frees its context, and its chunk gets the verdict (R85, R112). -/
def State.judgeReadback (r : ReadbackCtx) (digest : Digest) (s : State) : State :=
  ((s.setReadback none).unlink r.window r.chunk).verdict r.window r.chunk digest .readback

theorem State.completeReadback_eq (s : State) (r : ReadbackCtx) (digest : Digest) :
    s.completeReadback r digest = (s.judgeReadback r digest).closeEvent r.window (s.win r.window).goodCount := rfl

/-- What the start of a read-back makes of its chunk, of the others and of the contexts, ahead of the refill. -/
theorem State.beginReadback_spec (s : State) (e : Entry) (c : Chunk) (hc : s.chunk? e.window e.chunk = some c) :
    (∃ d, (s.beginReadback e).chunk? e.window e.chunk = some d ∧
        d.known = (.checking, c.expected, none, some .readback) ∧ d.queued = false) ∧
      (∀ u j, (u, j) ≠ (e.window, e.chunk) → (s.beginReadback e).chunk? u j = s.chunk? u j) ∧
      (∀ k, (s.beginReadback e).stream k = if c.link = some (.stream k) then none else s.stream k) ∧
      (s.beginReadback e).engine.readback = some e.reading := by
  obtain ⟨q, hq⟩ : ∃ q, q = s.setQueue (s.scheduler.queue.drop 1) := ⟨_, rfl⟩
  have dequeued : q.chunk? e.window e.chunk = some c := by rw [hq]; exact hc
  obtain ⟨ended, others, streams, _⟩ := q.endDigesting_spec e.window e.chunk c dequeued
  obtain ⟨moved, others', engine, _⟩ := (q.endDigesting e.window e.chunk).moveChunk_spec e.window e.chunk .checking none _ ended
  unfold State.beginReadback
  rw [← hq]
  refine ⟨⟨{ c with state := .checking, observed := none, queued := false, link := some .readback }, ?_, rfl, rfl⟩,
    fun u j apart => ?_, fun k => ?_, rfl⟩
  · rw [State.setReadback_chunk?, State.chunk?_modChunk, if_pos ⟨rfl, rfl⟩, moved]
    simp
  · rw [State.setReadback_chunk?, State.chunk?_modChunk_of_ne _ _ _ _ apart, others' u j apart, others u j apart, hq]
    rfl
  · show ((q.endDigesting e.window e.chunk).moveChunk e.window e.chunk .checking none).stream k = _
    rw [State.stream, engine]
    refine (streams k).trans ?_
    rw [hq]
    rfl

theorem RecencyLaw.beginReadback {s : State} (law : RecencyLaw s) (e : Entry) : RecencyLaw (s.beginReadback e) := by
  have ended : RecencyLaw ((s.setQueue (s.scheduler.queue.drop 1)).endDigesting e.window e.chunk) :=
    RecencyLaw.endDigesting (law.of_engine (t := s.setQueue (s.scheduler.queue.drop 1)) rfl) _ _
  have moved : ∀ t : State, RecencyLaw t → RecencyLaw (t.moveChunk e.window e.chunk .checking none) := by
    intro t h
    refine h.of_engine ?_
    cases ht : t.chunk? e.window e.chunk with
    | none => rw [t.moveChunk_none _ _ _ _ ht]
    | some c => exact (t.moveChunk_spec _ _ _ _ c ht).2.2.1
  exact ⟨(moved _ ended).nodup, (moved _ ended).busy⟩

theorem ContextLaw.beginReadback {s : State} (law : ContextLaw s) {e : Entry} (here : (s.chunk? e.window e.chunk).isSome = true)
    (free : s.engine.readback = none) : ContextLaw (s.beginReadback e) := by
  obtain ⟨c, hc⟩ := Option.isSome_iff_exists.1 here
  obtain ⟨⟨d, hd, known, _⟩, others, streams, readback⟩ := s.beginReadback_spec e c hc
  obtain ⟨state, _, _, link⟩ : d.state = .checking ∧ d.expected = c.expected ∧ d.observed = none ∧ d.link = some .readback := by
    simpa [Chunk.known] using known
  have none_held : s.held .readback = none := by rw [State.held, free]; rfl
  refine (contextLaw_iff _).2 ⟨law.recency.beginReadback e, law.heldLaw.of_one hc hd (fun u j h => .of_eq (others u j h))
    (fun l => ?_) (fun l hl => .inr ?_) fun hl => ?_⟩
  · rw [link, state]
    cases l with
    | readback => rw [if_pos rfl, State.held, readback]; rfl
    | stream k =>
      rw [if_neg nofun, State.held, streams]
      split <;> rfl
  · rw [link] at hl
    cases hl
    exact none_held
  · rw [link] at hl
    cases hl

theorem ContextLaw.judgeReadback {s : State} (law : ContextLaw s) {r : ReadbackCtx} (hr : s.engine.readback = some r)
    (digest : Digest) : ContextLaw (s.judgeReadback r digest) := by
  obtain ⟨c, hc, link, state⟩ := law.2.2.2.1 r hr
  have freed : ((s.setReadback none).unlink r.window r.chunk).chunk? r.window r.chunk = some { c with link := none } := by
    rw [State.unlink, State.chunk?_modChunk, if_pos ⟨rfl, rfl⟩, State.setReadback_chunk?, hc]
    rfl
  have freed_others : ∀ u j, (u, j) ≠ (r.window, r.chunk) →
      ((s.setReadback none).unlink r.window r.chunk).chunk? u j = s.chunk? u j := fun u j h => by
    rw [State.unlink, State.chunk?_modChunk_of_ne _ _ _ _ h, State.setReadback_chunk?]
  obtain ⟨⟨d, hd, known⟩, others, engine, _⟩ := State.verdict_spec _ r.window r.chunk digest .readback _ freed
    (by rw [state]; nofun)
  obtain ⟨state', _, _, link'⟩ : d.state = _ ∧ d.expected = c.expected ∧ d.observed = some digest ∧ d.link = none := by
    simpa [Chunk.known] using known
  have recency : RecencyLaw ((s.setReadback none).unlink r.window r.chunk) := ⟨law.1, law.2.1⟩
  refine (contextLaw_iff _).2 ⟨recency.of_engine engine, law.heldLaw.of_one hc hd
    (fun u j h => .of_eq ((others u j h).trans (freed_others u j h))) (fun l => ?_) (fun l hl => ?_) fun _ => ?_⟩
  · rw [link', if_neg nofun, link,
      show (s.judgeReadback r digest).held l = ((s.setReadback none).unlink r.window r.chunk).held l from
        State.held_of_engine engine l]
    cases l with
    | readback => rw [if_pos rfl]; rfl
    | stream k => rw [if_neg nofun]; rfl
  · rw [link'] at hl
    cases hl
  · rw [state']
    exact State.verdictOf_alone _ _ _ _

/-- A read-back that goes on with its chunk keeps the laws (R111, R112). -/
theorem ContextLaw.burst {s : State} (law : ContextLaw s) {r x : ReadbackCtx} (hr : s.engine.readback = some r)
    (hw : x.window = r.window) (hi : x.chunk = r.chunk) : ContextLaw (s.setReadback (some x)) := by
  refine (contextLaw_iff _).2 ⟨⟨law.1, law.2.1⟩, law.heldLaw.of_records (fun l => ?_) (fun w i d hd => ?_) fun w i c hc => ?_⟩
  · cases l with
    | stream k => rfl
    | readback => simp only [State.held, State.setReadback, State.modEngine, hr, Option.map_some, hw, hi]
  · exact Option.isSome_iff_exists.2 ⟨d, hd⟩
  · exact ⟨c, hc, rfl, .inl rfl⟩

/-! ### Catalogues (R50, R53, R56, R60) -/

/-- A window loses its contexts, and what it has then is linked to nothing (R50). -/
theorem ContextLaw.cleared {s t : State} (law : ContextLaw s) {w : Fin 32} (recency : RecencyLaw t)
    (held : ∀ l, t.held l = (s.held l).filter fun p => decide (p.1 ≠ w))
    (others : ∀ u j, u ≠ w → t.chunk? u j = s.chunk? u j)
    (fresh : ∀ j c, t.chunk? w j = some c → c.link = none ∧ c.state.alone) : ContextLaw t := by
  refine (contextLaw_iff t).2 ⟨recency, fun l u j st hl => ?_, fun u j c l hc hl => ?_, fun u j c hc hl => ?_⟩
  · rw [held, Option.filter_eq_some_iff] at hl
    obtain ⟨before, other⟩ := hl
    rw [others u j (by simpa using other)]
    exact law.heldLaw.chunk l u j st before
  · by_cases h : u = w
    · subst h
      rw [(fresh j c hc).1] at hl
      cases hl
    · rw [others u j h] at hc
      obtain ⟨st, before⟩ := law.heldLaw.context u j c l hc hl
      exact ⟨st, by rw [held, before]; simp [h]⟩
  · by_cases h : u = w
    · subst h
      exact (fresh j c hc).2
    · rw [others u j h] at hc
      exact law.heldLaw.alone u j c hc hl

theorem State.held_of_contextsFreed {s t : State} {w : Fin 32} (h : contextsFreed s t w) (l : Link) :
    t.held l = (s.held l).filter fun p => decide (p.1 ≠ w) := by
  obtain ⟨streams, readback, _⟩ := h
  cases l with
  | stream k =>
    rw [State.held, State.held, streams]
    cases s.stream k with
    | none => rfl
    | some x => by_cases hw : x.window = w <;> simp [Option.filter_some, hw]
  | readback =>
    rw [State.held, State.held, readback]
    cases s.engine.readback with
    | none => rfl
    | some r => by_cases hw : r.window = w <;> simp [Option.filter_some, hw]

/-- A torn window's stream contexts leave the recency list with their chunks (R50, R99). -/
theorem State.teardown_recency (s : State) (w : Fin 32) (next : WinBody) :
    (s.teardown w next).engine.recency = s.engine.recency.filter fun k => !(s.stream k).any fun x => decide (x.window = w) := by
  obtain ⟨queue, dropped, lost⟩ := s.loseImage_frame w
  have drops := State.dropStagedCommits_drop w allViews (s.loseImage w)
  have engine : (allViews.foldl (State.dropStagedCommit w) (s.loseImage w)).engine = s.engine := by
    rw [drops.frame]
    show (s.loseImage w).engine = _
    rw [lost]
  rw [State.teardown_eq, State.modWin_engine, State.strip, State.modScheduler_engine, (State.freeWindowContexts_spec w _).2.1]
  simp only [State.stream, engine]

/-- A catalogue as a MANIFEST creates it, or none (R48, R50). -/
def WinBody.unbegun (b : WinBody) : Prop := ∀ c, b.cat? = some c → ∀ x ∈ c.chunks, x = Chunk.fresh

theorem ContextLaw.teardown {s : State} (law : ContextLaw s) (w : Fin 32) {next : WinBody} (new : next.unbegun) :
    ContextLaw (s.teardown w next) := by
  obtain ⟨freed, _⟩ := s.teardown_leaves w next
  have win : ∀ u, (s.teardown w next).win u = if w = u then (s.win w).torn next else s.win u := fun u => by
    rw [State.win, s.teardown_windows w next]
    exact State.win_modWin _ _ _ _
  refine law.cleared ⟨?_, fun k => ?_⟩ (State.held_of_contextsFreed freed) (fun u j h => ?_) fun j c hc => ?_
  · rw [State.teardown_recency]
    exact law.1.filter _
  · rw [State.teardown_recency, List.mem_filter, law.2.1 k, freed.1 k]
    cases s.stream k with
    | none => simp
    | some x => by_cases hw : x.window = w <;> simp [Option.filter_some, hw]
  · rw [State.chunk?, win, if_neg (Ne.symm h)]
    rfl
  · rw [State.chunk?, win, if_pos rfl] at hc
    obtain ⟨cat, hcat, hx⟩ := Option.bind_eq_some_iff.1 hc
    rw [new cat hcat c (List.mem_of_getElem? hx)]
    exact ⟨rfl, nofun, nofun⟩

/-- A window without a catalogue gets a body in whose chunks nothing has begun. -/
theorem ContextLaw.unbegun {s : State} (law : ContextLaw s) {w : Fin 32} {f : Window → Window}
    (bare : (s.win w).body.cat? = none) (new : (f (s.win w)).body.unbegun) : ContextLaw (s.modWin w f) := by
  have none : ∀ j, s.chunk? w j = none := fun j => by rw [State.chunk?, bare]; rfl
  refine law.cleared (w := w) ⟨law.1, law.2.1⟩ (fun l => ?_) (fun u j h => ?_) fun j c hc => ?_
  · show s.held l = _
    cases hl : s.held l with
    | none => rfl
    | some p =>
      obtain ⟨u, i, st⟩ := p
      obtain ⟨c, hc, _⟩ := law.heldLaw.chunk l u i st hl
      have : u ≠ w := fun h => by
        rw [h, none i] at hc
        cases hc
      simp [Option.filter_some, this]
  · rw [State.chunk?, State.win_modWin, if_neg (Ne.symm h)]
    rfl
  · rw [State.chunk?, State.win_modWin, if_pos rfl] at hc
    obtain ⟨cat, hcat, hx⟩ := Option.bind_eq_some_iff.1 hc
    rw [new cat hcat c (List.mem_of_getElem? hx)]
    exact ⟨rfl, nofun, nofun⟩

theorem ContextLaw.openCatalogue {s : State} (law : ContextLaw s) (w : Fin 32) (g : Geometry) {c : Catalogue}
    (fresh : ∀ x ∈ c.chunks, x = Chunk.fresh) : ContextLaw (s.openCatalogue w g c) := by
  have new : (WinBody.opened g c).unbegun := by
    rintro _ ⟨⟩
    exact fresh
  unfold State.openCatalogue
  split
  · exact law.teardown w new
  · next h => exact law.unbegun (by simpa using h) new

theorem ContextLaw.reject {s : State} (law : ContextLaw s) (w : Fin 32) (g : Geometry) (c : Catalogue) (r : Reason) :
    ContextLaw (s.reject w g c r) :=
  (law.teardown w (next := .rejected g) nofun).of_same (State.raise_engine _ _) fun _ _ => .of_eq (State.raise_chunk? _ _ _ _)

/-- The digests of a record change no chunk's state and no link (R56). -/
theorem ContextLaw.stored {s : State} (law : ContextLaw s) {w : Fin 32} {g : Geometry} {c : Catalogue}
    (hb : (s.win w).body = .opened g c) (i : Nat) (ds : List Digest) : ContextLaw (s.store w g (c.offered i ds)) := by
  have here : ∀ j, (s.store w g (c.offered i ds)).chunk? w j =
      (s.chunk? w j).map (Chunk.offered (if i ≤ j then ds[j - i]? else none)) := fun j => by
    rw [State.chunk?, State.store_win, if_pos rfl, State.chunk?, hb]
    exact getElem?_offerDigests i ds c.chunks j
  have others : ∀ u j, u ≠ w → (s.store w g (c.offered i ds)).chunk? u j = s.chunk? u j := fun u j h => by
    rw [State.chunk?, State.store_win, if_neg (Ne.symm h)]
    rfl
  refine (contextLaw_iff _).2 ⟨law.recency.of_engine rfl, law.heldLaw.of_records (State.held_of_engine rfl)
    (fun u j d hd => ?_) fun u j x hx => ?_⟩ <;> by_cases h : u = w
  · subst h
    rw [here] at hd
    obtain ⟨x, hx, _⟩ := Option.map_eq_some_iff.1 hd
    rw [hx]
    rfl
  · rw [← others u j h, hd]
    rfl
  · subst h
    exact ⟨Chunk.offered (if i ≤ j then ds[j - i]? else none) x, by rw [here, hx]; rfl, rfl, .inl rfl⟩
  · exact ⟨x, by rw [others u j h, hx], rfl, .inl rfl⟩

end Sys2Proof.Machine
end

section
/-! The check queue names chunks that exist (a part of R116), and what each operation on chunks keeps of that and of the law of
R89. -/

namespace Sys2Proof.Machine

/-! ### Chunk work that adds nothing to the check queue -/

/-- Chunk work behind which the check queue holds no entry that it did not hold before. -/
structure Sheds (s t : State) : Prop where
  work : ChunkWork s t
  queue : t.scheduler.queue.Sublist s.scheduler.queue

theorem Sheds.refl (s : State) : Sheds s s := ⟨.refl s, .refl _⟩

theorem Sheds.trans {s t u : State} (h : Sheds s t) (k : Sheds t u) : Sheds s u := ⟨h.work.trans k.work, k.queue.trans h.queue⟩

/-- Chunk work that leaves the check queue as it is. -/
theorem ChunkWork.sheds {s t : State} (h : ChunkWork s t) (queue : t.scheduler.queue = s.scheduler.queue) : Sheds s t :=
  ⟨h, by rw [queue]⟩

theorem Sheds.foldl {α : Type} (f : State → α → State) (hf : ∀ s a, Sheds s (f s a)) (l : List α) (s : State) :
    Sheds s (l.foldl f s) := by
  induction l generalizing s with
  | nil => exact .refl s
  | cons a l ih => exact (hf s a).trans (ih _)

theorem State.endDigesting_sheds (s : State) (w : Fin 32) (i : Nat) : Sheds s (s.endDigesting w i) := by
  refine (s.endDigesting_work w i).sheds ?_
  unfold State.endDigesting
  split <;> rfl

/-- A chunk that moves loses its entry or keeps it (R71). -/
theorem State.moveChunk_sheds (s : State) (w : Fin 32) (i : Nat) (st : ChunkState) (d : Option Digest) :
    Sheds s (s.moveChunk w i st d) := by
  refine ⟨s.moveChunk_work w i st d, ?_⟩
  simp only [State.moveChunk]
  split
  · exact .refl _
  · split
    · exact List.filter_sublist
    · exact .refl _

theorem State.disturb_sheds (s : State) (w : Fin 32) (i : Nat) : Sheds s (s.disturb w i) :=
  (s.endDigesting_sheds w i).trans (State.moveChunk_sheds _ _ _ _ _)

theorem State.eraseFully_sheds (s : State) (w : Fin 32) (i : Nat) : Sheds s (s.eraseFully w i) := by
  have moved : ∀ st d, Sheds s ((s.endDigesting w i).moveChunk w i st d) := fun st d =>
    (s.endDigesting_sheds w i).trans (State.moveChunk_sheds _ _ _ _ _)
  unfold State.eraseFully
  split
  · split
    · exact moved _ _
    · exact moved _ _
  all_goals exact moved _ _

theorem State.verdict_sheds (s : State) (w : Fin 32) (i : Nat) (d : Digest) (source : Source) :
    Sheds s (s.verdict w i d source) := by
  unfold State.verdict
  split
  · split
    · exact (s.moveChunk_sheds _ _ _ _).trans ((State.modCounters_work _ _).sheds rfl)
    · exact ((s.moveChunk_sheds _ _ _ _).trans ((State.modCounters_work _ _).sheds rfl)).trans ((State.raise_work _ _).sheds rfl)
  · exact s.moveChunk_sheds _ _ _ _

theorem State.freeUnlink_sheds (s : State) (k : Fin 3) (w : Fin 32) (i : Nat) : Sheds s ((s.freeStream k).unlink w i) :=
  ((s.freeStream_work k).trans (State.unlink_work _ w i)).sheds rfl

theorem State.evict_sheds (s : State) : Sheds s s.evict := by
  have freed : ∀ k (x : StreamCtx), Sheds s (((s.freeStream k).countEviction).unlink x.window x.chunk) := fun k x =>
    (((s.freeStream_work k).trans (State.modCounters_work _ _)).trans (State.unlink_work _ _ _)).sheds rfl
  unfold State.evict
  split
  · exact .refl s
  · split
    · exact .refl s
    · dsimp only
      split
      · exact freed _ _
      · exact (freed _ _).trans (State.moveChunk_sheds _ _ _ _ _)

theorem State.advanceStream_sheds (s : State) (k : Fin 3) (x : StreamCtx) (source : Source) :
    Sheds s (s.advanceStream k x source) := by
  unfold State.advanceStream
  split
  · exact (s.freeUnlink_sheds k _ _).trans (State.verdict_sheds _ _ _ _ _)
  · exact (s.moveStreamToFront_work k x).sheds rfl

theorem State.startProgramStream_sheds (s : State) (w : Fin 32) (i : Nat) (bytes : List Byte) :
    Sheds s (s.startProgramStream w i bytes) := by
  have room : Sheds s (if s.freeContext.isSome then s else s.evict) := by
    split
    · exact .refl s
    · exact s.evict_sheds
  simp only [State.startProgramStream]
  split
  · exact room
  · exact (room.trans (((State.modChunk_work _ _ _ _).trans (State.moveStreamToFront_work _ _ _)).sheds rfl)).trans
      (State.advanceStream_sheds _ _ _ _)

theorem State.programChunk_sheds (s : State) (w : Fin 32) (l : Landing) (data : List Byte) :
    Sheds s (s.programChunk w l data) := by
  unfold State.programChunk
  split
  · exact .refl s
  · split
    · split
      · exact s.startProgramStream_sheds _ _ _
      · exact s.disturb_sheds _ _
    · split
      · split
        · exact s.advanceStream_sheds _ _ _
        · exact s.disturb_sheds _ _
      · exact s.disturb_sheds _ _
    all_goals exact s.disturb_sheds _ _

theorem State.harvestIdle_sheds (s : State) (o : Offer) : Sheds s (s.harvestIdle o) := by
  unfold State.harvestIdle
  split
  · split
    · exact s.advanceStream_sheds _ _ _
    · exact s.endDigesting_sheds _ _
  · split
    · unfold State.startReadStream
      split
      · exact .refl s
      · exact (((s.modChunk_work _ _ _).trans (State.moveStreamToFront_work _ _ _)).sheds rfl).trans
          (State.advanceStream_sheds _ _ _ _)
    · exact .refl s

theorem State.beginReadback_sheds (s : State) (e : Entry) : Sheds s (s.beginReadback e) := by
  have dequeued : Sheds s (s.setQueue (s.scheduler.queue.drop 1)) := ⟨s.setQueue_work _, List.drop_sublist _ _⟩
  exact ((dequeued.trans (State.endDigesting_sheds _ _ _)).trans (State.moveChunk_sheds _ _ _ _ _)).trans
    (((State.modChunk_work _ _ _ _).trans (State.setReadback_work _ _)).sheds rfl)

theorem State.judgeReadback_sheds (s : State) (r : ReadbackCtx) (digest : Digest) : Sheds s (s.judgeReadback r digest) :=
  (((s.setReadback_work none).trans (State.unlink_work _ _ _)).sheds rfl).trans (State.verdict_sheds _ _ _ _ _)

theorem State.loadCompare_sheds (w : Fin 32) (c : Catalogue) (e : ErasedDigests) (s : State) (i : Nat) :
    Sheds s (s.loadCompare w c e i) := by
  unfold State.loadCompare
  split
  · exact .refl s
  · split
    · split
      · exact (s.moveChunk_sheds _ _ _ _).trans ((State.modCounters_work _ _).sheds rfl)
      · exact (s.moveChunk_sheds _ _ _ _).trans ((State.modCounters_work _ _).sheds rfl)
    · split
      · exact s.moveChunk_sheds _ _ _ _
      · exact .refl s
    all_goals exact .refl s

/-! ### Entries name chunks that exist -/

/-- Every entry of the check queue names a chunk that exists. -/
def State.entriesNamed (s : State) : Prop := ∀ e ∈ s.scheduler.queue, e.chunk < (s.win e.window).body.count

theorem QueueLaw.entriesNamed {s : State} (law : QueueLaw s) : s.entriesNamed := fun e he => by
  obtain ⟨_, c, hc, _⟩ := law.2.2.1 e he
  exact (s.chunk?_isSome _ _).1 (by rw [hc]; rfl)

/-- With every window's chunk count as it was, entries that were there or are added for chunks that exist name chunks that
exist. -/
theorem State.entriesNamed.of_outline {s t : State} (named : s.entriesNamed)
    (outline : ∀ w, (t.win w).body.outline = (s.win w).body.outline)
    (queue : ∀ e ∈ t.scheduler.queue, e ∈ s.scheduler.queue ∨ e.chunk < (s.win e.window).body.count) : t.entriesNamed := by
  intro e he
  rw [(WinBody.outline_inj (outline e.window)).2.2.2.1]
  exact (queue e he).elim (named e) id

theorem State.entriesNamed.sheds {s t : State} (named : s.entriesNamed) (h : Sheds s t) : t.entriesNamed :=
  named.of_outline h.work.outline fun _ he => .inl (h.queue.mem he)

/-- A window that has no catalogue has no entry in the queue, so it may get any body. -/
theorem State.entriesNamed.unbegun {s : State} (named : s.entriesNamed) {w : Fin 32} (f : Window → Window)
    (bare : (s.win w).body.cat? = none) : (s.modWin w f).entriesNamed := by
  intro e he
  have before := named e he
  rw [State.win_modWin]
  split
  · next h =>
    subst h
    simp [WinBody.count, bare] at before
  · exact before

/-- A torn window's entries leave the queue with its chunks (R50). -/
theorem State.entriesNamed.teardown {s : State} (named : s.entriesNamed) (w : Fin 32) (next : WinBody) :
    (s.teardown w next).entriesNamed := by
  intro e he
  rw [(s.teardown_leaves w next).2.1] at he
  obtain ⟨before, other⟩ := List.mem_filter.1 he
  have apart : w ≠ e.window := fun h => by simp [← h] at other
  rw [State.win, s.teardown_windows w next]
  show e.chunk < ((s.modWin w (Window.torn next)).win e.window).body.count
  rw [State.win_modWin, if_neg apart]
  exact named e before

theorem State.entriesNamed.openCatalogue {s : State} (named : s.entriesNamed) (w : Fin 32) (g : Geometry) (c : Catalogue) :
    (s.openCatalogue w g c).entriesNamed := by
  unfold State.openCatalogue
  split
  · exact named.teardown _ _
  · next h => exact named.unbegun _ (by simpa using h)

theorem State.addable_lt {s : State} {w : Fin 32} {i : Nat} (h : s.addable w i = true) : i < (s.win w).body.count := by
  rw [← s.chunk?_isSome]
  unfold State.addable at h
  split at h
  · next hc => rw [hc]; rfl
  · cases h

/-- An entry that a pass adds names a chunk of its window (R121). -/
theorem State.mem_queue_of_passWindow (w : Fin 32) (fuel : Nat) (added : Bool) (s : State) (e : Entry)
    (h : e ∈ (s.passWindow w fuel added).scheduler.queue) :
    e ∈ s.scheduler.queue ∨ e.chunk < (s.win e.window).body.count := by
  induction fuel generalizing added s with
  | zero =>
    unfold State.passWindow at h
    split at h <;> exact .inl h
  | succ fuel ih =>
    unfold State.passWindow at h
    split at h
    · exact .inl h
    · dsimp only at h
      split at h
      · next ok =>
        have work := (s.addNormal_queueWork w (s.win w).cursor).trans
          (State.modWanted_queueWork _ w (fun v => { v with cursor := if (s.win w).cursor + 1 < (s.win w).body.count then
            (s.win w).cursor + 1 else 0 }) fun _ => rfl)
        rcases ih _ _ h with h | h
        · rcases List.mem_append.1 h with h | h
          · exact .inl h
          · rw [List.mem_singleton.1 h]
            exact .inr (State.addable_lt ok)
        · rw [work.chunks.count] at h
          exact .inr h
      · have work := s.modWanted_queueWork w (fun v => { v with cursor := if (s.win w).cursor + 1 < (s.win w).body.count then
            (s.win w).cursor + 1 else 0 }) fun _ => rfl
        rcases ih _ _ h with h | h
        · exact .inl h
        · rw [work.chunks.count] at h
          exact .inr h

/-- An entry that a refill adds names a chunk that exists (R121). -/
theorem State.mem_queue_of_refill (s : State) (e : Entry) (h : e ∈ s.refill.scheduler.queue) :
    e ∈ s.scheduler.queue ∨ e.chunk < (s.win e.window).body.count := by
  have fold : ∀ (l : List (Fin 32)) (s : State), e ∈ (l.foldl State.refillWindow s).scheduler.queue →
      e ∈ s.scheduler.queue ∨ e.chunk < (s.win e.window).body.count := by
    intro l
    induction l with
    | nil => exact fun s h => .inl h
    | cons w l ih =>
      intro s h
      rcases ih _ h with h | h
      · unfold State.refillWindow at h
        split at h
        · exact State.mem_queue_of_passWindow w _ _ s e h
        · exact .inl h
      · rw [(s.refillWindow_queueWork w).chunks.count] at h
        exact .inr h
  rw [State.refill_eq] at h
  unfold State.sweep at h
  rcases fold allWindows _ h with h | h
  · exact fold allWindows _ h
  · rw [(QueueWork.foldl _ State.refillWindow_queueWork allWindows s).chunks.count] at h
    exact .inr h

/-- An entry that an add of a CHECK record adds names a chunk that exists (R122). -/
theorem State.named_of_checkChunk (w : Fin 32) (urgent : Bool) (s : State) (i : Nat) (e : Entry)
    (h : e ∈ (s.checkChunk w urgent i).scheduler.queue) :
    e ∈ s.scheduler.queue ∨ e.chunk < (s.win e.window).body.count := by
  by_cases ok : s.addable w i = true
  · refine (State.mem_queue_of_checkChunk w urgent s i e h).imp_right fun own => ?_
    rw [own]
    exact State.addable_lt ok
  · rw [State.checkChunk, if_neg ok] at h
    exact .inl h

theorem State.reportImage_blocks (s : State) (w : Fin 32) (n : Nat) :
    (s.reportImage w n).engine = s.engine ∧ (s.reportImage w n).scheduler = s.scheduler := by
  unfold State.reportImage
  split
  · dsimp only
    split
    · exact ⟨rfl, rfl⟩
    · split <;> exact ⟨rfl, rfl⟩
  all_goals exact ⟨rfl, rfl⟩

theorem State.raiseLoadBads_blocks (w : Fin 32) (l : List Nat) (s : State) :
    (l.foldl (State.raiseLoadBad w) s).engine = s.engine ∧ (l.foldl (State.raiseLoadBad w) s).scheduler = s.scheduler := by
  induction l generalizing s with
  | nil => exact ⟨rfl, rfl⟩
  | cons i l ih =>
    have one : (s.raiseLoadBad w i).engine = s.engine ∧ (s.raiseLoadBad w i).scheduler = s.scheduler := by
      rw [State.raiseLoadBad_eq]
      split <;> exact ⟨rfl, rfl⟩
    exact ⟨(ih _).1.trans one.1, (ih _).2.trans one.2⟩

theorem State.moveChunk_engine (s : State) (w : Fin 32) (i : Nat) (st : ChunkState) (d : Option Digest) :
    (s.moveChunk w i st d).engine = s.engine := by
  cases hc : s.chunk? w i with
  | none => rw [s.moveChunk_none w i st d hc]
  | some c => exact (s.moveChunk_spec w i st d c hc).2.2.1

theorem State.loadCompare_engine (w : Fin 32) (c : Catalogue) (e : ErasedDigests) (s : State) (i : Nat) :
    (s.loadCompare w c e i).engine = s.engine := by
  unfold State.loadCompare
  split
  · rfl
  · split
    · split <;> exact s.moveChunk_engine _ _ _ _
    · split
      · exact s.moveChunk_engine _ _ _ _
      · rfl
    all_goals rfl

theorem State.loadCompares_engine (w : Fin 32) (c : Catalogue) (e : ErasedDigests) (l : List Nat) (s : State) :
    (l.foldl (State.loadCompare w c e) s).engine = s.engine := by
  induction l generalizing s with
  | nil => rfl
  | cons i l ih => exact (ih _).trans (s.loadCompare_engine w c e i)

/-- The entry to LOADED takes and frees no context (R60 to R62). -/
theorem State.enterLoaded_engine (s : State) (w : Fin 32) (g : Geometry) (c : Catalogue) :
    (s.enterLoaded w g c).engine = s.engine := by
  rw [State.enterLoaded_eq, (State.reportImage_blocks _ _ _).1, (State.raiseLoadBads_blocks _ _ _).1, State.raise_engine,
    State.loadCompares_engine, State.modWin_engine]

/-- The entry to LOADED adds no entry (R60 to R62). -/
theorem State.enterLoaded_queue (s : State) (w : Fin 32) (g : Geometry) (c : Catalogue) :
    (s.enterLoaded w g c).scheduler.queue.Sublist s.scheduler.queue := by
  rw [State.enterLoaded_eq, (State.reportImage_blocks _ _ _).2, (State.raiseLoadBads_blocks _ _ _).2, State.raise_scheduler]
  exact (Sheds.foldl _ (State.loadCompare_sheds w c (erasedDigests g c)) _ (s.modWin w (Window.entered g c))).queue

theorem State.entriesNamed.stored {s : State} (named : s.entriesNamed) {w : Fin 32} {g : Geometry} {c d : Catalogue}
    (hb : (s.win w).body = .opened g c) (count : d.chunks.length = c.chunks.length) : (s.store w g d).entriesNamed := by
  intro e he
  have before := named e he
  rw [State.store_win]
  split
  · next h =>
    subst h
    rw [hb] at before
    simpa [WinBody.count, WinBody.cat?, count] using before
  · exact before

theorem State.entriesNamed.entered {s : State} (named : s.entriesNamed) {w : Fin 32} {g : Geometry} {c : Catalogue}
    (hb : (s.win w).body = .opened g c) : (s.enterLoaded w g c).entriesNamed := by
  intro e he
  have before := named e ((s.enterLoaded_queue w g c).mem he)
  rw [(s.enterLoaded_work w g c).count, State.win_modWin]
  split
  · next h =>
    subst h
    rw [hb] at before
    exact before
  · exact before

theorem State.entriesNamed.offered {s : State} (named : s.entriesNamed) {w : Fin 32} {g : Geometry} {c : Catalogue}
    (hb : (s.win w).body = .opened g c) (i : Nat) (ds : List Digest) : (s.offerOpen w g c i ds).entriesNamed := by
  have stored := named.stored hb (Catalogue.offered_length i ds c)
  have opened : ((s.store w g (c.offered i ds)).win w).body = .opened g (c.offered i ds) := by
    rw [State.store_win, if_pos rfl]
  have rejected : ∀ (t : State) d r, t.entriesNamed → (t.reject w g d r).entriesNamed := fun t d r h =>
    (h.teardown w (.rejected g)).sheds ((State.raise_work _ _).sheds rfl)
  rw [State.offerOpen_eq_store]
  split
  · exact rejected _ _ _ named
  · split
    · split
      · exact stored.entered opened
      · exact rejected _ _ _ stored
    · exact stored

end Sys2Proof.Machine
end

section
/-! What each operation on chunks keeps of the law of R89. -/

namespace Sys2Proof.Machine

/-! ### Writes of one chunk record -/

theorem GoodLaw.of_windows {s t : State} (law : GoodLaw s) (h : t.windows = s.windows) : GoodLaw t := fun w => by
  rw [State.win, h]
  exact law w

/-- A chunk that becomes GOOD lies in a LOADED window and is proven by its expected digest; any other move is free (R89). -/
theorem GoodLaw.move {s : State} (law : GoodLaw s) (w : Fin 32) (i : Nat) (st : ChunkState) (d : Option Digest)
    (proven : st = .good → (s.win w).body.isLoaded = true ∧ ∀ c, s.chunk? w i = some c → d = c.expected) :
    GoodLaw (s.moveChunk w i st d) := by
  cases hc : s.chunk? w i with
  | none =>
    rw [s.moveChunk_none w i st d hc]
    exact law
  | some c => exact fun u => s.moveChunk_goodLaw w u i st d c hc (fun h => ⟨(proven h).1, (proven h).2 c hc⟩) (law u)

theorem GoodLaw.unlink {s : State} (law : GoodLaw s) (w : Fin 32) (i : Nat) : GoodLaw (s.unlink w i) := fun u =>
  s.unlink_goodLaw w u i (law u)

theorem GoodLaw.endDigesting {s : State} (law : GoodLaw s) (w : Fin 32) (i : Nat) : GoodLaw (s.endDigesting w i) := fun u =>
  s.endDigesting_goodLaw w u i (law u)

/-- A GOOD chunk lies in a LOADED window and has its expected digest as its observed one (R89, R92). -/
theorem GoodLaw.proven {s : State} (law : GoodLaw s) {w : Fin 32} {i : Nat} {c : Chunk} (hc : s.chunk? w i = some c)
    (good : c.state = .good) : (s.win w).body.isLoaded = true ∧ c.observed = c.expected := by
  have here := law w
  unfold Window.goodLaw at here
  unfold State.chunk? at hc
  cases hb : (s.win w).body with
  | vacant | defined _ | rejected _ => rw [hb] at hc; exact absurd hc nofun
  | opened g cat =>
    rw [hb] at here hc
    exact absurd good (here.2 c (List.mem_of_getElem? hc))
  | loaded g cat e =>
    rw [hb] at here hc
    exact ⟨rfl, here.2 c (List.mem_of_getElem? hc) good⟩

theorem State.modChunk_none {s : State} {w : Fin 32} {i : Nat} (h : s.chunk? w i = none) (f : Chunk → Chunk) :
    s.modChunk w i f = s := by
  have same : ((s.win w).body.modCat fun c => { c with chunks := c.chunks.modify i f }) = (s.win w).body := by
    unfold State.chunk? at h
    cases hb : (s.win w).body with
    | vacant | defined _ | rejected _ => rfl
    | opened g c | loaded g c e =>
      rw [hb] at h
      have none : c.chunks[i]? = none := h
      simp [WinBody.modCat, List.modify_eq_set_getElem?, none]
  rw [State.modChunk, State.modWin, same]
  exact s.setWin_eq_self w

/-- A write of a chunk record that exists keeps the law if the chunk is GOOD behind it exactly if it was, and knows the same digests
then. -/
theorem GoodLaw.modChunk {s : State} (law : GoodLaw s) {w : Fin 32} {i : Nat} {c : Chunk} {f : Chunk → Chunk}
    (hc : s.chunk? w i = some c) (good : (f c).state = .good ↔ c.state = .good)
    (digests : c.state = .good → (f c).observed = c.observed ∧ (f c).expected = c.expected) : GoodLaw (s.modChunk w i f) := by
  refine law.of_one (w := w) (fun u h => by simp [State.modChunk, Ne.symm h]) rfl ?_
  refine Window.goodLaw_of_modify (f := f) (law w) hc (by simp [State.modChunk]) ?_ fun now => ?_
  · rw [s.modChunk_goodCount w w i f]
    by_cases h : c.state = .good <;> simp [good, h]
  · obtain ⟨loaded, proven⟩ := law.proven hc (good.1 now)
    obtain ⟨observed, expected⟩ := digests (good.1 now)
    exact ⟨loaded, by rw [observed, expected, proven]⟩

/-- A context that takes a chunk as `f` writes the chunk's record. -/
theorem GoodLaw.take {s : State} (law : GoodLaw s) {w : Fin 32} {i : Nat} {c : Chunk} {f : Chunk → Chunk}
    (hc : s.chunk? w i = some c) (good : (f c).state = .good ↔ c.state = .good)
    (digests : c.state = .good → (f c).observed = c.observed ∧ (f c).expected = c.expected) (k : Fin 3) (x : StreamCtx) :
    GoodLaw ((s.modChunk w i f).moveStreamToFront k x) := (law.modChunk hc good digests).of_windows rfl

/-! ### The operations of the Chunk Tracker -/

theorem GoodLaw.disturb {s : State} (law : GoodLaw s) (w : Fin 32) (i : Nat) : GoodLaw (s.disturb w i) :=
  (law.endDigesting w i).move w i .unchecked none nofun

theorem GoodLaw.eraseFully {s : State} (law : GoodLaw s) (w : Fin 32) (i : Nat) : GoodLaw (s.eraseFully w i) := by
  have ended := law.endDigesting w i
  have loaded : ((s.endDigesting w i).win w).body.isLoaded = (s.win w).body.isLoaded := (s.endDigesting_work w i).isLoaded w
  have expected : ∀ d, ((s.chunk? w i).bind fun c => c.expected) = some d →
      ∀ c, (s.endDigesting w i).chunk? w i = some c → some d = c.expected := by
    intro d h c hc
    obtain ⟨x, hx, hd⟩ := Option.bind_eq_some_iff.1 h
    rw [(s.endDigesting_spec w i x hx).1] at hc
    cases hc
    exact hd.symm
  unfold State.eraseFully
  split
  · next hb =>
    split
    · next h => exact ended.move w i .good _ fun _ => ⟨by rw [loaded, hb]; rfl, expected _ h⟩
    · exact ended.move w i .erased _ nofun
  all_goals exact ended.move w i .erased _ nofun

theorem GoodLaw.verdict {s : State} (law : GoodLaw s) (w : Fin 32) (i : Nat) (d : Digest) (source : Source) :
    GoodLaw (s.verdict w i d source) := by
  unfold State.verdict
  split
  · next loaded =>
    split
    · next h =>
      refine (law.move w i .good (some d) fun _ => ⟨loaded, fun c hc => ?_⟩).of_windows rfl
      rw [hc] at h
      exact h.symm
    · exact (law.move w i .bad (some d) nofun).of_windows rfl
  · exact law.move w i .computed (some d) nofun

theorem GoodLaw.freeUnlink {s : State} (law : GoodLaw s) (k : Fin 3) (w : Fin 32) (i : Nat) :
    GoodLaw ((s.freeStream k).unlink w i) := (law.of_windows (t := s.freeStream k) rfl).unlink w i

theorem GoodLaw.evict {s : State} (law : GoodLaw s) : GoodLaw s.evict := by
  have freed : ∀ k (x : StreamCtx), GoodLaw (((s.freeStream k).countEviction).unlink x.window x.chunk) := fun k x =>
    (law.of_windows (t := (s.freeStream k).countEviction) rfl).unlink _ _
  unfold State.evict
  split
  · exact law
  · split
    · exact law
    · dsimp only
      split
      · exact freed _ _
      · exact (freed _ _).move _ _ .unchecked none nofun

theorem GoodLaw.advanceStream {s : State} (law : GoodLaw s) (k : Fin 3) (x : StreamCtx) (source : Source) :
    GoodLaw (s.advanceStream k x source) := by
  unfold State.advanceStream
  split
  · exact (law.freeUnlink k _ _).verdict _ _ _ _
  · exact law.of_windows rfl

/-- An eviction makes no chunk GOOD (R101). -/
theorem State.evict_not_good {s : State} {w : Fin 32} {i : Nat} {c : Chunk} (hc : s.chunk? w i = some c) (hg : c.state ≠ .good) :
    ∃ d, s.evict.chunk? w i = some d ∧ d.state ≠ .good := by
  have unlinked : ∀ (t : State) (u : Fin 32) (j : Nat), t.chunk? w i = some c →
      ∃ d, (t.unlink u j).chunk? w i = some d ∧ d.state ≠ .good := by
    intro t u j ht
    rw [State.unlink, State.chunk?_modChunk, ht]
    split
    · exact ⟨_, rfl, hg⟩
    · exact ⟨c, rfl, hg⟩
  have moved : ∀ (t : State) (u : Fin 32) (j : Nat), (∃ d, t.chunk? w i = some d ∧ d.state ≠ .good) →
      ∃ d, (t.moveChunk u j .unchecked none).chunk? w i = some d ∧ d.state ≠ .good := by
    rintro t u j ⟨d, hd, hne⟩
    by_cases h : (w, i) = (u, j)
    · cases h
      exact ⟨_, (t.moveChunk_spec w i .unchecked none d hd).1, nofun⟩
    · cases hu : t.chunk? u j with
      | none => exact ⟨d, by rw [t.moveChunk_none u j _ _ hu, hd], hne⟩
      | some x => exact ⟨d, by rw [(t.moveChunk_spec u j .unchecked none x hu).2.1 w i h, hd], hne⟩
  unfold State.evict
  split
  · exact ⟨c, hc, hg⟩
  · split
    · exact ⟨c, hc, hg⟩
    · dsimp only
      split
      · exact unlinked _ _ _ hc
      · exact moved _ _ _ (unlinked _ _ _ hc)

theorem GoodLaw.startProgramStream {s : State} (law : GoodLaw s) {w : Fin 32} {i : Nat} {c : Chunk}
    (hc : s.chunk? w i = some c) (hg : c.state ≠ .good) (bytes : List Byte) : GoodLaw (s.startProgramStream w i bytes) := by
  obtain ⟨roomy, hr⟩ : ∃ roomy, roomy = if s.freeContext.isSome then s else s.evict := ⟨_, rfl⟩
  obtain ⟨kept, d, hd, hne⟩ : GoodLaw roomy ∧ ∃ d, roomy.chunk? w i = some d ∧ d.state ≠ .good := by
    rw [hr]
    split
    · exact ⟨law, c, hc, hg⟩
    · exact ⟨law.evict, State.evict_not_good hc hg⟩
  have filling : ∀ k x, GoodLaw ((roomy.modChunk w i fun c => { c with state := .filling, link := some (.stream k) }).moveStreamToFront
      k x) := fun k x => kept.take hd
    ⟨fun h => absurd (show ChunkState.filling = .good from h) nofun, fun h => absurd h hne⟩ (fun h => absurd h hne) k x
  cases hk : roomy.freeContext with
  | none =>
    have same : s.startProgramStream w i bytes = roomy := by simp only [State.startProgramStream, ← hr, hk]
    rw [same]
    exact kept
  | some k =>
    rw [State.startProgramStream_of_roomy w i bytes hr hk]
    exact (filling k _).advanceStream _ _ _

theorem GoodLaw.programChunk {s : State} (law : GoodLaw s) (w : Fin 32) (l : Landing) (data : List Byte) :
    GoodLaw (s.programChunk w l data) := by
  unfold State.programChunk
  split
  · exact law
  · next c hc =>
    split
    · next he =>
      split
      · exact law.startProgramStream hc (by rw [he]; nofun) _
      · exact law.disturb _ _
    · split
      · split
        · exact law.advanceStream _ _ _
        · exact law.disturb _ _
      · exact law.disturb _ _
    all_goals exact law.disturb _ _

theorem GoodLaw.harvestIdle {s : State} (law : GoodLaw s) (o : Offer) {c : Chunk} (hc : s.chunk? o.window o.chunk = some c) :
    GoodLaw (s.harvestIdle o) := by
  unfold State.harvestIdle
  split
  · split
    · exact law.advanceStream _ _ _
    · exact law.endDigesting _ _
  · split
    · cases hk : s.freeContext with
      | none =>
        rw [s.startReadStream_full o hk]
        exact law
      | some k =>
        rw [s.startReadStream_free o k hk]
        have taken : GoodLaw (s.taking k o.started (Chunk.linkedTo k)) := law.take hc Iff.rfl (fun _ => ⟨rfl, rfl⟩) _ _
        exact taken.advanceStream _ _ _
    · exact law

theorem GoodLaw.beginReadback {s : State} (law : GoodLaw s) (e : Entry) : GoodLaw (s.beginReadback e) := by
  have dequeued : GoodLaw (s.setQueue (s.scheduler.queue.drop 1)) := law.of_windows rfl
  have checking := (dequeued.endDigesting e.window e.chunk).move e.window e.chunk .checking none nofun
  unfold State.beginReadback
  dsimp only
  generalize (State.moveChunk e.window e.chunk .checking none _) = t at checking ⊢
  refine GoodLaw.of_windows ?_ (State.setReadback_windows _ _)
  cases ht : t.chunk? e.window e.chunk with
  | none => exact (State.modChunk_none ht _).symm ▸ checking
  | some c => exact checking.modChunk ht Iff.rfl fun _ => ⟨rfl, rfl⟩

theorem GoodLaw.judgeReadback {s : State} (law : GoodLaw s) (r : ReadbackCtx) (digest : Digest) :
    GoodLaw (s.judgeReadback r digest) :=
  ((law.of_windows (t := s.setReadback none) rfl).unlink _ _).verdict _ _ _ _

/-! ### Catalogues -/

/-- The law of R89 in a window in whose chunks nothing has begun (R48, R53). -/
theorem Window.goodLaw_unbegun {v : Window} (zero : v.goodCount = 0) (unloaded : v.body.isLoaded = false)
    (new : v.body.unbegun) : v.goodLaw := by
  unfold Window.goodLaw
  cases hb : v.body with
  | vacant | defined _ | rejected _ => exact zero
  | loaded g c e => rw [hb] at unloaded; cases unloaded
  | opened g c =>
    rw [hb] at new
    refine ⟨zero, fun x hx => ?_⟩
    rw [new c rfl x hx]
    nofun

theorem GoodLaw.torn {s t : State} (law : GoodLaw s) {w : Fin 32} {next : WinBody} (unloaded : next.isLoaded = false)
    (new : next.unbegun) (h : t.windows = (s.modWin w (Window.torn next)).windows) : GoodLaw t := by
  refine GoodLaw.of_windows (s := s.modWin w (Window.torn next)) ?_ h
  exact law.of_one (w := w) (fun u h => by simp [Ne.symm h]) (by rw [State.win_modWin, if_pos rfl])
    (Window.goodLaw_unbegun rfl unloaded new)

/-- A window without a catalogue gets another body without one (R25, R26, R63). -/
theorem GoodLaw.bare {s : State} (law : GoodLaw s) {w : Fin 32} {f : Window → Window} (before : (s.win w).body.cat? = none)
    (behind : (f (s.win w)).body.cat? = none) (good : (f (s.win w)).goodCount = (s.win w).goodCount) : GoodLaw (s.modWin w f) := by
  have zero : (s.win w).goodCount = 0 := by
    have here := law w
    unfold Window.goodLaw at here
    cases hb : (s.win w).body with
    | vacant | defined _ | rejected _ => rw [hb] at here; exact here
    | opened g c | loaded g c e => rw [hb] at before; cases before
  refine law.of_one (w := w) (fun u h => by simp [Ne.symm h]) (by rw [State.win_modWin, if_pos rfl])
    (Window.goodLaw_unbegun (good.trans zero) ?_ fun c hc => ?_)
  · cases hb : (f (s.win w)).body with
    | loaded g c e => rw [hb] at behind; cases behind
    | vacant | defined _ | rejected _ | opened _ _ => rfl
  · rw [behind] at hc
    cases hc

end Sys2Proof.Machine
end

section
/-! What a step can be to the blocks that know about chunks (R67, R97, R116): operations on one chunk and its context, changes of a
window's catalogue, resets, and what leaves chunk records, contexts and good counts as they are. Each law of these blocks is then kept
if every such operation keeps it. -/

namespace Sys2Proof.Machine

/-- A way from one state to another made of what the blocks that know about chunks can do. -/
inductive ChunkCourse : State → State → Prop
  | still {s t : State} (engine : t.engine = s.engine) (outline : ∀ w, (t.win w).body.outline = (s.win w).body.outline)
      (known : ∀ w i, sameChunk s t w i) (good : ∀ w, (t.win w).goodCount = (s.win w).goodCount)
      (queue : ∀ e ∈ t.scheduler.queue, e ∈ s.scheduler.queue ∨ e.chunk < (s.win e.window).body.count) : ChunkCourse s t
  | disturbed (s : State) (w : Fin 32) (i : Nat) : ChunkCourse s (s.disturb w i)
  | erased (s : State) (w : Fin 32) (i : Nat) : ChunkCourse s (s.eraseFully w i)
  | programmed (s : State) (w : Fin 32) (l : Landing) (data : List Byte) : ChunkCourse s (s.programChunk w l data)
  | dropped {s : State} {w : Fin 32} {i : Nat} {c : Chunk} (hc : s.chunk? w i = some c) (un : c.state = .unchecked) :
      ChunkCourse s (s.endDigesting w i)
  | harvested {s : State} {o : Offer} {c : Chunk} (hc : s.chunk? o.window o.chunk = some c) (un : c.state = .unchecked) :
      ChunkCourse s (s.harvestIdle o)
  | begun {s : State} {e : Entry} (queued : e ∈ s.scheduler.queue) (free : s.engine.readback = none) :
      ChunkCourse s (s.beginReadback e)
  | burst {s : State} {r x : ReadbackCtx} (hr : s.engine.readback = some r) (hw : x.window = r.window) (hi : x.chunk = r.chunk) :
      ChunkCourse s (s.setReadback (some x))
  | judged {s : State} {r : ReadbackCtx} (hr : s.engine.readback = some r) (digest : Digest) :
      ChunkCourse s (s.judgeReadback r digest)
  | bare {s : State} {w : Fin 32} {f : Window → Window} (before : (s.win w).body.cat? = none)
      (behind : (f (s.win w)).body.cat? = none) (good : (f (s.win w)).goodCount = (s.win w).goodCount) :
      ChunkCourse s (s.modWin w f)
  | opened (s : State) (w : Fin 32) (g : Geometry) {c : Catalogue} (fresh : ∀ x ∈ c.chunks, x = Chunk.fresh) :
      ChunkCourse s (s.openCatalogue w g c)
  | torn (s : State) (w : Fin 32) {next : WinBody} (bare : next.cat? = none) : ChunkCourse s (s.teardown w next)
  | offered {s : State} {w : Fin 32} {g : Geometry} {c : Catalogue} (hb : (s.win w).body = .opened g c) (i : Nat)
      (ds : List Digest) : ChunkCourse s (s.offerOpen w g c i ds)
  | reset {s t : State} (h : Blank t) : ChunkCourse s t
  | trans {s t u : State} (h : ChunkCourse s t) (k : ChunkCourse t u) : ChunkCourse s u

/-! ### The laws along such a way -/

theorem Blank.goodLaw {s : State} (h : Blank s) : GoodLaw s := fun w => by
  rw [h.win w]
  exact rfl

theorem Blank.contextLaw {s : State} (h : Blank s) : ContextLaw s := by
  refine ⟨by simp [h.recency], fun k => by simp [h.recency, h.stream k], fun k x hx => ?_, fun r hr => ?_, fun w i c hc => ?_⟩
  · rw [h.stream k] at hx; cases hx
  · rw [h.readback] at hr; cases hr
  · rw [h.chunk? w i] at hc; cases hc

theorem WinBody.isLoaded_of_bare {b : WinBody} (h : b.cat? = none) : b.isLoaded = false := by
  cases b with
  | loaded g c e => cases h
  | vacant | defined _ | rejected _ | opened _ _ => rfl

theorem WinBody.unbegun_of_bare {b : WinBody} (h : b.cat? = none) : b.unbegun := fun c hc => by
  rw [h] at hc
  cases hc

theorem WinBody.unbegun_opened {g : Geometry} {c : Catalogue} (fresh : ∀ x ∈ c.chunks, x = Chunk.fresh) :
    (WinBody.opened g c).unbegun := by
  rintro _ ⟨⟩
  exact fresh

theorem GoodLaw.teardown {s t : State} (law : GoodLaw s) {w : Fin 32} {next : WinBody} (bare : next.cat? = none)
    (h : t = s.teardown w next) : GoodLaw t :=
  law.torn (WinBody.isLoaded_of_bare bare) (WinBody.unbegun_of_bare bare) (by rw [h]; exact s.teardown_windows w next)

/-- The law of R89 is kept by everything that the blocks that know about chunks do. -/
theorem ChunkCourse.goodLaw {s t : State} (h : ChunkCourse s t) (law : GoodLaw s) : GoodLaw t := by
  induction h with
  | still _ outline known good => exact fun w => goodLaw_of_same (outline w) (known w) (good w) (law w)
  | disturbed s w i => exact law.disturb w i
  | erased s w i => exact law.eraseFully w i
  | programmed s w l data => exact law.programChunk w l data
  | dropped => exact law.endDigesting _ _
  | harvested hc => exact law.harvestIdle _ hc
  | begun => exact law.beginReadback _
  | burst => exact law.of_windows rfl
  | judged => exact law.judgeReadback _ _
  | bare before behind good => exact law.bare before behind good
  | opened s w g fresh => exact law.torn rfl (WinBody.unbegun_opened fresh) (s.openCatalogue_windows w g _)
  | @torn s w next bare =>
    generalize ht : s.teardown w next = t
    exact law.teardown bare ht.symm
  | offered hb i ds => exact law.offered hb rfl
  | reset blank => exact blank.goodLaw
  | trans _ _ first second => exact second (first law)

/-- The entry to LOADED moves only chunks that no context holds (R61). -/
theorem ContextLaw.entered {s : State} (law : ContextLaw s) {w : Fin 32} {g : Geometry} {c : Catalogue}
    (hb : (s.win w).body = .opened g c) : ContextLaw (s.enterLoaded w g c) := by
  have enters := s.enterLoaded_enters w g c
  have work := s.enterLoaded_work w g c
  have engine := s.enterLoaded_engine w g c
  have others : ∀ u j, u ≠ w → (s.enterLoaded w g c).chunk? u j = s.chunk? u j := fun u j h => by
    rw [State.chunk?, enters.others u h]
    rfl
  have here : ∀ j, s.chunk? w j = c.chunks[j]? := fun j => by rw [State.chunk?, hb]; rfl
  refine (contextLaw_iff _).2 ⟨law.recency.of_engine engine, law.heldLaw.of_records (State.held_of_engine engine)
    (fun u j d hd => ?_) fun u j x hx => ?_⟩ <;> by_cases h : u = w
  · subst h
    have count : c.chunks.length = ((s.enterLoaded u g c).win u).body.count := by
      rw [enters.body, WinBody.count, WinBody.cat?]
      exact (Catalogue.compared_length g c).symm
    have lt := (State.chunk?_isSome _ _ _).1 (Option.isSome_iff_exists.2 ⟨d, hd⟩)
    rw [← count] at lt
    rw [here, List.getElem?_eq_getElem lt]
    rfl
  · rw [← others u j h, hd]
    rfl
  · subst h
    have unlinked : x.state = .computed ∨ x.state = .erased → x.link = none := fun h =>
      law.heldLaw.unlinked hx (by rcases h with h | h <;> rw [h] <;> exact ⟨nofun, nofun, nofun⟩)
    obtain ⟨d, hd, known⟩ := enters.known ((here j).symm.trans hx)
    refine ⟨d, hd, ?_⟩
    split at known
    · next hs =>
      obtain ⟨state, _, _, link⟩ : d.state = _ ∧ d.expected = x.expected ∧ d.observed = x.observed ∧ d.link = x.link := by
        simpa [Chunk.known] using known
      refine ⟨link, .inr ⟨unlinked (.inl hs), ?_⟩⟩
      rw [state]
      split <;> exact ⟨nofun, nofun⟩
    · split at known
      · next hs =>
        obtain ⟨state, _, _, link⟩ : d.state = .good ∧ d.expected = x.expected ∧ d.observed = x.expected ∧ d.link = x.link := by
          simpa [Chunk.known] using known
        exact ⟨link, .inr ⟨unlinked (.inr hs.1), by rw [state]; exact ⟨nofun, nofun⟩⟩⟩
      · obtain ⟨state, link⟩ := Chunk.state_link_of_known known
        exact ⟨link, .inl state⟩
  · exact ⟨x, by rw [others u j h, hx], rfl, .inl rfl⟩

theorem ContextLaw.offered {s : State} (law : ContextLaw s) {w : Fin 32} {g : Geometry} {c : Catalogue}
    (hb : (s.win w).body = .opened g c) (i : Nat) (ds : List Digest) : ContextLaw (s.offerOpen w g c i ds) := by
  have stored := law.stored hb i ds
  have opened : ((s.store w g (c.offered i ds)).win w).body = .opened g (c.offered i ds) := by
    rw [State.store_win, if_pos rfl]
  rw [State.offerOpen_eq_store]
  split
  · exact law.reject _ _ _ _
  · split
    · split
      · exact stored.entered opened
      · exact stored.reject _ _ _ _
    · exact stored

/-- The laws of contexts, with what carries them from step to step: every entry of the check queue names a chunk that exists. -/
structure TrackerLaw (s : State) : Prop where
  context : ContextLaw s
  named : s.entriesNamed

/-- The laws of contexts are kept by everything that the blocks that know about chunks do. -/
theorem ChunkCourse.trackerLaw {s t : State} (h : ChunkCourse s t) (law : TrackerLaw s) : TrackerLaw t := by
  induction h with
  | still engine outline known _ queue => exact ⟨law.context.of_same engine known, law.named.of_outline outline queue⟩
  | disturbed s w i => exact ⟨law.context.disturb w i, law.named.sheds (s.disturb_sheds w i)⟩
  | erased s w i => exact ⟨law.context.eraseFully w i, law.named.sheds (s.eraseFully_sheds w i)⟩
  | programmed s w l data => exact ⟨law.context.programChunk w l data, law.named.sheds (s.programChunk_sheds w l data)⟩
  | dropped hc un => exact ⟨law.context.drop hc un, law.named.sheds (State.endDigesting_sheds _ _ _)⟩
  | harvested hc un => exact ⟨law.context.harvestIdle _ hc un, law.named.sheds (State.harvestIdle_sheds _ _)⟩
  | begun queued free =>
    exact ⟨law.context.beginReadback ((State.chunk?_isSome _ _ _).2 (law.named _ queued)) free,
      law.named.sheds (State.beginReadback_sheds _ _)⟩
  | burst hr hw hi => exact ⟨law.context.burst hr hw hi, law.named.sheds ((State.setReadback_work _ _).sheds rfl)⟩
  | judged hr digest => exact ⟨law.context.judgeReadback hr digest, law.named.sheds (State.judgeReadback_sheds _ _ _)⟩
  | bare before behind _ => exact ⟨law.context.unbegun before (WinBody.unbegun_of_bare behind), law.named.unbegun _ before⟩
  | opened s w g fresh => exact ⟨law.context.openCatalogue w g fresh, law.named.openCatalogue w g _⟩
  | torn s w bare => exact ⟨law.context.teardown w (WinBody.unbegun_of_bare bare), law.named.teardown w _⟩
  | offered hb i ds => exact ⟨law.context.offered hb i ds, law.named.offered hb i ds⟩
  | reset blank => exact ⟨blank.contextLaw, fun e he => by rw [blank.checks] at he; cases he⟩
  | trans _ _ first second => exact second (first law)

end Sys2Proof.Machine
end

section
/-! Each step of the part is made of what the blocks that know about chunks do: records, the host's commands, forwarding, internal
operations and time. -/

namespace Sys2Proof.Machine

/-! ### What leaves chunk records, contexts and good counts alone -/

theorem ChunkCourse.of_blocks {s t : State} (windows : t.windows = s.windows) (engine : t.engine = s.engine)
    (queue : t.scheduler.queue = s.scheduler.queue) : ChunkCourse s t := by
  have win : ∀ w, t.win w = s.win w := fun w => by rw [State.win, windows]; rfl
  refine .still engine (fun w => by rw [win]) (fun w i => .of_eq ?_) (fun w => by rw [win]) fun e he => ?_
  · rw [State.chunk?, win]
    rfl
  · rw [queue] at he
    exact .inl he

theorem ChunkCourse.refl (s : State) : ChunkCourse s s := .of_blocks rfl rfl rfl

theorem State.modBridge_chunkCourse (s : State) (f : Bridge → Bridge) : ChunkCourse s (s.modBridge f) := .of_blocks rfl rfl rfl

theorem State.modParser_chunkCourse (s : State) (f : Parser → Parser) : ChunkCourse s (s.modParser f) := .of_blocks rfl rfl rfl

theorem State.modSupply_chunkCourse (s : State) (f : Supply → Supply) : ChunkCourse s (s.modSupply f) := .of_blocks rfl rfl rfl

theorem State.drive_chunkCourse (s : State) (a : List Byte) (b : List FlashTxn) : ChunkCourse s (s.drive a b) :=
  .of_blocks rfl rfl rfl

theorem State.raise_chunkCourse (s : State) (r : Report) : ChunkCourse s (s.raise r) := .of_blocks rfl rfl rfl

theorem State.withhold_chunkCourse (s : State) (cls : CmdClass) (r : Reason) (opcode : Byte) (addr : Nat) :
    ChunkCourse s (s.withhold cls r opcode addr) := .of_blocks rfl rfl rfl

theorem State.issue_chunkCourse (s : State) (l : List FlashTxn) : ChunkCourse s (s.issue l) := .of_blocks rfl rfl rfl

theorem State.modReports_chunkCourse (s : State) (f : ReportWriter → ReportWriter) : ChunkCourse s (s.modReports f) :=
  .of_blocks rfl rfl rfl

theorem ChunkCourse.foldl {α : Type} (f : State → α → State) (hf : ∀ s a, ChunkCourse s (f s a)) (l : List α) (s : State) :
    ChunkCourse s (l.foldl f s) := by
  induction l generalizing s with
  | nil => exact .refl s
  | cons a l ih => exact (hf s a).trans (ih _)

/-- A write of window flags and timers that keeps the body and the good count. -/
theorem State.modWin_chunkCourse (s : State) (w : Fin 32) (f : Window → Window) (hb : (f (s.win w)).body = (s.win w).body)
    (hg : (f (s.win w)).goodCount = (s.win w).goodCount) : ChunkCourse s (s.modWin w f) := by
  refine .still rfl (fun u => ?_) (fun u i => .of_eq (s.chunk?_modWin_body w f hb u i)) (fun u => ?_) fun e he => .inl he
  · rw [State.win_modWin]
    split
    · next h => subst h; rw [hb]
    · rfl
  · rw [State.win_modWin]
    split
    · next h => subst h; exact hg
    · rfl

theorem QueueWork.chunkCourse {s t : State} (h : QueueWork s t)
    (queue : ∀ e ∈ t.scheduler.queue, e ∈ s.scheduler.queue ∨ e.chunk < (s.win e.window).body.count) : ChunkCourse s t :=
  .still h.engine h.chunks.outline h.known (fun w => by rw [h.flags w]) queue

theorem State.refill_chunkCourse (s : State) : ChunkCourse s s.refill := s.refill_queueWork.chunkCourse s.mem_queue_of_refill

theorem State.settleClaim_chunkCourse (s : State) : ChunkCourse s s.settleClaim := by
  unfold State.settleClaim
  split <;> exact .of_blocks rfl rfl rfl

theorem State.requestMark_chunkCourse (s : State) (m : Mark) : ChunkCourse s (s.requestMark m) := by
  rw [s.requestMark_eq]
  exact .of_blocks rfl rfl rfl

theorem State.reportImage_chunkCourse (s : State) (w : Fin 32) (n : Nat) : ChunkCourse s (s.reportImage w n) := by
  obtain ⟨engine, scheduler⟩ := s.reportImage_blocks w n
  refine .still engine (fun u => by rw [State.reportImage_win]) (fun u i => .of_eq ?_) (fun u => by rw [State.reportImage_win])
    fun e he => ?_
  · rw [State.chunk?, State.reportImage_win]
    rfl
  · rw [scheduler] at he
    exact .inl he

theorem State.completionTest_chunkCourse (s : State) (w : Fin 32) : ChunkCourse s (s.completionTest w) := by
  unfold State.completionTest
  split
  · split
    · exact .trans (.of_blocks (t := s.raise _) rfl rfl rfl) (State.modWin_chunkCourse _ _ _ rfl rfl)
    · exact .refl s
  all_goals exact .refl s

theorem State.closeEvent_chunkCourse (s : State) (w : Fin 32) (n : Nat) : ChunkCourse s (s.closeEvent w n) :=
  (s.reportImage_chunkCourse w n).trans (State.completionTest_chunkCourse _ _)

theorem State.setDipTouched_chunkCourse (s : State) (w : Fin 32) : ChunkCourse s (s.setDipTouched w) :=
  s.modWin_chunkCourse w _ rfl rfl

theorem State.restartIf_chunkCourse (s : State) (now : Bool) : ChunkCourse s (s.restartIf now) := by
  unfold State.restartIf
  split
  · exact .reset (State.resetWith_blank _ _ _ _)
  · exact .refl s

/-- What stands behind an event on the flash: a refill, the claim count and perhaps a restart (R16, R121, R165). -/
theorem State.closed_chunkCourse (s : State) (now : Bool) : ChunkCourse s (s.refill.settleClaim.restartIf now) :=
  (s.refill_chunkCourse.trans (State.settleClaim_chunkCourse _)).trans (State.restartIf_chunkCourse _ _)

/-! ### Records -/

theorem State.dropPending_chunkCourse (s : State) (v : Fin 8) (view : View) (pc : PendingCommit) (r : Reason) :
    ChunkCourse s (s.dropPending v view pc r) := by
  obtain ⟨_, frame, _⟩ := s.dropPending_frame v view pc r
  rw [frame]
  exact .of_blocks rfl rfl rfl

theorem State.markCommit_chunkCourse (s : State) (pc : PendingCommit) (k : MarkKind) : ChunkCourse s (s.markCommit pc k) := by
  obtain ⟨_, frame⟩ := s.markCommit_frame pc k
  rw [frame]
  exact .of_blocks rfl rfl rfl

theorem State.release_chunkCourse (s : State) (v : Fin 8) (view : View) : ChunkCourse s (s.release v view) := by
  unfold State.release
  dsimp only
  split
  · exact .of_blocks rfl rfl rfl
  · split
    · exact s.dropPending_chunkCourse _ _ _ _
    · exact .trans (.trans (.of_blocks (t := s.setView v _) rfl rfl rfl) (State.markCommit_chunkCourse _ _ _))
        (.of_blocks (t := State.raiseCommit _ _ _ _ _ _ _) rfl rfl rfl)

theorem State.commit_chunkCourse (s : State) (mode : Mode) (addr : Nat) (v : Fin 8) (view : View) (bank : Bank) :
    ChunkCourse s (s.commit mode addr v view bank).st := by
  unfold State.commit
  split
  · split
    · exact s.dropPending_chunkCourse _ _ _ _
    · exact .refl s
  · split
    · exact .of_blocks rfl rfl rfl
    · split
      · exact .of_blocks rfl rfl rfl
      · split
        · dsimp only
          split
          · exact (s.dropPending_chunkCourse v view _ .replaced).trans (.of_blocks rfl rfl rfl)
          · exact .of_blocks rfl rfl rfl
        · exact .of_blocks rfl rfl rfl

theorem State.takeWindow_chunkCourse (s : State) (bytes : List Byte) : ChunkCourse s (s.takeWindow bytes).st := by
  rcases s.takeWindow_cases bytes with ⟨r, h⟩ | ⟨w, t, hw, h⟩ <;> rw [h]
  · exact .refl s
  · obtain ⟨⟨_, change, _⟩, rfl⟩ := (State.takeWindow_taken_iff hw).1 h
    exact .bare (f := fun v => { v with body := v.body.redefine (windowGeometry bytes) }) change.1
      ((WinBody.cat?_redefine _ _).trans change.1) rfl

theorem State.takeManifest_chunkCourse (s : State) (bytes : List Byte) : ChunkCourse s (s.takeManifest bytes).st := by
  simp only [State.takeManifest]
  split
  · exact .refl s
  · split
    · exact .refl s
    · exact .refl s
    · split
      · exact .refl s
      · exact .opened s _ _ fun x hx => List.eq_of_mem_replicate hx

theorem State.takeDigests_chunkCourse (s : State) (bytes : List Byte) : ChunkCourse s (s.takeDigests bytes).st := by
  simp only [State.takeDigests]
  split
  · exact .refl s
  · split
    · exact .refl s
    · split
      · next hb =>
        split
        · exact .refl s
        · exact .offered hb _ _
      · split
        · exact .refl s
        · split <;> exact .refl s
      all_goals exact .refl s

theorem State.takeDrop_chunkCourse (s : State) (bytes : List Byte) : ChunkCourse s (s.takeDrop bytes).st := by
  simp only [State.takeDrop]
  split
  · exact .refl s
  · split
    · exact .refl s
    · split
      · exact .refl s
      · simp only [Ruling.st]
        refine ChunkCourse.trans ?_ (State.modWin_chunkCourse _ _ _ rfl rfl)
        split
        · exact .torn s _ rfl
        · next h => exact .bare (by simpa using h) rfl rfl

theorem State.takeCheck_chunkCourse (s : State) (bytes : List Byte) : ChunkCourse s (s.takeCheck bytes).st := by
  have check : ∀ w urgent, ChunkCourse s (s.check w urgent) := fun w urgent =>
    ((ChunkCourse.foldl _ (fun s i => (State.checkChunk_queueWork w urgent s i).chunkCourse
      (State.named_of_checkChunk w urgent s i)) _ s).trans (State.modWin_chunkCourse _ _ _ rfl rfl)).trans
        (State.completionTest_chunkCourse _ _)
  simp only [State.takeCheck]
  split
  · exact .refl s
  · split
    · exact .refl s
    · split
      · exact check _ _
      · exact .refl s

theorem State.takeAck_chunkCourse (s : State) : ChunkCourse s s.takeAck.st := by
  have released : ChunkCourse s (if s.alertStays then s else s.modReports fun r => { r with alert := false }) := by
    split <;> exact .of_blocks rfl rfl rfl
  have cleared : ∀ s w, ChunkCourse s (State.clearFillReported s w) := fun s w => s.modWin_chunkCourse w _ rfl rfl
  simp only [State.takeAck, Ruling.st]
  exact released.trans (ChunkCourse.foldl _ cleared allWindows _)

/-- The owners of the records on views only write the view table and the Report Writer (R129 to R144). -/
theorem State.viewRecord_chunkCourse (s : State) (mode : Mode) (addr : Nat) (bytes : List Byte) :
    ChunkCourse s (s.takeView bytes).st ∧ ChunkCourse s (s.takeUnview bytes).st ∧ ChunkCourse s (s.takeHold bytes).st ∧
      ChunkCourse s (s.takeRelease bytes).st ∧ ChunkCourse s (s.takeCommit mode addr bytes).st := by
  refine ⟨?_, ?_, ?_, ?_, ?_⟩
  · unfold State.takeView
    split
    · split <;> exact .of_blocks rfl rfl rfl
    · exact .refl s
  · unfold State.takeUnview
    split
    · exact .refl s
    · split
      · exact .refl s
      · split <;> exact .of_blocks rfl rfl rfl
  · unfold State.takeHold
    split
    · exact .refl s
    · split
      · exact .refl s
      · split <;> exact .of_blocks rfl rfl rfl
  · unfold State.takeRelease
    split
    · exact .refl s
    · split
      · exact .refl s
      · split
        · exact s.release_chunkCourse _ _
        · exact .refl s
  · unfold State.takeCommit
    split
    · split
      · exact .refl s
      · exact s.commit_chunkCourse _ _ _ _ _
    · exact .refl s

/-- A record that comes to its owner is such a way, whatever its kind. -/
theorem State.dispatch_chunkCourse (s : State) (k : RecKind) (mode : Mode) (addr : Nat) (bytes : List Byte) :
    ChunkCourse s (s.dispatch k mode addr bytes).st := by
  obtain ⟨view, unview, hold, release, commit⟩ := s.viewRecord_chunkCourse mode addr bytes
  cases k with
  | opclass =>
    simp only [State.dispatch, State.takeOpclass]
    split
    · exact .refl s
    · split <;> exact .of_blocks rfl rfl rfl
  | window => exact s.takeWindow_chunkCourse bytes
  | manifest => exact s.takeManifest_chunkCourse bytes
  | digests => exact s.takeDigests_chunkCourse bytes
  | drop => exact s.takeDrop_chunkCourse bytes
  | check => exact s.takeCheck_chunkCourse bytes
  | budget => exact .of_blocks rfl rfl rfl
  | view => exact view
  | unview => exact unview
  | commit => exact commit
  | hold => exact hold
  | release => exact release
  | snapshot =>
    simp only [State.dispatch, State.takeSnapshot]
    split <;> exact .of_blocks rfl rfl rfl
  | ack => exact s.takeAck_chunkCourse
  | restart => exact .refl s

end Sys2Proof.Machine
end

section
/-! Each step of the part is made of what the blocks that know about chunks do, and so keeps their laws (O58, O59). -/

namespace Sys2Proof.Machine

/-! ### What stands around a record -/

theorem State.refuseRecord_chunkCourse (s : State) (addr : Nat) (bytes : List Byte) (r : Reason) (o : Origin) :
    ChunkCourse s (s.refuseRecord addr bytes r o) :=
  (s.requestMark_chunkCourse _).trans (State.raise_chunkCourse _ _)

theorem State.nextRecord_chunkCourse (s : State) (bytes : List Byte) : ChunkCourse s (s.nextRecord bytes) :=
  (s.modParser_chunkCourse _).trans (State.refill_chunkCourse _)

theorem State.ruleRecord_chunkCourse (s : State) (k : RecKind) (mode : Mode) (addr : Nat) (bytes : List Byte) :
    ChunkCourse s (s.ruleRecord k mode addr bytes).st := by
  unfold State.ruleRecord
  split
  · exact s.dispatch_chunkCourse k mode addr bytes
  · exact .refl s

theorem State.rule_chunkCourse (s : State) (addr : Nat) (bytes : List Byte) (taint : Bool) :
    ChunkCourse s (s.rule addr bytes taint).st := by
  unfold State.rule
  split
  · exact .refl s
  · split
    · exact .refl s
    · split
      · exact .refl s
      · exact s.ruleRecord_chunkCourse _ _ _ _

theorem State.liveRecord_chunkCourse (s : State) (bytes : List Byte) (taint : Bool) :
    ChunkCourse s (s.liveRecord bytes taint).st := by
  have ruled := s.rule_chunkCourse s.parser.cursor bytes taint
  have marked : ∀ (t : State) (m : Mark), ChunkCourse t ((t.requestMark m).nextRecord bytes) := fun t m =>
    (t.requestMark_chunkCourse m).trans (State.nextRecord_chunkCourse _ _)
  simp only [State.liveRecord, State.markRestart]
  split <;> rename_i hr <;> rw [hr] at ruled <;> simp only [Ruling.st] at ruled ⊢
  · exact ruled.trans ((State.refuseRecord_chunkCourse _ _ _ _ _).trans (State.nextRecord_chunkCourse _ _))
  · exact ruled.trans (marked _ _)
  · exact ruled.trans (State.nextRecord_chunkCourse _ _)
  · split <;> dsimp only
    · exact ruled.trans (marked _ _)
    · exact ruled.trans (marked _ _)
    · exact ruled.trans (State.nextRecord_chunkCourse _ _)

theorem State.refuseAtReplay_chunkCourse (s : State) (addr : Nat) (bytes : List Byte) (r : Reason) :
    ChunkCourse s (s.refuseAtReplay addr bytes r) :=
  (s.refuseRecord_chunkCourse addr bytes r .replay).trans (State.modParser_chunkCourse _ _)

/-- A mark requested at replay, and the record counted (R168, R169). -/
theorem State.markedAtReplay_chunkCourse (s : State) (addr : Nat) (k : MarkKind) (f : Parser → Parser) :
    ChunkCourse s ((s.markRecord addr k).modParser f) :=
  (s.requestMark_chunkCourse _).trans (State.modParser_chunkCourse _ _)

theorem State.replayRuling_chunkCourse (addr : Nat) (bytes : List Byte) (r : Ruling) :
    ChunkCourse r.st (State.replayRuling addr bytes r) := by
  cases r with
  | taken u => exact u.markedAtReplay_chunkCourse _ _ _
  | pended u => exact .of_blocks rfl rfl rfl
  | refused u reason => exact u.refuseAtReplay_chunkCourse _ _ _
  | commitRefused u => exact u.markedAtReplay_chunkCourse _ _ _

theorem State.replayStanding_chunkCourse (s : State) (k : RecKind) (kept : Bool) (addr : Nat) (bytes : List Byte) :
    ChunkCourse s (s.replayStanding k kept addr bytes) := by
  unfold State.replayStanding
  split
  · have ruled := s.ruleRecord_chunkCourse k .replayKept addr bytes
    split
    · next hr =>
      rw [hr] at ruled
      exact ruled.trans (State.modParser_chunkCourse _ _)
    · exact ruled.trans (State.replayRuling_chunkCourse _ _ _)
  · exact (s.ruleRecord_chunkCourse _ _ _ _).trans (State.replayRuling_chunkCourse _ _ _)

theorem State.replayRecord_chunkCourse (s : State) (bytes : List Byte) : ChunkCourse s (s.replayRecord bytes) := by
  refine .trans ?_ (State.nextRecord_chunkCourse _ _)
  split
  · exact .of_blocks rfl rfl rfl
  · split
    · exact s.refuseAtReplay_chunkCourse _ _ _
    · split
      · exact s.refuseAtReplay_chunkCourse _ _ _
      · split
        · exact s.refuseAtReplay_chunkCourse _ _ _
        · split
          · exact s.replayStanding_chunkCourse _ _ _ _
          · exact s.markedAtReplay_chunkCourse _ _ _

theorem State.collected_chunkCourse (s : State) (o : Origin) (first : Nat) (bytes : List Byte) (taint : Bool) :
    ChunkCourse s (s.collected o first bytes taint).st := by
  unfold State.collected
  dsimp only
  split
  · split
    · exact .of_blocks rfl rfl rfl
    · split
      · exact .of_blocks rfl rfl rfl
      · split <;> exact .of_blocks rfl rfl rfl
  · split
    · cases o with
      | live =>
        have live := s.liveRecord_chunkCourse bytes taint
        dsimp only
        split <;> exact live
      | replay =>
        dsimp only [FeedResult.st]
        exact s.replayRecord_chunkCourse bytes
    · exact .of_blocks rfl rfl rfl

theorem State.feed_chunkCourse (s : State) (o : Origin) (first : Nat) (b : Byte) : ChunkCourse s (s.feed o first b).st := by
  unfold State.feed
  dsimp only
  split
  · exact .refl s
  · exact s.collected_chunkCourse _ _ _ _
  · exact s.collected_chunkCourse _ _ _ _

theorem State.feedLive_chunkCourse (first : Nat) (bytes : List Byte) (s : State) :
    ChunkCourse s (s.feedLive first bytes).st := by
  induction bytes generalizing s with
  | nil => exact .refl s
  | cons b bs ih =>
    have one := s.feed_chunkCourse .live first b
    unfold State.feedLive
    split <;> rename_i hf <;> rw [hf] at one
    · exact one.trans (ih _)
    all_goals exact one

theorem State.feedReplay_chunkCourse (bytes : List Byte) (s : State) : ChunkCourse s (s.feedReplay bytes).1 := by
  induction bytes generalizing s with
  | nil => exact .refl s
  | cons b bs ih =>
    have one := s.feed_chunkCourse .replay 0 b
    unfold State.feedReplay
    split <;> rename_i hf <;> rw [hf] at one
    · split
      · exact one
      · exact one.trans (ih _)
    all_goals exact one

/-! ### The supply -/

theorem dipChunk_chunkCourse (w : Fin 32) (ranges : List (Nat × Nat)) (m : DipMark) (i : Nat) :
    ChunkCourse m.st (dipChunk w ranges m i).st := by
  unfold dipChunk
  split
  · exact .trans (.disturbed m.st w i) (State.setDipTouched_chunkCourse _ _)
  · exact .refl _

theorem dipChunks_chunkCourse (w : Fin 32) (ranges : List (Nat × Nat)) (l : List Nat) (m : DipMark) :
    ChunkCourse m.st (l.foldl (dipChunk w ranges) m).st := by
  induction l generalizing m with
  | nil => exact .refl _
  | cons i l ih => exact (dipChunk_chunkCourse w ranges m i).trans (ih _)

theorem dipWindow_chunkCourse (ranges : List (Nat × Nat)) (m : DipMark) (w : Fin 32) :
    ChunkCourse m.st (dipWindow ranges m w).st := by
  unfold dipWindow
  split
  · exact (dipChunks_chunkCourse w ranges _ m).trans (State.closeEvent_chunkCourse _ _ _)
  · exact .refl _

theorem dipWindows_chunkCourse (ranges : List (Nat × Nat)) (l : List (Fin 32)) (m : DipMark) :
    ChunkCourse m.st (l.foldl (dipWindow ranges) m).st := by
  induction l generalizing m with
  | nil => exact .refl _
  | cons w l ih => exact (dipWindow_chunkCourse ranges m w).trans (ih _)

theorem State.enterDip_chunkCourse (fresh : Bool) (s : State) : ChunkCourse s (s.enterDip fresh) := by
  have struck : ChunkCourse s s.dipStrike.st := by
    unfold State.dipStrike State.dipMark
    dsimp only
    split
    · exact (dipWindows_chunkCourse _ allWindows { st := s, marked := 0, windows := 0 }).trans
        (State.modParser_chunkCourse _ _)
    · exact .refl s
  unfold State.enterDip
  dsimp only
  split
  · exact (struck.trans (State.modSupply_chunkCourse _ _)).trans (State.raise_chunkCourse _ _)
  · exact struck.trans (State.modSupply_chunkCourse _ _)

theorem State.convertDip_chunkCourse (s : State) (w : Fin 32) : ChunkCourse s (s.convertDip w) := by
  unfold State.convertDip
  split
  · exact s.modWin_chunkCourse w _ rfl rfl
  · exact .refl s

theorem State.enterNormal_chunkCourse (now : Word32) (s : State) : ChunkCourse s (s.enterNormal now) := by
  have converted := ChunkCourse.foldl _ State.convertDip_chunkCourse allWindows
    (s.modSupply fun p => { p with state := .normal, settle := none })
  have closing : ∀ (t : State) (r : Report) (f : Supply → Supply), ChunkCourse t ((t.refill.raise r).modSupply f) := fun t r f =>
    (t.refill_chunkCourse.trans (State.raise_chunkCourse _ _)).trans (State.modSupply_chunkCourse _ _)
  unfold State.enterNormal
  dsimp only
  exact ((s.modSupply_chunkCourse _).trans converted).trans (closing _ _ _)

theorem State.bandEvent_chunkCourse (band : Band) (s : State) : ChunkCourse s (s.bandEvent band) := by
  have held : ChunkCourse s (s.modSupply fun p => { p with band := band }) := .of_blocks rfl rfl rfl
  simp only [State.bandEvent]
  split
  · exact .refl s
  · split
    · exact held.trans (State.enterDip_chunkCourse _ _)
    · exact held
    · exact held
    · exact held.trans (.of_blocks rfl rfl rfl)
    · exact held
    · exact held
    · exact held.trans (State.enterDip_chunkCourse _ _)
    · exact held.trans (.of_blocks rfl rfl rfl)
    · exact held.trans (.of_blocks rfl rfl rfl)

theorem State.changeBand_chunkCourse (band : Band) (s : State) : ChunkCourse s (s.changeBand band) := by
  unfold State.changeBand
  split
  · exact .refl s
  · exact ((s.bandEvent_chunkCourse band).trans (State.refill_chunkCourse _)).trans (State.settleClaim_chunkCourse _)

/-! ### Time and read-back -/

theorem State.tickQuiet_chunkCourse (s : State) (w : Fin 32) : ChunkCourse s (s.tickQuiet w) := by
  unfold State.tickQuiet
  split
  · exact .refl s
  · split <;> exact s.modWin_chunkCourse w _ rfl rfl

theorem State.tickSettle_chunkCourse (s : State) : ChunkCourse s s.tickSettle := by
  unfold State.tickSettle
  split
  · split
    · exact s.enterNormal_chunkCourse _
    · exact .of_blocks rfl rfl rfl
  all_goals exact .refl s

theorem State.tickTimers_chunkCourse (s : State) : ChunkCourse s s.tickTimers := by
  have claimed : ChunkCourse s (s.tickClaim.modScheduler Scheduler.tick) := by
    unfold State.tickClaim
    split <;> exact .of_blocks rfl rfl rfl
  exact ((claimed.trans (ChunkCourse.foldl _ State.tickQuiet_chunkCourse allWindows _)).trans (State.tickSettle_chunkCourse _)).trans
    (State.refill_chunkCourse _)

theorem State.takeHead_chunkCourse (s : State) : ChunkCourse s s.takeHead := by
  unfold State.takeHead
  split
  · next e rest queue =>
    split
    · next starts =>
      have free : s.engine.readback = none := by
        simp only [State.readbackStarts, Bool.and_eq_true, Option.isNone_iff_eq_none] at starts
        obtain ⟨⟨⟨_, free⟩, _⟩, _⟩ := starts
        exact free
      rw [s.startReadback_eq]
      exact ((ChunkCourse.begun (by rw [queue]; exact List.mem_cons_self) free).trans (State.refill_chunkCourse _)).trans
        (State.settleClaim_chunkCourse _)
    · exact .refl s
  · exact .refl s

theorem State.endBurst_chunkCourse {s : State} {r : ReadbackCtx} (hr : s.engine.readback = some r) (bytes : List Byte) :
    ChunkCourse s (s.endBurst r bytes) := by
  unfold State.endBurst
  refine ChunkCourse.trans ?_ (State.settleClaim_chunkCourse _)
  split
  · rw [s.completeReadback_eq]
    exact (ChunkCourse.judged hr _).trans (State.closeEvent_chunkCourse _ _ _)
  · exact .burst hr rfl rfl

/-! ### Reading -/

theorem State.harvest_chunkCourse (s : State) (o : Offer) : ChunkCourse s (s.harvest o) := by
  unfold State.harvest
  split
  · exact .refl s
  · next c hc =>
    split
    · exact .refl s
    · next un =>
      have un : c.state = .unchecked := not_not.1 un
      split
      · exact .dropped hc un
      · exact ((ChunkCourse.harvested hc un).trans (State.closeEvent_chunkCourse _ _ _)).trans (State.refill_chunkCourse _)

theorem ReadRun.close_chunkCourse (r : ReadRun) : ChunkCourse r.st r.close.st := by
  unfold ReadRun.close
  split
  · exact r.st.harvest_chunkCourse _
  · exact .refl _

theorem ReadRun.cut_chunkCourse (r : ReadRun) (b : ByteSite) : ChunkCourse r.st (r.cut b).st := by
  unfold ReadRun.cut
  split
  · split
    · exact .refl _
    · exact r.close_chunkCourse
  · exact .refl _

theorem ReadRun.account_chunkCourse (r : ReadRun) (b : ByteSite) : ChunkCourse r.st (r.account b).st := by
  unfold ReadRun.account
  split
  · split
    · unfold State.signalFill
      dsimp only
      split
      · exact .refl _
      · exact .trans (State.raise_chunkCourse _ _) (State.modWin_chunkCourse _ _ _ rfl rfl)
    · exact .refl _
  · exact .refl _

theorem State.duringRead_chunkCourse (s : State) (e : DuringRead) : ChunkCourse s (s.duringRead e) := by
  cases e with
  | tick => exact s.tickTimers_chunkCourse.trans (State.settleClaim_chunkCourse _)
  | bandChange band => exact s.changeBand_chunkCourse band
  | readbackStart => exact s.takeHead_chunkCourse

theorem ReadRun.between_chunkCourse (r : ReadRun) (x : Nat) (events : List DuringRead) :
    ChunkCourse r.st (r.between x events).st := by
  cases events with
  | nil => exact .refl _
  | cons e es =>
    exact (r.cut_chunkCourse (r.st.siteOf x)).trans (ChunkCourse.foldl _ State.duringRead_chunkCourse (e :: es) _)

theorem ReadRun.byte_chunkCourse (r : ReadRun) (x : Nat) (byte : Byte) : ChunkCourse r.st (r.byte x byte).st :=
  (r.cut_chunkCourse (r.st.siteOf x)).trans
    (ReadRun.account_chunkCourse
      { r.cut (r.st.siteOf x) with
        last := some (r.st.siteOf x)
        offer := (r.cut (r.st.siteOf x)).grow (r.st.siteOf x) byte
        out := (r.cut (r.st.siteOf x)).out ++ [(r.cut (r.st.siteOf x)).st.delivered (r.st.siteOf x) byte] }
      (r.st.siteOf x))

theorem ReadRun.bytes_chunkCourse (a flashBytes : Nat) (during : List (Nat × DuringRead)) (data : List Byte) :
    ∀ (k : Nat) (r : ReadRun), ChunkCourse r.st (ReadRun.bytes a flashBytes during k data r).st := by
  induction data with
  | nil => exact fun k r => r.between_chunkCourse _ _
  | cons b bs ih => exact fun k r => ((r.between_chunkCourse _ _).trans (ReadRun.byte_chunkCourse _ _ _)).trans (ih _ _)

theorem State.readRun_chunkCourse (s : State) (x : HostXfer) : ChunkCourse s (s.readRun x).finish := by
  have opened : ChunkCourse s s.takeOpcode := .of_blocks rfl rfl rfl
  have run : ChunkCourse s.takeOpcode (s.readRun x).st :=
    ReadRun.bytes_chunkCourse _ _ _ _ 0 { st := s.takeOpcode, last := none, offer := none, out := [], filled := [] }
  refine (opened.trans run).trans ?_
  unfold ReadRun.finish
  split
  · exact ReadRun.close_chunkCourse _
  · exact (ReadRun.close_chunkCourse _).trans (.of_blocks (t := State.countFillCommand _) rfl rfl rfl)

/-! ### The host's commands and forwarding -/

theorem State.releaseSelect_chunkCourse (s : State) (c : Collected) (addrLen : Nat) :
    ChunkCourse s (s.releaseSelect c addrLen) := by
  unfold State.releaseSelect
  split
  · exact ((s.withhold_chunkCourse _ _ _ _).trans (State.drive_chunkCourse _ _ _)).trans (State.settleClaim_chunkCourse _)
  · exact ((s.modBridge_chunkCourse _).trans (State.drive_chunkCourse _ _ _)).trans (State.settleClaim_chunkCourse _)

theorem State.watchStatus_chunkCourse (s : State) (byte : Byte) : ChunkCourse s (s.watchStatus byte) := by
  unfold State.watchStatus
  split <;> exact .of_blocks rfl rfl rfl

theorem State.hostCommand_chunkCourse (s : State) (x : HostXfer) : ChunkCourse s (s.hostCommand x) := by
  have opened : ChunkCourse s s.takeOpcode := s.modBridge_chunkCourse _
  have passed : ChunkCourse s (s.takeOpcode.forwardRaw x) := opened.trans (State.drive_chunkCourse _ _ _)
  have collected : ∀ c n, ChunkCourse s (s.takeOpcode.releaseSelect c n) := fun c n =>
    opened.trans (State.releaseSelect_chunkCourse _ c n)
  unfold State.hostCommand
  split
  · exact s.drive_chunkCourse _ _
  · exact (opened.trans (State.drive_chunkCourse _ _ _)).trans (State.settleClaim_chunkCourse _)
  · rw [s.readCommand_eq]
    exact ((s.readRun_chunkCourse x).trans (State.drive_chunkCourse _ _ _)).trans (State.settleClaim_chunkCourse _)
  · exact collected _ _
  · exact collected _ _
  · exact collected _ _
  · exact collected _ _
  · exact collected _ _
  · exact (passed.trans (ChunkCourse.foldl _ State.watchStatus_chunkCourse x.flash _)).trans (State.settleClaim_chunkCourse _)
  · exact (passed.trans (State.modBridge_chunkCourse _ _)).trans (State.settleClaim_chunkCourse _)
  · exact passed.trans (State.settleClaim_chunkCourse _)
  · exact ((opened.trans (State.withhold_chunkCourse _ _ _ _ _)).trans (State.drive_chunkCourse _ _ _)).trans
      (State.settleClaim_chunkCourse _)

theorem State.restartQuiet_chunkCourse (s : State) (w : Fin 32) : ChunkCourse s (s.restartQuiet w) := by
  unfold State.restartQuiet
  split
  · exact s.modWin_chunkCourse w _ rfl rfl
  · exact .refl s

theorem State.programEvent_chunkCourse (s : State) (w : Fin 32) (l : Landing) (data : List Byte) :
    ChunkCourse s (s.programEvent w l data) := by
  unfold State.programEvent
  dsimp only
  split
  · exact (ChunkCourse.programmed s w l data).trans (State.closeEvent_chunkCourse _ _ _)
  · exact ((ChunkCourse.disturbed s w l.chunk).trans (State.setDipTouched_chunkCourse _ _)).trans
      (State.closeEvent_chunkCourse _ _ _)

theorem State.landProgram_chunkCourse (s : State) (c : Collected) : ChunkCourse s (s.landProgram c).st := by
  unfold State.landProgram
  split
  · next w _ =>
    simp only [State.programWindow]
    refine ChunkCourse.trans ?_ (State.restartQuiet_chunkCourse _ _)
    split
    · exact s.programEvent_chunkCourse _ _ _
    · exact .refl s
  · split
    · unfold State.commandProgram
      split
      · exact .refl s
      · split
        · exact .of_blocks rfl rfl rfl
        · split
          · exact .of_blocks rfl rfl rfl
          · exact State.feedLive_chunkCourse _ _ s
    · exact .refl s

theorem State.forwardProgram_chunkCourse (s : State) (c : Collected) : ChunkCourse s (s.forwardProgram c) := by
  unfold State.forwardProgram
  split
  · exact (s.modBridge_chunkCourse _).trans (State.settleClaim_chunkCourse _)
  · have busy : ChunkCourse s (s.emptyBuffer.busyWithHost (c.touched s.flashBytes)) := .of_blocks rfl rfl rfl
    exact (busy.trans (State.landProgram_chunkCourse _ c)).trans (State.closed_chunkCourse _ _)

theorem State.eraseChunk_chunkCourse (w : Fin 32) (cover : Nat × Nat) (s : State) (i : Nat) :
    ChunkCourse s (s.eraseChunk w cover i) := by
  unfold State.eraseChunk
  split
  · split
    · split
      · exact .erased s w i
      · exact .disturbed s w i
    · exact .trans (.disturbed s w i) (State.setDipTouched_chunkCourse _ _)
  · exact .refl s

theorem State.eraseWindow_chunkCourse (cover : Nat × Nat) (s : State) (w : Fin 32) :
    ChunkCourse s (s.eraseWindow cover w) := by
  unfold State.eraseWindow
  split
  · exact (ChunkCourse.foldl _ (State.eraseChunk_chunkCourse w cover) _ s).trans (State.closeEvent_chunkCourse _ _ _)
  · exact .refl s

theorem State.eraseTouches_chunkCourse (cover : Nat × Nat) (s : State) (w : Fin 32) :
    ChunkCourse s (s.eraseTouches cover w) := by
  unfold State.eraseTouches
  split
  · exact s.restartQuiet_chunkCourse w
  · exact .refl s

theorem State.loseRecord_chunkCourse (cover : Nat × Nat) (s : State) (v : Fin 8) : ChunkCourse s (s.loseRecord cover v) :=
  .of_blocks rfl rfl rfl

theorem State.eraseMeetsCommand_chunkCourse (s : State) (cover : Nat × Nat) :
    ChunkCourse s (s.eraseMeetsCommand cover).st := by
  unfold State.eraseMeetsCommand State.eraseCommandArea
  dsimp only
  split
  · exact ((s.modParser_chunkCourse _).trans (State.modReports_chunkCourse _ _)).trans
      (ChunkCourse.foldl _ (State.loseRecord_chunkCourse cover) allViews _)
  · exact .refl s

theorem State.eraseMeetsReport_chunkCourse (s : State) (cover : Nat × Nat) : ChunkCourse s (s.eraseMeetsReport cover) := by
  unfold State.eraseMeetsReport State.eraseReportArea
  split
  · split <;> exact .of_blocks rfl rfl rfl
  · exact .refl s

theorem State.forwardErase_chunkCourse (s : State) (c : Collected) : ChunkCourse s (s.forwardErase c) := by
  have busy : ChunkCourse s (s.emptyBuffer.busyWithHost (c.touched s.flashBytes)) := .of_blocks rfl rfl rfl
  have windows : ∀ (t : State) cover, ChunkCourse t (t.eraseWindows cover) := fun t cover =>
    (ChunkCourse.foldl _ (State.eraseWindow_chunkCourse cover) allWindows t).trans
      (ChunkCourse.foldl _ (State.eraseTouches_chunkCourse cover) allWindows _)
  exact (((busy.trans (windows _ _)).trans (State.eraseMeetsCommand_chunkCourse _ _)).trans
    (State.eraseMeetsReport_chunkCourse _ _)).trans (State.closed_chunkCourse _ _)

/-! ### Internal programs and start-up reads -/

theorem State.pollProgram_chunkCourse (s : State) (kind : ProgramKind) (byte : Byte) :
    ChunkCourse s (s.pollProgram kind byte) := by
  have watched : ChunkCourse s ((s.issue [statusTxn]).watchStatus byte) :=
    (s.issue_chunkCourse _).trans (State.watchStatus_chunkCourse _ _)
  simp only [State.pollProgram]
  split
  · exact watched.trans (State.settleClaim_chunkCourse _)
  · have completed : ∀ t : State, ChunkCourse t (t.completeProgram kind).st := fun t => by
      cases kind <;> exact .of_blocks rfl rfl rfl
    exact ((watched.trans (completed _)).trans (State.settleClaim_chunkCourse _)).trans (State.restartIf_chunkCourse _ _)

theorem State.tickProgram_chunkCourse (s : State) : ChunkCourse s s.tickProgram.st := by
  unfold State.tickProgram
  split
  · split <;> exact .of_blocks rfl rfl rfl
  all_goals exact .refl s

theorem State.startupBytes_chunkCourse (s : State) (purpose : ReadPurpose) (bytes : List Byte) :
    ChunkCourse s (s.startupBytes purpose bytes) := by
  cases purpose with
  | scan => exact .of_blocks rfl rfl rfl
  | replay =>
    have replayed := State.feedReplay_chunkCourse bytes s
    simp only [State.startupBytes, State.replayBytes]
    split <;> rename_i hf <;> rw [hf] at replayed
    · exact replayed.trans (.of_blocks (t := State.endReplay _ _) rfl rfl rfl)
    · exact replayed

/-! ### The step -/

/-- Each row of the table is such a way. -/
theorem exec_chunkCourse (i : Instr) (s t : State) (h : exec i s = .next t) : ChunkCourse s t := by
  have host : ∀ {x : HostXfer}, i ∈ hostRows x → ChunkCourse s t := by
    intro x hi
    rw [exec_of_hostRow hi] at h
    cases h
    exact s.hostCommand_chunkCourse x
  cases i with
  | read x | program x | erase4K x | erase32K x | erase64K x | eraseAll x | status x | writeEnable x | pass x | block x
  | commandDiscard x | opcodeWhileNotReady x => exact host (x := x) (by simp [hostRows])
  | programForward =>
    simp only [exec, execProgramForward] at h
    split at h
    · split at h <;> cases h
      · exact s.forwardProgram_chunkCourse _
      · exact .refl s
    · cases h; exact .refl s
  | eraseForward =>
    simp only [exec, execEraseForward] at h
    split at h
    · split at h <;> cases h
      · exact .refl s
      · exact s.forwardErase_chunkCourse _
    · cases h; exact .refl s
  | statusPoll waiting byte =>
    simp only [exec, execStatusPoll] at h
    split at h <;> cases h
    · exact ((s.issue_chunkCourse _).trans (State.watchStatus_chunkCourse _ _)).trans
        (State.settleClaim_chunkCourse _)
    · exact .refl s
  | markProgram waiting =>
    simp only [exec, execMarkProgram] at h
    split at h
    · split at h <;> cases h <;> exact .of_blocks rfl rfl rfl
    · cases h; exact .refl s
  | reportProgram waiting =>
    simp only [exec, execReportProgram] at h
    split at h
    · split at h <;> cases h <;> exact .of_blocks rfl rfl rfl
    · cases h; exact .refl s
  | internalProgramTransactionEnd =>
    simp only [exec, execInternalProgramTransactionEnd] at h
    split at h <;> cases h
    · exact (s.modBridge_chunkCourse _).trans (State.settleClaim_chunkCourse _)
    all_goals exact .refl s
  | internalProgramPoll byte =>
    simp only [exec, execInternalProgramPoll] at h
    split at h <;> cases h
    · exact s.pollProgram_chunkCourse _ _
    all_goals exact .refl s
  | internalProgramTimeout =>
    simp only [exec, execInternalProgramTimeout] at h
    split at h
    · split at h <;> cases h
      · have ended : ChunkCourse s s.timeOut.st := .of_blocks rfl rfl rfl
        exact (ended.trans (State.settleClaim_chunkCourse _)).trans (State.restartIf_chunkCourse _ _)
      · exact .refl s
    all_goals cases h; exact .refl s
  | startupRead waiting =>
    simp only [exec, execStartupRead] at h
    split at h
    · split at h <;> cases h <;> exact .of_blocks rfl rfl rfl
    · cases h; exact .refl s
  | startupReadEnd bytes =>
    simp only [exec, execStartupReadEnd] at h
    split at h
    · split at h <;> cases h
      · exact ((s.modBridge_chunkCourse _).trans (State.startupBytes_chunkCourse _ _ _)).trans
          (State.settleClaim_chunkCourse _)
      · exact .refl s
    all_goals cases h; exact .refl s
  | readbackStart => cases h; exact s.takeHead_chunkCourse
  | readbackBurst waiting =>
    simp only [exec, execReadbackBurst] at h
    split at h
    · next r hr =>
      split at h <;> cases h
      · exact .trans (.burst hr (x := { r with inFlight := some (s.burstLen r) }) rfl rfl)
          (.of_blocks (t := s.issueBurst r) rfl rfl rfl)
      · exact .refl s
    · cases h; exact .refl s
  | readbackBurstEnd bytes =>
    simp only [exec, execReadbackBurstEnd] at h
    split at h
    · next r hr =>
      split at h <;> cases h
      · exact State.endBurst_chunkCourse hr _
      · exact .refl s
    · cases h; exact .refl s
  | tick =>
    simp only [exec, execTick] at h
    split at h <;> obtain rfl := Host.Outcome.next.inj h
    · exact .refl s
    · exact ((s.tickTimers_chunkCourse.trans (State.tickProgram_chunkCourse _)).trans (State.settleClaim_chunkCourse _)).trans
        (State.restartIf_chunkCourse _ _)
  | quietTimerExpiry window =>
    simp only [exec, execQuietTimerExpiry] at h
    split at h
    · cases h; exact .refl s
    · next w _ =>
      split at h
      · split at h <;> obtain rfl := Host.Outcome.next.inj h
        · exact ((s.modWin_chunkCourse w _ rfl rfl).trans (State.refill_chunkCourse _)).trans (State.settleClaim_chunkCourse _)
        · exact .refl s
      · cases h; exact .refl s
  | bandChange band =>
    simp only [exec, execBandChange] at h
    split at h <;> cases h
    · exact .refl s
    · exact s.changeBand_chunkCourse band
  | settleTimerExpiry =>
    simp only [exec, execSettleTimerExpiry] at h
    split at h
    · split at h <;> obtain rfl := Host.Outcome.next.inj h
      · exact (s.enterNormal_chunkCourse _).trans (State.settleClaim_chunkCourse _)
      · exact .refl s
    all_goals cases h; exact .refl s
  | powerOnReset pins band => cases h; exact .reset (State.resetWith_blank _ _ _ _)
  | resetPinAssert => cases h; exact .reset (State.cleared_blank _ _ _ _ .held)
  | resetPinRelease pins band =>
    simp only [exec, execResetPinRelease] at h
    split at h <;> cases h
    · exact .reset (State.resetWith_blank _ _ _ _)
    · exact .of_blocks rfl rfl rfl

/-- A step is such a way: on an empty queue the part idles. -/
theorem step_chunkCourse {s t : State} (h : step s = .next t) : ChunkCourse s t := by
  unfold step at h
  split at h
  · cases h; exact .refl s
  · next c rest _ => exact .trans (.of_blocks (t := { s with pending := rest }) rfl rfl rfl) (exec_chunkCourse c _ t h)

/-- Settles O58. -/
theorem goodCountIsTheNumberOfGoodChunks : Obligations.GoodCountIsTheNumberOfGoodChunks := fun _ _ law h =>
  (step_chunkCourse h).goodLaw law

/-- Settles O59: of the law of R116 it needs only that the check queue's entries name chunks that exist. -/
theorem eachContextHoldsExactlyItsChunk : Obligations.EachContextHoldsExactlyItsChunk := fun _ _ queue law h =>
  ((step_chunkCourse h).trackerLaw ⟨law, queue.entriesNamed⟩).context

end Sys2Proof.Machine
end

section
/-! The start of a read-back (R84, R110, R119, R124): what it leaves of the queue, of the reports and of the queued field (O41). -/

namespace Sys2Proof.Machine

/-- What stands behind an event on chunks touches nothing else either. -/
theorem ChunkWork.sameOutsideChunks_behind {s u t : State} (work : ChunkWork s u) (behind : Behind u t) :
    Machine.sameOutsideChunks s t := by
  refine ⟨behind.pending.trans work.pending, behind.part.trans work.part, behind.cause.trans work.cause,
    behind.strapPins.trans work.strapPins, behind.straps.trans work.straps, behind.views.trans work.views,
    behind.supply.trans work.supply, behind.parser.trans work.parser, ?_, ?_, fun w => ?_⟩
  · rw [behind.scheduler, work.scheduler]
  · rw [behind.reports, work.reports]
  · rw [(WinBody.outline_inj (behind.outline w)).1, work.geom?]

/-! ### The queue and the reports at the start -/

theorem State.endDigesting_scheduler (s : State) (w : Fin 32) (i : Nat) : (s.endDigesting w i).scheduler = s.scheduler := by
  unfold State.endDigesting
  split <;> rfl

/-- Only an abort of a read-back writes the Report Writer, to count it (R114). -/
theorem State.endDigesting_reports (s : State) (w : Fin 32) (i : Nat) {c : Chunk} (hc : s.chunk? w i = some c)
    (link : c.link ≠ some .readback) : (s.endDigesting w i).reports = s.reports := by
  simp only [State.endDigesting, hc, Option.bind_some]
  split
  · rfl
  · next h => exact absurd h link
  · rfl

/-- A chunk without an entry leaves the queue as it is, whatever its next state. -/
theorem State.moveChunk_queue_of_absent (s : State) (w : Fin 32) (i : Nat) (st : ChunkState) (d : Option Digest)
    (absent : ∀ e ∈ s.scheduler.queue, (e.window, e.chunk) ≠ (w, i)) :
    (s.moveChunk w i st d).scheduler.queue = s.scheduler.queue := by
  have kept : s.scheduler.queue.filter (fun e => !(decide (e.window = w) && decide (e.chunk = i))) = s.scheduler.queue := by
    refine List.filter_eq_self.2 fun e he => ?_
    have apart := absent e he
    simp only [ne_eq, Prod.mk.injEq] at apart
    simpa [imp_iff_not_or] using apart
  unfold State.moveChunk
  split
  · rfl
  · dsimp only
    split
    · exact kept
    · rfl

/-- The head entry leaves the queue, and no other entry is of its chunk (R116, R119). -/
theorem State.beginReadback_queue {s : State} (law : QueueLaw s) {e : Entry} {rest : List Entry}
    (queue : s.scheduler.queue = e :: rest) : (s.beginReadback e).scheduler.queue = rest := by
  obtain ⟨_, nodup, _, _⟩ := law
  rw [queue, List.map_cons, List.nodup_cons] at nodup
  have dequeued : ((s.setQueue (s.scheduler.queue.drop 1)).endDigesting e.window e.chunk).scheduler.queue = rest := by
    rw [State.endDigesting_scheduler, queue]
    rfl
  refine (State.moveChunk_queue_of_absent _ e.window e.chunk .checking none fun x hx => ?_).trans dequeued
  rw [dequeued] at hx
  exact fun same => nodup.1 (same ▸ List.mem_map_of_mem hx)

theorem State.beginReadback_reports (s : State) (e : Entry) {c : Chunk} (hc : s.chunk? e.window e.chunk = some c)
    (link : c.link ≠ some .readback) : (s.beginReadback e).reports = s.reports := by
  obtain ⟨q, hq⟩ : ∃ q, q = s.setQueue (s.scheduler.queue.drop 1) := ⟨_, rfl⟩
  have dequeued : q.chunk? e.window e.chunk = some c := by rw [hq]; exact hc
  obtain ⟨ended, _⟩ := q.endDigesting_spec e.window e.chunk c dequeued
  obtain ⟨_, _, _, moved, _⟩ := (q.endDigesting e.window e.chunk).moveChunk_spec e.window e.chunk .checking none _ ended
  unfold State.beginReadback
  rw [← hq]
  refine (moved.trans (q.endDigesting_reports _ _ dequeued link)).trans ?_
  rw [hq]
  rfl

/-! ### A refill adds UNCHECKED chunks alone -/

/-- The record of a chunk in another state than UNCHECKED, its queued field with it. -/
def State.standsAs (s : State) (w : Fin 32) (i : Nat) (c : Chunk) : Prop := s.chunk? w i = some c ∧ c.state ≠ .unchecked

theorem State.standsAs.passWindow {w : Fin 32} {i : Nat} {c : Chunk} (v : Fin 32) (fuel : Nat) (added : Bool) {s : State}
    (h : s.standsAs w i c) : (s.passWindow v fuel added).standsAs w i c := by
  have flagged : ∀ (t : State) (f : Window → Window), (∀ x, (f x).body = x.body) → t.standsAs w i c → (t.modWin v f).standsAs w i c :=
    fun t f hf k => ⟨(t.chunk?_modWin_body v f (hf _) w i).trans k.1, k.2⟩
  induction fuel generalizing added s with
  | zero =>
    simp only [State.passWindow]
    split
    · exact h
    · exact flagged _ _ (fun _ => rfl) h
  | succ fuel ih =>
    simp only [State.passWindow]
    split
    · exact h
    · split
      · next adds =>
        have apart : (w, i) ≠ (v, (s.win v).cursor) := by
          rintro ⟨⟩
          rw [State.addable, h.1] at adds
          simp [h.2] at adds
        refine ih _ (flagged _ _ (fun _ => rfl) ⟨?_, h.2⟩)
        exact (State.chunk?_modChunk_of_ne _ _ _ _ apart).trans h.1
      · exact ih _ (flagged _ _ (fun _ => rfl) h)

theorem State.standsAs.refill {w : Fin 32} {i : Nat} {c : Chunk} {s : State} (h : s.standsAs w i c) : s.refill.standsAs w i c := by
  have turn : ∀ (t : State) (v : Fin 32), t.standsAs w i c → (t.refillWindow v).standsAs w i c := by
    intro t v k
    unfold State.refillWindow
    split
    · exact k.passWindow _ _ _
    · exact k
  have sweep : ∀ (l : List (Fin 32)) (t : State), t.standsAs w i c → (l.foldl State.refillWindow t).standsAs w i c := by
    intro l
    induction l with
    | nil => exact fun _ k => k
    | cons v l ih => exact fun t k => ih _ (turn t v k)
  rw [State.refill_eq]
  exact sweep allWindows _ (sweep allWindows s h)

/-! ### When a read-back starts -/

theorem State.settleClaim_chunk? (s : State) (w : Fin 32) (i : Nat) : s.settleClaim.chunk? w i = s.chunk? w i := by
  rw [s.settleClaim_eq]
  rfl

theorem State.settleClaim_scheduler (s : State) : s.settleClaim.scheduler = s.scheduler := by
  rw [s.settleClaim_eq]

theorem State.startReadback_queue {s : State} (law : QueueLaw s) {e : Entry} {rest : List Entry}
    (queue : s.scheduler.queue = e :: rest) : rest <+: (s.startReadback e).scheduler.queue := by
  have kept := State.refill_prefix (s.beginReadback e)
  rw [State.beginReadback_queue law queue] at kept
  rw [State.startReadback_eq, State.settleClaim_scheduler]
  exact kept

theorem State.readbackStarts_iff (s : State) (e : Entry) : s.readbackStarts e = true ↔
    s.part = .running ∧ s.engine.readback = none ∧ s.bridge.busy = false ∧
      (e.urgent = true ∨ min 256 ((s.win e.window).body.chunkLen e.chunk) ≤ s.scheduler.credit) := by
  simp only [State.readbackStarts, Bool.and_eq_true, Bool.or_eq_true, decide_eq_true_eq, Option.isNone_iff_eq_none,
    Bool.not_eq_true', and_assoc]
  exact Iff.rfl

theorem exec_readbackStart (s : State) : exec .readbackStart s = .next s.takeHead := rfl

theorem State.takeHead_starts {s : State} {e : Entry} {rest : List Entry} (queue : s.scheduler.queue = e :: rest)
    (starts : s.readbackStarts e = true) : s.takeHead = s.startReadback e := by
  rw [State.takeHead, queue]
  exact if_pos starts

theorem State.takeHead_idle (s : State) (h : ∀ e rest, s.scheduler.queue = e :: rest → s.readbackStarts e = false) :
    s.takeHead = s := by
  unfold State.takeHead
  split
  · next e rest queue => exact if_neg (by rw [h e rest queue]; exact nofun)
  · rfl

/-! ### The statement -/

/-- Settles O41: `State.beginReadback` for the chunk, the contexts and the queue; the refill behind it adds behind the
entries that are left and spares the record of the CHECKING chunk. -/
theorem readbackStartTakesTheHeadEntry : Obligations.ReadbackStartTakesTheHeadEntry := by
  refine ⟨fun s e rest ch queueLaw law queue hc running free idle due => ?_, fun s notDue => ?_⟩
  · have unread : ch.link ≠ some .readback := fun hl => by
      obtain ⟨r, hr, _⟩ := law.harvest.links.ofReadback e.window e.chunk ch hc hl
      rw [free] at hr
      cases hr
    obtain ⟨⟨d, hd, known, queued⟩, others, streams, readback⟩ := s.beginReadback_spec e ch hc
    have behind : Behind (s.beginReadback e) (s.startReadback e) :=
      (State.refill_queueWork _).behind.trans (State.settleClaim_behind _)
    have work := (s.beginReadback_sheds e).work
    have state : d.state ≠ .unchecked := by
      rw [show d.state = .checking from congrArg Prod.fst known]
      decide
    have stands : (s.startReadback e).chunk? e.window e.chunk = some d := by
      rw [s.startReadback_eq, State.settleClaim_chunk?]
      exact (State.standsAs.refill ⟨hd, state⟩).1
    have starts := State.takeHead_starts queue ((s.readbackStarts_iff e).2 ⟨running, free, idle, due⟩)
    refine ⟨s.startReadback e, by rw [exec_readbackStart, starts], ?_, ?_,
      ⟨d, stands, known, queued⟩, fun u j apart => ?_, ?_, fun k => ?_, ?_, ?_, ?_⟩
    · exact work.sameOutsideChunks_behind behind
    · exact behind.reports.trans (s.beginReadback_reports e hc unread)
    · exact (sameChunk.of_eq (others u j apart)).trans (behind.known u j)
    · exact (congrArg Engine.readback behind.engine).trans readback
    · rw [behind.stream]
      exact streams k
    · have bridge := behind.bridge
      rw [work.bridge] at bridge
      exact bridge
    · exact behind.ports.trans work.ports
    · exact State.startReadback_queue queueLaw queue
  · rw [exec_readbackStart]
    refine congrArg _ (s.takeHead_idle fun e rest queue => ?_)
    rw [← Bool.not_eq_true, s.readbackStarts_iff]
    rintro ⟨running, free, idle, due⟩
    rcases notDue with h | h | h | h | ⟨e', rest', queue', normal, short⟩
    · exact h running
    · rw [free] at h; cases h
    · rw [idle] at h; cases h
    · rw [queue] at h; cases h
    · rw [queue] at queue'
      cases queue'
      rcases due with urgent | credit
      · rw [normal] at urgent; cases urgent
      · omega

end Sys2Proof.Machine
end

section
/-! The end of a burst (R85, R91, R112): the read-back goes on, or completes with a verdict (O43). -/

namespace Sys2Proof.Machine

/-! ### The verdict of a read-back -/

/-- What a completed read-back makes of its chunk, of the others, of the contexts and of the counts, and what it reports. -/
theorem State.judgeReadback_spec (s : State) (r : ReadbackCtx) (digest : Digest) (c : Chunk) (hc : s.chunk? r.window r.chunk = some c)
    (hg : c.state ≠ .good) {st : ChunkState} (hst : st = s.verdictOf r.window c.expected digest) :
    (∃ d, (s.judgeReadback r digest).chunk? r.window r.chunk = some d ∧ d.known = (st, c.expected, some digest, none)) ∧
      (∀ u j, (u, j) ≠ (r.window, r.chunk) → (s.judgeReadback r digest).chunk? u j = s.chunk? u j) ∧
      (s.judgeReadback r digest).engine = { s.engine with readback := none } ∧
      (s.judgeReadback r digest).reports.counters = s.reports.counters.judged st ∧
      ((s.judgeReadback r digest).win r.window).goodCount = (s.win r.window).goodCount + (if st = .good then 1 else 0) ∧
      Told s (s.judgeReadback r digest) (s.badReport r.window .readback r.chunk st) := by
  have work := (s.setReadback_work none).trans (State.unlink_work _ r.window r.chunk)
  have told := (s.modEngine_told fun g => { g with readback := none }).silent (State.unlink_told _ r.window r.chunk)
  have freed : ((s.setReadback none).unlink r.window r.chunk).chunk? r.window r.chunk = some { c with link := none } := by
    rw [State.unlink, State.chunk?_modChunk, if_pos ⟨rfl, rfl⟩, State.setReadback_chunk?, hc]
    rfl
  have apart : ∀ u j, (u, j) ≠ (r.window, r.chunk) →
      ((s.setReadback none).unlink r.window r.chunk).chunk? u j = s.chunk? u j := fun u j h => by
    rw [State.unlink, State.chunk?_modChunk_of_ne _ _ _ _ h, State.setReadback_chunk?]
  have good : (((s.setReadback none).unlink r.window r.chunk).win r.window).goodCount = (s.win r.window).goodCount :=
    State.modChunk_goodCount _ _ _ _ _
  obtain ⟨chunk, others, engine, counters, counted, raised⟩ :=
    ((s.setReadback none).unlink r.window r.chunk).verdict_spec r.window r.chunk digest .readback _ freed hg
  rw [work.verdictOf, ← hst] at chunk counters counted raised
  rw [work.badReport] at raised
  refine ⟨chunk, fun u j h => (others u j h).trans (apart u j h), engine.trans rfl, counters, ?_, told.trans raised⟩
  rw [← good]
  exact counted

/-! ### The end of a burst -/

theorem State.exec_readbackBurstEnd {s : State} {r : ReadbackCtx} {bytes : List Byte} (hr : s.engine.readback = some r)
    (flight : r.inFlight = some bytes.length) : exec (.readbackBurstEnd bytes) s = .next (s.endBurst r bytes) := by
  simp only [exec, execReadbackBurstEnd, hr]
  exact if_pos flight

theorem State.exec_readbackBurstEnd_none {s : State} {bytes : List Byte}
    (h : ∀ r, s.engine.readback = some r → r.inFlight ≠ some bytes.length) : exec (.readbackBurstEnd bytes) s = .next s := by
  simp only [exec, execReadbackBurstEnd]
  split
  · next r hr => exact if_neg (h r hr)
  · rfl

theorem State.endBurst_short (s : State) (r : ReadbackCtx) (bytes : List Byte)
    (short : r.next + bytes.length ≠ (s.win r.window).body.chunkLen r.chunk) :
    s.endBurst r bytes =
      (s.setReadback (some { r with next := r.next + bytes.length, inFlight := none, run := r.run.absorb bytes })).settleClaim := by
  rw [State.endBurst, if_neg short]

theorem State.endBurst_whole (s : State) (r : ReadbackCtx) (bytes : List Byte)
    (whole : r.next + bytes.length = (s.win r.window).body.chunkLen r.chunk) :
    s.endBurst r bytes =
      ((s.judgeReadback r (r.run.absorb bytes).complete).closeEvent r.window (s.win r.window).goodCount).settleClaim := by
  rw [State.endBurst, if_pos whole, State.completeReadback_eq]

/-- What stands at the end of a burst that completes its read-back. -/
structure ReadbackEnd (s t : State) (r : ReadbackCtx) (c : Chunk) (digest : Digest) (st : ChunkState) : Prop where
  outside : sameOutsideChunks s t
  engine : t.engine = { s.engine with readback := none }
  bridge : t.bridge = { s.bridge with claim := t.bridge.claim }
  ports : t.ports = s.ports
  chunk : ∃ d, t.chunk? r.window r.chunk = some d ∧ d.known = (st, c.expected, some digest, none)
  others : ∀ u j, (u, j) ≠ (r.window, r.chunk) → sameChunk s t u j
  goodCount : (t.win r.window).goodCount = (s.win r.window).goodCount + (if st = .good then 1 else 0)
  counters : t.reports.counters = s.reports.counters.judged st
  tell : tells s t [r.window] (s.badReport r.window .readback r.chunk st) []

theorem State.endBurst_readbackEnd (s : State) (r : ReadbackCtx) (bytes : List Byte) (c : Chunk)
    (hc : s.chunk? r.window r.chunk = some c) (hg : c.state ≠ .good)
    (whole : r.next + bytes.length = (s.win r.window).body.chunkLen r.chunk) :
    ReadbackEnd s (s.endBurst r bytes) r c (r.run.absorb bytes).complete
      (s.verdictOf r.window c.expected (r.run.absorb bytes).complete) := by
  rw [s.endBurst_whole r bytes whole]
  generalize (r.run.absorb bytes).complete = digest
  obtain ⟨chunk, others, engine, counters, good, told⟩ := s.judgeReadback_spec r digest c hc hg rfl
  have work := (s.judgeReadback_sheds r digest).work
  generalize s.judgeReadback r digest = u at chunk others engine counters good told work ⊢
  have claimed := (u.closeEvent r.window (s.win r.window).goodCount).settleClaim_behind
  have closed := work.trans (u.closeEvent_work r.window (s.win r.window).goodCount)
  have ends := EventEnd.of_close claimed
  have bridge := claimed.bridge
  rw [closed.bridge] at bridge
  exact
    { outside := closed.sameOutsideChunks_behind claimed
      engine := ends.engine.trans engine
      bridge := bridge
      ports := claimed.ports.trans closed.ports
      chunk := (ends.known _ _).knows chunk
      others := fun v j h => (sameChunk.of_eq (others v j h)).trans (ends.known v j)
      goodCount := (ends.goodCount _).trans good
      counters := ends.counters.trans counters
      tell := claimed.tells (tells_closeEvent r.window told.reported told.checkReportWanted) }

/-- Settles O43: `ReadbackEnd` for the verdict GOOD and for the verdict BAD. -/
theorem burstEndAdvancesOrGivesTheVerdict : Obligations.BurstEndAdvancesOrGivesTheVerdict := by
  refine ⟨fun s bytes none' => State.exec_readbackBurstEnd_none none', fun s r bytes ch digest hr flight hc hd => ⟨fun short => ?_,
    fun whole loaded checking => ?_⟩⟩
  · rw [State.exec_readbackBurstEnd hr flight, s.endBurst_short r bytes short]
    rfl
  · have ends := s.endBurst_readbackEnd r bytes ch hc (by rw [checking]; decide) whole
    rw [← hd] at ends
    have verdict : s.verdictOf r.window ch.expected digest = if ch.expected = some digest then .good else .bad := by
      rw [State.verdictOf, loaded]
      rfl
    rw [verdict] at ends
    refine ⟨s.endBurst r bytes, State.exec_readbackBurstEnd hr flight, ends.outside, by rw [ends.engine], ends.bridge, ends.ports,
      by rw [ends.engine], by rw [ends.engine], ends.others, fun equal => ?_, fun other => ?_⟩
    · rw [if_pos equal] at ends
      exact ⟨ends.chunk, ends.goodCount, ends.counters, ends.tell⟩
    · rw [if_neg other] at ends
      exact ⟨ends.chunk, ends.goodCount, ends.counters, ends.tell⟩

end Sys2Proof.Machine
end

section
/-! The dip mark (R88): the chunks under the touched ranges, the windows marked and their count, and what is told of them (R72, R156).
The marks come window after window, as the events of an erase do. -/

namespace Sys2Proof.Machine

/-! ### What a dip mark does, for the chunks it hits -/

/-- Between these two points of a dip mark exactly the chunks in `hit` were marked. -/
structure DipStep (m n : DipMark) (hit : Fin 32 → Nat → Bool) : Prop where
  work : ChunkWork m.st n.st
  chunk : ∀ w i c, m.st.chunk? w i = some c → hit w i = true → nowUnchecked n.st w i c ∧ (n.st.win w).dipTouched = true
  others : ∀ w i, hit w i = false → sameChunk m.st n.st w i
  keeps : ∀ w, (m.st.win w).dipTouched = true → (n.st.win w).dipTouched = true
  windows : ∀ w : Fin 32, n.windows.getLsbD w.val = true ↔
    m.windows.getLsbD w.val = true ∨ ∃ i, i < (m.st.win w).body.count ∧ hit w i = true

theorem DipStep.refl (m : DipMark) : DipStep m m fun _ _ => false where
  work := .refl _
  chunk _ _ _ _ h := absurd h nofun
  others _ _ _ := rfl
  keeps _ h := h
  windows w := by simp

theorem DipStep.trans {m n o : DipMark} {a b : Fin 32 → Nat → Bool} (h : DipStep m n a) (k : DipStep n o b) :
    DipStep m o fun w i => a w i || b w i where
  work := h.work.trans k.work
  chunk w i c hc hit := by
    cases hb : b w i with
    | false =>
      rw [hb, Bool.or_false] at hit
      obtain ⟨marked, touched⟩ := h.chunk w i c hc hit
      exact ⟨(k.others w i hb).knows marked, k.keeps w touched⟩
    | true =>
      have first : ∃ d, n.st.chunk? w i = some d ∧ d.expected = c.expected := by
        cases ha : a w i with
        | true =>
          obtain ⟨⟨d, hd, known⟩, _⟩ := h.chunk w i c hc ha
          exact ⟨d, hd, congrArg (fun k => k.2.1) known⟩
        | false =>
          obtain ⟨d, hd, known⟩ := (h.others w i ha).knows ⟨c, hc, rfl⟩
          exact ⟨d, hd, congrArg (fun k => k.2.1) known⟩
      obtain ⟨d, hd, expected⟩ := first
      have second := k.chunk w i d hd hb
      rwa [nowUnchecked, expected] at second
  others w i hit := by
    obtain ⟨ha, hb⟩ := Bool.or_eq_false_iff.1 hit
    exact (h.others w i ha).trans (k.others w i hb)
  keeps w hd := k.keeps w (h.keeps w hd)
  windows w := by
    rw [k.windows, h.windows, h.work.count, or_assoc, ← exists_or]
    simp only [Bool.or_eq_true, and_or_left]

theorem State.chunk?_none_of_count {s t : State} {w : Fin 32} {i : Nat} (count : (t.win w).body.count = (s.win w).body.count)
    (hc : s.chunk? w i = none) : t.chunk? w i = none := by
  rw [← Option.not_isSome_iff_eq_none, State.chunk?_isSome] at hc ⊢
  rwa [count]

/-- Only chunks that there are can be hit. -/
theorem DipStep.congr {m n : DipMark} {a b : Fin 32 → Nat → Bool} (h : DipStep m n a)
    (same : ∀ w i c, m.st.chunk? w i = some c → a w i = b w i) : DipStep m n b where
  work := h.work
  chunk w i c hc hit := h.chunk w i c hc (by rw [same w i c hc]; exact hit)
  others w i hit := by
    cases hc : m.st.chunk? w i with
    | some c => exact h.others w i (by rw [same w i c hc]; exact hit)
    | none => exact sameChunk.of_eq ((State.chunk?_none_of_count (h.work.count w) hc).trans hc.symm)
  keeps := h.keeps
  windows w := by
    rw [h.windows]
    refine or_congr_right (exists_congr fun i => and_congr_right fun lt => ?_)
    obtain ⟨c, hc⟩ := Option.isSome_iff_exists.1 ((m.st.chunk?_isSome w i).2 lt)
    rw [same w i c hc]

/-- The set of windows with one window more. -/
theorem getLsbD_addWindow (set : Word32) (w u : Fin 32) :
    (set ||| (1#32 <<< w.val)).getLsbD u.val = true ↔ set.getLsbD u.val = true ∨ u = w := by
  simp only [BitVec.getLsbD_or, BitVec.getLsbD_shiftLeft, BitVec.getLsbD_one, Bool.or_eq_true, Bool.and_eq_true, Bool.not_eq_true',
    decide_eq_true_eq, decide_eq_false_iff_not, Fin.ext_iff]
  refine or_congr_right ?_
  omega

/-- The mark on one chunk. -/
theorem dipChunk_step (w : Fin 32) (ranges : List (Nat × Nat)) (m : DipMark) (i : Nat) (lt : i < (m.st.win w).body.count) :
    DipStep m (dipChunk w ranges m i) fun u j => onlyChunk w i u j && (m.st.win w).body.chunkMet i ranges := by
  have work := dipChunk_work w ranges m i
  unfold dipChunk at work ⊢
  split
  · next met =>
    rw [if_pos met] at work
    obtain ⟨c, hc⟩ := Option.isSome_iff_exists.1 ((m.st.chunk?_isSome w i).2 lt)
    obtain ⟨chunk, others, _⟩ := m.st.disturb_spec w i c hc
    have told := m.st.disturb_told w i
    have knows := (State.setDipTouched_spec (m.st.disturb w i) w).1
    refine ⟨work, fun u j d hd hit => ?_, fun u j miss => ?_, fun u touched => ?_, fun u => ?_⟩
    · rw [met, Bool.and_true, onlyChunk_iff] at hit
      obtain ⟨rfl, rfl⟩ := hit
      rw [hc] at hd
      obtain rfl := Option.some.inj hd
      exact ⟨⟨_, (knows u j).trans chunk, rfl⟩, by rw [State.setDipTouched_dip]; simp⟩
    · rw [met, Bool.and_true, onlyChunk_eq_false] at miss
      exact .of_eq ((knows u j).trans (others u j miss))
    · rw [State.setDipTouched_dip, told.dipTouched, touched, Bool.or_true]
    · rw [getLsbD_addWindow]
      refine or_congr_right ⟨fun h => ⟨i, h ▸ lt, by simp [met, onlyChunk, h]⟩, fun ⟨j, _, hit⟩ => ?_⟩
      rw [met, Bool.and_true, onlyChunk_iff] at hit
      exact hit.1
  · next met => exact (DipStep.refl m).congr fun u j _ _ => by simp [met]

theorem dipChunk_inWindow (w : Fin 32) (ranges : List (Nat × Nat)) (m : DipMark) (i : Nat) :
    InWindow w m.st (dipChunk w ranges m i).st := by
  unfold dipChunk
  split
  · exact (m.st.moved_inWindow w i .unchecked none).trans (State.setDipTouched_inWindow _ w)
  · exact .refl w _

/-! ### The chunks of one window -/

/-- Whether the dip mark counts chunk `i` of window `w`: it is met, and in another state than UNCHECKED (R156). -/
def State.dipCounts (s : State) (w : Fin 32) (ranges : List (Nat × Nat)) (i : Nat) : Bool :=
  (s.win w).body.chunkMet i ranges && (s.chunk? w i).any fun c => decide (c.state ≠ .unchecked)

theorem dipChunk_marked (w : Fin 32) (ranges : List (Nat × Nat)) (m : DipMark) (i : Nat) :
    (dipChunk w ranges m i).marked = m.marked + if m.st.dipCounts w ranges i = true then 1 else 0 := by
  unfold dipChunk State.dipCounts
  split
  · next met =>
    cases hc : m.st.chunk? w i with
    | none => simp
    | some c => by_cases un : c.state = .unchecked <;> simp [met, un]
  · next met => simp [met]

/-- A mark on one chunk leaves what another counts for. -/
theorem DipStep.dipCounts {m n : DipMark} {hit : Fin 32 → Nat → Bool} (h : DipStep m n hit) {w : Fin 32} {i : Nat}
    (miss : hit w i = false) (ranges : List (Nat × Nat)) : n.st.dipCounts w ranges i = m.st.dipCounts w ranges i := by
  have same := h.others w i miss
  rw [State.dipCounts, State.dipCounts, WinBody.chunkMet_of_outline (h.work.outline w)]
  congr 1
  cases hn : n.st.chunk? w i with
  | none =>
    rw [sameChunk, hn] at same
    rw [Option.map_eq_none_iff.1 same.symm]
  | some d =>
    rw [sameChunk, hn] at same
    obtain ⟨c, hc, known⟩ := Option.map_eq_some_iff.1 same.symm
    rw [hc, Option.any_some, Option.any_some, show c.state = d.state from congrArg Prod.fst known]

/-- The marks on the chunks in a list, which are met and count exactly as at the start. -/
theorem dipChunks_step (w : Fin 32) (ranges : List (Nat × Nat)) {l : List Nat} (nodup : l.Nodup) (m : DipMark)
    (hl : ∀ i ∈ l, i < (m.st.win w).body.count) :
    DipStep m (l.foldl (dipChunk w ranges) m)
        (fun u j => decide (u = w) && (decide (j ∈ l) && (m.st.win w).body.chunkMet j ranges)) ∧
      InWindow w m.st (l.foldl (dipChunk w ranges) m).st ∧
      (l.foldl (dipChunk w ranges) m).marked = m.marked + l.countP (m.st.dipCounts w ranges) := by
  induction l generalizing m with
  | nil => exact ⟨(DipStep.refl m).congr fun _ _ _ _ => by simp, .refl w _, rfl⟩
  | cons i l ih =>
    obtain ⟨absent, nodup⟩ := List.nodup_cons.1 nodup
    have first := dipChunk_step w ranges m i (hl i (by simp))
    have outline := first.work.outline w
    obtain ⟨rest, inside, marked⟩ := ih nodup (dipChunk w ranges m i) fun j hj => by
      rw [first.work.count]
      exact hl j (by simp [hj])
    refine ⟨(first.trans rest).congr fun u j _ _ => ?_, (dipChunk_inWindow w ranges m i).trans inside, ?_⟩
    · rw [WinBody.chunkMet_of_outline outline]
      by_cases hu : u = w
      · by_cases hj : j = i
        · simp [onlyChunk, hu, hj]
        · simp [onlyChunk, hu, hj]
      · simp [onlyChunk, hu]
    · have counts : l.countP ((dipChunk w ranges m i).st.dipCounts w ranges) = l.countP (m.st.dipCounts w ranges) := by
        refine List.countP_congr fun j hj => ?_
        have apart : j ≠ i := fun e => absent (e ▸ hj)
        rw [first.dipCounts (by simp [onlyChunk, apart])]
      rw [List.foldl_cons, marked, counts, dipChunk_marked, List.countP_cons]
      omega

/-! ### One window after the other -/

/-- The marks of one window: its met chunks are marked, and it tells what is due, if one of its chunks is met (R72, R88). -/
theorem dipWindow_step (ranges : List (Nat × Nat)) (m : DipMark) (w : Fin 32) :
    DipStep m (dipWindow ranges m w) (fun u j => decide (u = w) && (m.st.win w).body.chunkMet j ranges) ∧
      tells m.st (dipWindow ranges m w).st (if (m.st.win w).body.anyChunkMet ranges = true then [w] else []) [] [] ∧
      (∀ u, u ≠ w → (dipWindow ranges m w).st.win u = m.st.win u) ∧
      (dipWindow ranges m w).marked =
        m.marked + (List.range (m.st.win w).body.count).countP (m.st.dipCounts w ranges) := by
  have there : ∀ {j c}, m.st.chunk? w j = some c → j < (m.st.win w).body.count := fun hc =>
    (m.st.chunk?_isSome w _).1 (by rw [hc]; rfl)
  unfold dipWindow
  split
  · next met =>
    obtain ⟨step, inside, marked⟩ := dipChunks_step w ranges (List.nodup_range (n := (m.st.win w).body.count)) m
      fun i hi => List.mem_range.1 hi
    generalize (List.range (m.st.win w).body.count).foldl (dipChunk w ranges) m = n at step inside marked
    obtain ⟨chunks, _, _, _, flags⟩ := n.st.closeEvent_spec w (m.st.win w).goodCount
    have closed : DipStep n { n with st := n.st.closeEvent w (m.st.win w).goodCount } fun _ _ => false :=
      { work := n.st.closeEvent_work w _
        chunk := fun _ _ _ _ h => absurd h nofun
        others := fun u j _ => .of_eq (chunks u j)
        keeps := fun u h => (flags u).2.1.trans h
        windows := fun u => by simp }
    refine ⟨(step.trans closed).congr fun u j c hc => ?_, tells_closeEvent w inside.silent inside.checkReportWanted,
      fun u hu => (State.closeEvent_win_of_ne _ _ _ hu).trans (inside.elsewhere u hu), marked⟩
    by_cases hu : u = w
    · subst hu
      simp [there hc]
    · simp [hu]
  · next met =>
    have none' : ∀ j, j < (m.st.win w).body.count → (m.st.win w).body.chunkMet j ranges = false := fun j lt => by
      by_contra yes
      exact met (List.any_eq_true.2 ⟨j, List.mem_range.2 lt, by simpa using yes⟩)
    refine ⟨(DipStep.refl m).congr fun u j c hc => ?_, ⟨reported_nil m.st, fun u => by simp⟩, fun _ _ => rfl, ?_⟩
    · by_cases hu : u = w
      · subst hu
        simp [none' j (there hc)]
      · simp [hu]
    · have zero : (List.range (m.st.win w).body.count).countP (m.st.dipCounts w ranges) = 0 :=
        List.countP_eq_zero.2 fun j hj => by simp [State.dipCounts, none' j (List.mem_range.1 hj)]
      rw [zero]
      rfl

/-- The marks of a list of windows. -/
theorem dipWindows_step (ranges : List (Nat × Nat)) {l : List (Fin 32)} (nodup : l.Nodup) (m : DipMark) :
    DipStep m (l.foldl (dipWindow ranges) m) (fun u j => decide (u ∈ l) && (m.st.win u).body.chunkMet j ranges) ∧
      tells m.st (l.foldl (dipWindow ranges) m).st (l.filter fun w => (m.st.win w).body.anyChunkMet ranges) [] [] ∧
      (∀ u, u ∉ l → (l.foldl (dipWindow ranges) m).st.win u = m.st.win u) ∧
      (l.foldl (dipWindow ranges) m).marked =
        m.marked + (l.map fun w => (List.range (m.st.win w).body.count).countP (m.st.dipCounts w ranges)).sum := by
  induction l generalizing m with
  | nil => exact ⟨(DipStep.refl m).congr fun _ _ _ _ => by simp, ⟨reported_nil m.st, fun v => by simp⟩, fun _ _ => rfl, rfl⟩
  | cons w l ih =>
    obtain ⟨absent, nodup⟩ := List.nodup_cons.1 nodup
    obtain ⟨first, told, elsewhere, marked⟩ := dipWindow_step ranges m w
    obtain ⟨rest, told', elsewhere', marked'⟩ := ih nodup (dipWindow ranges m w)
    have kept : ∀ v ∈ l, (dipWindow ranges m w).st.win v = m.st.win v := fun v hv => elsewhere v fun e => absent (e ▸ hv)
    have same : (l.filter fun v => ((dipWindow ranges m w).st.win v).body.anyChunkMet ranges) =
        l.filter fun v => (m.st.win v).body.anyChunkMet ranges := List.filter_congr fun v hv => by rw [kept v hv]
    have counts : (l.map fun v => (List.range ((dipWindow ranges m w).st.win v).body.count).countP
          ((dipWindow ranges m w).st.dipCounts v ranges)) =
        l.map fun v => (List.range (m.st.win v).body.count).countP (m.st.dipCounts v ranges) :=
      List.map_congr_left fun v hv => by
        rw [kept v hv]
        refine congrArg (fun p => List.countP p _) (funext fun i => ?_)
        rw [State.dipCounts, State.dipCounts, State.chunk?, State.chunk?, kept v hv]
    rw [same] at told'
    rw [List.foldl_cons]
    refine ⟨(first.trans rest).congr fun v j c _ => ?_, ?_, fun u hu => ?_, ?_⟩
    · by_cases hv : v = w
      · subst hv; simp [absent]
      · simp [hv, elsewhere v hv]
    · rw [List.filter_cons]
      exact tells.cons (fun h => absent (List.mem_filter.1 h).1) told told' elsewhere (elsewhere' w absent)
    · rw [List.mem_cons, not_or] at hu
      rw [elsewhere' u hu.2, elsewhere u hu.1]
    · rw [marked', counts, marked, List.map_cons, List.sum_cons]
      omega

end Sys2Proof.Machine
end

section
/-! An entry to DIP (R149): the dip mark and the taint under the touched list (R88, R152), the SUPPLY report (R156), and what comes
behind it (O25). -/

namespace Sys2Proof.Machine

/-! ### The strike -/

/-- The bytes that a dip strikes: those of the touched list while the flash is busy with owner host, and none otherwise (R88, R149). -/
def State.struckRanges (s : State) : List (Nat × Nat) :=
  if s.bridge.busy ∧ s.bridge.owner = .host then s.bridge.touched.ranges s.flashBytes else []

/-- What a dip that strikes these bytes does ahead of the Supply Monitor's share. -/
structure DipStruck (s : State) (m : DipMark) (ranges : List (Nat × Nat)) : Prop where
  chunk : ∀ w i c, s.chunk? w i = some c → (s.win w).body.chunkMet i ranges = true →
    nowUnchecked m.st w i c ∧ (m.st.win w).dipTouched = true
  others : ∀ w i, (s.win w).body.chunkMet i ranges = false → sameChunk s m.st w i
  tell : tells s m.st (allWindows.filter fun w => (s.win w).body.anyChunkMet ranges) [] []
  marked : m.marked = s.chunksToMark ranges
  windows : ∀ w : Fin 32, m.windows.getLsbD w.val = true ↔
    ∃ i, i < (s.win w).body.count ∧ (s.win w).body.chunkMet i ranges = true
  parser : m.st.parser = s.parser.dipTaint ranges

/-- The dip mark, and then the taint of the record being collected. -/
theorem State.dipMark_struck (s : State) (ranges : List (Nat × Nat)) :
    DipStruck s { s.dipMark ranges with st := (s.dipMark ranges).st.modParser (Parser.dipTaint ranges) } ranges := by
  obtain ⟨step, told, _, marked⟩ := dipWindows_step ranges allWindows_nodup { st := s, marked := 0, windows := 0 }
  rw [← State.dipMark] at step told marked
  generalize s.dipMark ranges = m at step told marked ⊢
  have all := step.congr (b := fun w i => (s.win w).body.chunkMet i ranges) fun w i _ _ => by simp
  exact
    { chunk := all.chunk
      others := all.others
      tell := told.of_same rfl rfl rfl
      marked := marked.trans (Nat.zero_add _)
      windows := fun w => by simpa using all.windows w
      parser := congrArg (Parser.dipTaint ranges) all.work.parser }

theorem anyChunkMet_nil (s : State) : (allWindows.filter fun w => (s.win w).body.anyChunkMet []) = [] := by
  simp [WinBody.anyChunkMet, WinBody.chunkMet, rangesMeet]

/-- Nothing is struck by a dip over no bytes. -/
theorem State.unstruck (s : State) : DipStruck s { st := s, marked := 0, windows := 0 } [] := by
  have miss : ∀ w i, (s.win w).body.chunkMet i [] = false := fun _ _ => rfl
  refine ⟨fun w i _ _ met => absurd met nofun, fun _ _ _ => rfl, ?_, ?_, fun w => by simp [miss], ?_⟩
  · rw [anyChunkMet_nil]
    exact ⟨reported_nil s, fun w => by simp⟩
  · simp [State.chunksToMark, miss]
  · unfold Parser.dipTaint
    split
    · next h => simp [rangesMeet, ← h]
    all_goals rfl

theorem State.dipStrike_struck (s : State) : DipStruck s s.dipStrike s.struckRanges := by
  unfold State.dipStrike State.struckRanges
  split
  · exact s.dipMark_struck _
  · exact s.unstruck

/-! ### The entry to DIP and what comes behind it -/

/-- The report of an entry to DIP from NORMAL (R156). -/
def State.dipReport (s : State) : Report :=
  .supply false s.bridge.owner 1 s.scheduler.ms 0 s.dipStrike.marked s.dipStrike.windows

theorem State.dipReport_of_host (s : State) (owner : s.bridge.owner = .host) : s.dipReport =
    .supply false .host 1 s.scheduler.ms 0 (s.chunksToMark s.struckRanges) s.dipStrike.windows := by
  rw [State.dipReport, owner, s.dipStrike_struck.marked]

/-- An event that tells this and then raises one more report. -/
theorem tells.raise {s t : State} {ws : List (Fin 32)} (h : tells s t ws [] []) (r : Report) : tells s (t.raise r) ws [] [r] := by
  obtain ⟨told, flags⟩ := h
  rw [List.append_nil] at told
  exact ⟨told.trans (t.raise_reported r), flags⟩

theorem tells.queue_prefix {s t : State} {ws : List (Fin 32)} {ahead rest : List Report} (h : tells s t ws ahead rest) :
    s.reports.queue <+: t.reports.queue := ⟨_, h.1.1.symm⟩

/-- The state behind a part's entry to DIP, whatever comes behind it, by what the dip struck. -/
structure DipEntered (s t : State) (ranges : List (Nat × Nat)) (rest : List Report) : Prop where
  state : t.supply.state = .dip
  chunk : ∀ w i c, s.chunk? w i = some c → (s.win w).body.chunkMet i ranges = true →
    nowUnchecked t w i c ∧ (t.win w).dipTouched = true
  others : ∀ w i, (s.win w).body.chunkMet i ranges = false → sameChunk s t w i
  tell : tells s t (allWindows.filter fun w => (s.win w).body.anyChunkMet ranges) [] rest
  parser : t.parser = s.parser.dipTaint ranges

theorem DipEntered.behind {s t u : State} {ranges : List (Nat × Nat)} {rest : List Report} (h : DipEntered s t ranges rest)
    (k : Behind t u) : DipEntered s u ranges rest where
  state := (congrArg Supply.state k.supply).trans h.state
  chunk w i c hc met := by
    obtain ⟨marked, touched⟩ := h.chunk w i c hc met
    exact ⟨k.knows marked, (k.dipTouched w).trans touched⟩
  others w i miss := (h.others w i miss).trans (k.known w i)
  tell := k.tells h.tell
  parser := k.parser.trans h.parser

theorem State.enterDip_entered (s : State) (fresh : Bool) :
    DipEntered s (s.enterDip fresh) s.struckRanges (if fresh = true then [s.dipReport] else []) := by
  have struck := s.dipStrike_struck
  unfold State.enterDip State.dipReport
  dsimp only
  generalize s.dipStrike = m at struck ⊢
  have told : tells s (m.st.modSupply (Supply.enterDip fresh s.scheduler.ms)) _ [] [] := struck.tell.of_same rfl rfl rfl
  cases fresh with
  | false => exact ⟨rfl, struck.chunk, struck.others, told, struck.parser⟩
  | true => exact ⟨rfl, struck.chunk, struck.others, told.raise _, struck.parser⟩

/-- The part with the band LOW noted (R147). -/
def State.lowered (s : State) : State := s.modSupply fun p => { p with band := .low }

/-- A change to LOW outside DIP is an entry to DIP, from NORMAL or from SETTLING (R147). -/
theorem State.changeBand_low (s : State) (band : s.supply.band ≠ .low) (away : s.supply.state ≠ .dip) :
    s.changeBand .low =
      (s.lowered.enterDip (decide (s.supply.state = .normal))).refill.settleClaim := by
  rw [State.changeBand, if_neg (Ne.symm band), State.bandEvent, if_neg (Ne.symm band)]
  dsimp only
  cases hs : s.supply.state with
  | normal => rfl
  | dip => exact absurd hs away
  | settling => rfl

theorem State.changeBand_low_entered (s : State) (band : s.supply.band ≠ .low) (away : s.supply.state ≠ .dip) :
    DipEntered s (s.changeBand .low) s.struckRanges
      (if s.supply.state = .normal then [s.lowered.dipReport] else []) := by
  have entered := s.lowered.enterDip_entered (decide (s.supply.state = .normal))
  simp only [decide_eq_true_eq] at entered
  rw [s.changeBand_low band away]
  generalize s.lowered.enterDip (decide (s.supply.state = .normal)) = t at entered ⊢
  have here : DipEntered s t s.struckRanges
      (if s.supply.state = .normal then [s.lowered.dipReport] else []) :=
    ⟨entered.state, entered.chunk, entered.others, entered.tell, entered.parser⟩
  exact here.behind ((State.refill_queueWork _).behind.trans (State.settleClaim_behind _))

/-! ### The taint -/

theorem Parser.dipTaint_of_idle (p : Parser) (ranges : List (Nat × Nat)) (idle : ∀ bytes taint, p.phase ≠ .inRecord bytes taint) :
    p.dipTaint ranges = p := by
  unfold Parser.dipTaint
  split
  · next h => exact absurd h (idle _ _)
  all_goals rfl

theorem Parser.dipTaint_of_inRecord (p : Parser) (ranges : List (Nat × Nat)) {bytes : List Byte} {taint : Bool}
    (h : p.phase = .inRecord bytes taint) :
    p.dipTaint ranges =
      { p with phase := .inRecord bytes (taint || rangesMeet ranges p.cursor (p.cursor + bytes.length)) } := by
  rw [Parser.dipTaint, h]

theorem State.exec_bandChange_low {s : State} (awake : s.part ≠ .held) : exec (.bandChange .low) s = .next (s.changeBand .low) := by
  simp only [exec, execBandChange]
  exact if_neg awake

/-- Settles O25: `DipEntered` for the touched bytes under owner host, and for none otherwise. -/
theorem dipMarksTheChunksUnderTheTouchedList : Obligations.DipMarksTheChunksUnderTheTouchedList := by
  intro s ranges ofHost awake band away hranges host
  obtain ⟨state, chunk, others, tell, parser⟩ := s.changeBand_low_entered band away
  have strikes : ofHost → s.struckRanges = ranges := fun h => by
    rw [State.struckRanges, if_pos (host.1 h), hranges]
  have spares : ¬ofHost → s.struckRanges = [] := fun h => if_neg fun k => h (host.2 k)
  have settling : s.supply.state = .settling → s.supply.state ≠ .normal := fun h => by rw [h]; exact nofun
  refine ⟨s.changeBand .low, State.exec_bandChange_low awake, state, fun w i ch hc => ⟨fun h => ?_, fun h => others w i ?_⟩,
    fun h normal => ?_, fun h settles => ?_, fun h settles => ?_, tell.queue_prefix, fun idle => ?_, fun bytes taint hp =>
    ⟨taint || rangesMeet s.struckRanges s.parser.cursor (s.parser.cursor + bytes.length), ?_, ?_⟩⟩
  · rw [← strikes h]
    exact ⟨chunk w i ch hc, others w i⟩
  · rw [spares h]
    rfl
  · rw [if_pos normal, s.lowered.dipReport_of_host (host.1 h).2] at tell
    have windows := s.lowered.dipStrike_struck.windows
    rw [← strikes h]
    exact ⟨_, tell, windows⟩
  · rw [if_neg (settling settles), strikes h] at tell
    exact tell
  · rw [if_neg (settling settles), spares h] at tell
    rwa [anyChunkMet_nil] at tell
  · rw [parser, Parser.dipTaint_of_idle _ _ idle]
  · rw [parser, Parser.dipTaint_of_inRecord _ _ hp]
  · rw [Bool.or_eq_true, rangesMeet_iff_inRanges]
    refine or_congr_right ⟨fun ⟨p, lo, hi, inside⟩ => ?_, fun ⟨h, p, lo, hi, inside⟩ => ⟨p, lo, hi, by rwa [strikes h]⟩⟩
    by_cases h : ofHost
    · rw [strikes h] at inside
      exact ⟨h, p, lo, hi, inside⟩
    · rw [spares h] at inside
      obtain ⟨r, hr, _⟩ := inside
      cases hr

end Sys2Proof.Machine
end

section
/-! A burst of a read-back: when the arbiter grants it, and what it asks for and spends (R111, R126) (O42). -/

namespace Sys2Proof.Machine

/-! ### Readiness and grant of a burst -/

theorem Engine.burstInFlight_of_readback {e : Engine} {r : ReadbackCtx} (hr : e.readback = some r) :
    e.burstInFlight = r.inFlight.isSome := by
  rw [Engine.burstInFlight, hr]

/-- The next burst is urgent by itself or by an urgent entry in the queue (R126). -/
theorem State.burstUrgent_iff (s : State) (r : ReadbackCtx) :
    s.burstUrgent r = true ↔ r.urgent = true ∨ ∃ e ∈ s.scheduler.queue, e.urgent = true := by
  rw [State.burstUrgent, Bool.or_eq_true, List.any_eq_true]

/-- The burst of a running read-back needs none in flight, a quiet port, and its length of credit if it is not urgent (R15, R126). -/
theorem State.burstReady_iff {s : State} {r : ReadbackCtx} (hr : s.engine.readback = some r) :
    s.burstReady = true ↔
      r.inFlight = none ∧ s.bridge.busy = false ∧ s.bridge.pairing = false ∧ s.part = .running ∧
        (s.burstUrgent r = true ∨ s.burstLen r ≤ s.scheduler.credit) := by
  simp only [State.burstReady, hr, Bool.and_eq_true, Bool.or_eq_true, decide_eq_true_eq, Option.isNone_iff_eq_none,
    State.quietPort_iff]
  constructor
  · rintro ⟨⟨⟨idle, busy, pairing, _⟩, running⟩, paid⟩
    exact ⟨idle, busy, pairing, running, paid⟩
  · rintro ⟨idle, busy, pairing, running, paid⟩
    exact ⟨⟨⟨idle, busy, pairing, by rw [running]; nofun⟩, running⟩, paid⟩

/-- What a burst needs apart from its credit: none in flight, nothing ahead of it in the order of R18, a free and quiet port, a
running part, and a boundary that is the internal operations' (R15, R16). -/
structure BurstDue (s : State) (r : ReadbackCtx) (waiting : Bool) : Prop where
  idle : r.inFlight = none
  mark : s.markReady = false
  report : s.reportReady = false
  startup : s.startupReady = false
  portOp : s.bridge.portOp = none
  collected : s.bridge.collected = none
  busy : s.bridge.busy = false
  pairing : s.bridge.pairing = false
  running : s.part = .running
  turn : waiting = false ∨ s.bridge.claim = 2

/-- The arbiter grants a burst exactly if it is due and urgent or covered by the credit (R16, R18, R126). -/
theorem State.grants_burst_iff {s : State} {r : ReadbackCtx} (hr : s.engine.readback = some r) (waiting : Bool) :
    s.grants .burst waiting = true ↔
      BurstDue s r waiting ∧ (s.burstUrgent r = true ∨ s.burstLen r ≤ s.scheduler.credit) := by
  rw [State.grants_iff, State.portFree_iff, State.firstReady_burst_iff, State.burstReady_iff hr,
    Engine.burstInFlight_of_readback hr, State.turnIsInternal]
  constructor
  · rintro ⟨⟨portOp, _, collected⟩, ⟨mark, report, startup, idle, busy, pairing, running, paid⟩, turn⟩
    have turn := turn.resolve_left (by rw [running]; nofun)
    exact ⟨⟨idle, mark, report, startup, portOp, collected, busy, pairing, running, turn⟩, paid⟩
  · rintro ⟨due, paid⟩
    exact ⟨⟨due.portOp, by rw [due.idle]; rfl, due.collected⟩,
      ⟨due.mark, due.report, due.startup, due.idle, due.busy, due.pairing, due.running, paid⟩, .inr due.turn⟩

/-! ### The burst -/

theorem State.exec_readbackBurst {s : State} {r : ReadbackCtx} {waiting : Bool} (hr : s.engine.readback = some r)
    (due : BurstDue s r waiting) (paid : s.burstUrgent r = true ∨ s.burstLen r ≤ s.scheduler.credit) :
    exec (.readbackBurst waiting) s = .next (s.issueBurst r) := by
  simp only [exec, execReadbackBurst, hr]
  exact if_pos ((State.grants_burst_iff hr waiting).2 ⟨due, paid⟩)

theorem State.exec_readbackBurst_none {s : State} {waiting : Bool}
    (h : ∀ r, s.engine.readback = some r → BurstDue s r waiting →
      ¬(s.burstUrgent r = true ∨ s.burstLen r ≤ s.scheduler.credit)) : exec (.readbackBurst waiting) s = .next s := by
  simp only [exec, execReadbackBurst]
  split
  · next r hr =>
    refine if_neg fun granted => ?_
    obtain ⟨due, paid⟩ := (State.grants_burst_iff hr waiting).1 granted
    exact h r hr due paid
  · rfl

/-- Settles O42: a due burst goes on its urgency or its credit, and one that is not due does not take place. -/
theorem burstReadsTheChunkAndSpendsItsCredit : Obligations.BurstReadsTheChunkAndSpendsItsCredit := by
  refine ⟨fun s waiting r b urgent _ hr idle hb hu mark report startup portOp collected busy pairing running turn => ?_,
    fun s waiting notDue => State.exec_readbackBurst_none fun r hr due _ => ?_⟩
  · have len : s.burstLen r = b := hb.symm
    have urgency : s.burstUrgent r = true ↔ urgent := (s.burstUrgent_iff r).trans hu.symm
    refine ⟨fun paid => ?_, fun normal short => State.exec_readbackBurst_none fun r' hr' _ => ?_⟩
    · have due : BurstDue s r waiting := ⟨idle, mark, report, startup, portOp, collected, busy, pairing, running, turn⟩
      have spent : creditAfter (s.burstUrgent r) s.scheduler.credit b =
          if urgent then s.scheduler.credit - min s.scheduler.credit b else s.scheduler.credit - b := by
        simp only [creditAfter, urgency]
      rw [State.exec_readbackBurst hr due (by rwa [urgency, len]), ← spent, ← len]
      rfl
    · obtain rfl : r = r' := Option.some.inj (hr.symm.trans hr')
      rw [urgency, len]
      exact not_or.2 ⟨normal, Nat.not_le.2 short⟩
  · obtain ⟨idle, mark, report, startup, portOp, collected, busy, pairing, running, turn⟩ := due
    rcases turn with turn | turn <;>
      simp [hr, idle, mark, report, startup, portOp, collected, busy, pairing, running, turn] at notDue

end Sys2Proof.Machine
end

section
/-! The law of the check queue (R116) at the operations that add nothing to it: entries may leave the queue, and those that stay still
name UNCHECKED, queued chunks of LOADED windows. -/

namespace Sys2Proof.Machine

/-! ### Entries that stay -/

/-- The record of a chunk that an entry of the check queue may name (R116). -/
def Chunk.waits (c : Chunk) : Prop := c.state = .unchecked ∧ c.queued = true

/-- Entries leave the check queue or keep their order in it, and what an entry that stays says still stands. -/
structure Thins (s t : State) : Prop where
  queue : t.scheduler.queue.Sublist s.scheduler.queue
  stands : ∀ e ∈ t.scheduler.queue, s.entryStands e → t.entryStands e

theorem Thins.refl (s : State) : Thins s s := ⟨.refl _, fun _ _ h => h⟩

theorem Thins.trans {s t u : State} (h : Thins s t) (k : Thins t u) : Thins s u :=
  ⟨k.queue.trans h.queue, fun e he stands => k.stands e he (h.stands e (k.queue.mem he) stands)⟩

theorem Thins.foldl {α : Type} (f : State → α → State) (hf : ∀ s a, Thins s (f s a)) (l : List α) (s : State) :
    Thins s (l.foldl f s) := by
  induction l generalizing s with
  | nil => exact .refl s
  | cons a l ih => exact (hf s a).trans (ih _)

/-- A queue whose entries only leave keeps its law (R116). -/
theorem Thins.queueLaw {s t : State} (h : Thins s t) (law : QueueLaw s) : QueueLaw t := by
  obtain ⟨room, once, stands, order⟩ := law
  exact ⟨h.queue.length_le.trans room, (h.queue.map _).nodup once,
    fun e he => h.stands e he (stands e (h.queue.mem he)), order.sublist h.queue⟩

theorem Thins.of_blocks {s t : State} (windows : t.windows = s.windows) (queue : t.scheduler.queue = s.scheduler.queue) :
    Thins s t := by
  refine ⟨by rw [queue], fun e _ stands => ?_⟩
  simpa only [State.entryStands, State.chunk?, State.win, windows] using stands

/-- One window is written, and no entry that stays names a chunk of it. -/
theorem Thins.of_others {s t : State} {w : Fin 32} (others : ∀ u, u ≠ w → t.win u = s.win u)
    (queue : t.scheduler.queue.Sublist s.scheduler.queue)
    (absent : ∀ e ∈ t.scheduler.queue, s.entryStands e → e.window ≠ w) : Thins s t := by
  refine ⟨queue, fun e he stands => ?_⟩
  have same := others e.window (absent e he stands)
  simpa only [State.entryStands, State.chunk?, same] using stands

/-- A write of a window that keeps its body. -/
theorem State.modWin_thins (s : State) (w : Fin 32) (f : Window → Window) (hb : (f (s.win w)).body = (s.win w).body) :
    Thins s (s.modWin w f) := by
  have body : ∀ u, ((s.modWin w f).win u).body = (s.win u).body := fun u => by
    rw [State.win_modWin]
    split
    · next h => rw [← h, hb]
    · rfl
  refine ⟨.refl _, fun e _ stands => ?_⟩
  simpa only [State.entryStands, State.chunk?, body] using stands

/-- Chunk work that adds no entry, and behind which the chunks of the entries that stay wait for their check as before. -/
theorem Sheds.thins {s t : State} (h : Sheds s t)
    (kept : ∀ e ∈ t.scheduler.queue, ∀ c, s.chunk? e.window e.chunk = some c → c.waits →
      ∃ d, t.chunk? e.window e.chunk = some d ∧ d.waits) : Thins s t := by
  refine ⟨h.queue, fun e he ⟨loaded, c, hc, waits⟩ => ⟨?_, kept e he c hc waits⟩⟩
  rw [h.work.isLoaded, loaded]

/-- A write of a chunk record that keeps its state and its queued field. -/
theorem State.modChunk_thins (s : State) (w : Fin 32) (i : Nat) (f : Chunk → Chunk)
    (hf : ∀ c, (f c).state = c.state ∧ (f c).queued = c.queued) : Thins s (s.modChunk w i f) := by
  refine ((s.modChunk_work w i f).sheds rfl).thins fun e _ c hc waits => ?_
  rw [State.chunk?_modChunk, hc]
  split
  · exact ⟨f c, rfl, (hf c).1.trans waits.1, (hf c).2.trans waits.2⟩
  · exact ⟨c, rfl, waits⟩

theorem State.moveStreamToFront_thins (s : State) (k : Fin 3) (x : StreamCtx) : Thins s (s.moveStreamToFront k x) :=
  .of_blocks rfl rfl

theorem State.modBridge_thins (s : State) (f : Bridge → Bridge) : Thins s (s.modBridge f) := .of_blocks rfl rfl

theorem State.modParser_thins (s : State) (f : Parser → Parser) : Thins s (s.modParser f) := .of_blocks rfl rfl

theorem State.modSupply_thins (s : State) (f : Supply → Supply) : Thins s (s.modSupply f) := .of_blocks rfl rfl

theorem State.raise_thins (s : State) (r : Report) : Thins s (s.raise r) := .of_blocks rfl rfl

theorem State.drive_thins (s : State) (a : List Byte) (b : List FlashTxn) : Thins s (s.drive a b) := .of_blocks rfl rfl

theorem State.issue_thins (s : State) (l : List FlashTxn) : Thins s (s.issue l) := .of_blocks rfl rfl

theorem State.setReadback_thins (s : State) (x : Option ReadbackCtx) : Thins s (s.setReadback x) := .of_blocks rfl rfl

theorem State.unlink_thins (s : State) (w : Fin 32) (i : Nat) : Thins s (s.unlink w i) :=
  s.modChunk_thins w i _ fun _ => ⟨rfl, rfl⟩

/-! ### The operations of the Chunk Tracker -/

theorem State.endDigesting_thins (s : State) (w : Fin 32) (i : Nat) : Thins s (s.endDigesting w i) := by
  unfold State.endDigesting
  split
  · exact .trans (.of_blocks (t := s.freeStream _) rfl rfl) (State.unlink_thins _ _ _)
  · exact .trans (.of_blocks (t := (s.setReadback none).countAbort) rfl rfl) (State.unlink_thins _ _ _)
  · exact .refl s

/-- A chunk that leaves UNCHECKED has no entry any more (R71). -/
theorem State.moveChunk_absent {s : State} {w : Fin 32} {i : Nat} {st : ChunkState} {d : Option Digest} {c : Chunk}
    (hc : s.chunk? w i = some c) (before : c.state = .unchecked) (behind : st ≠ .unchecked) {e : Entry}
    (he : e ∈ (s.moveChunk w i st d).scheduler.queue) : (e.window, e.chunk) ≠ (w, i) := by
  simp only [State.moveChunk, hc] at he
  rw [if_pos ⟨before, behind⟩] at he
  obtain ⟨_, other⟩ := List.mem_filter.1 he
  rintro ⟨⟩
  simp at other

theorem State.moveChunk_thins (s : State) (w : Fin 32) (i : Nat) (st : ChunkState) (d : Option Digest) :
    Thins s (s.moveChunk w i st d) := by
  cases hm : s.chunk? w i with
  | none =>
    rw [s.moveChunk_none w i st d hm]
    exact .refl s
  | some m =>
    obtain ⟨moved, others, _⟩ := s.moveChunk_spec w i st d m hm
    refine (s.moveChunk_sheds w i st d).thins fun e he c hc waits => ?_
    by_cases here : (e.window, e.chunk) = (w, i)
    · obtain ⟨hw, hi⟩ := Prod.mk.inj here
      rw [hw, hi] at hc ⊢
      obtain rfl : m = c := Option.some.inj (hm.symm.trans hc)
      have stays : st = .unchecked := by
        by_contra leaves
        exact State.moveChunk_absent hm waits.1 leaves he here
      exact ⟨_, moved, stays, by simp [waits.2, stays]⟩
    · exact ⟨c, (others _ _ here).trans hc, waits⟩

theorem State.disturb_thins (s : State) (w : Fin 32) (i : Nat) : Thins s (s.disturb w i) :=
  (s.endDigesting_thins w i).trans (State.moveChunk_thins _ _ _ _ _)

theorem State.eraseFully_thins (s : State) (w : Fin 32) (i : Nat) : Thins s (s.eraseFully w i) := by
  have moved : ∀ st d, Thins s ((s.endDigesting w i).moveChunk w i st d) := fun st d =>
    (s.endDigesting_thins w i).trans (State.moveChunk_thins _ _ _ _ _)
  unfold State.eraseFully
  split
  · split
    · exact moved _ _
    · exact moved _ _
  all_goals exact moved _ _

theorem State.verdict_thins (s : State) (w : Fin 32) (i : Nat) (d : Digest) (source : Source) :
    Thins s (s.verdict w i d source) := by
  unfold State.verdict
  split
  · split
    · exact (s.moveChunk_thins _ _ _ _).trans (.of_blocks rfl rfl)
    · exact (s.moveChunk_thins _ _ _ _).trans (.of_blocks rfl rfl)
  · exact s.moveChunk_thins _ _ _ _

theorem State.freeUnlink_thins (s : State) (k : Fin 3) (w : Fin 32) (i : Nat) : Thins s ((s.freeStream k).unlink w i) :=
  .trans (.of_blocks (t := s.freeStream k) rfl rfl) (State.unlink_thins _ _ _)

theorem State.evict_thins (s : State) : Thins s s.evict := by
  have freed : ∀ k (x : StreamCtx), Thins s (((s.freeStream k).countEviction).unlink x.window x.chunk) := fun k x =>
    .trans (.of_blocks (t := (s.freeStream k).countEviction) rfl rfl) (State.unlink_thins _ _ _)
  unfold State.evict
  split
  · exact .refl s
  · split
    · exact .refl s
    · dsimp only
      split
      · exact freed _ _
      · exact (freed _ _).trans (State.moveChunk_thins _ _ _ _ _)

theorem State.advanceStream_thins (s : State) (k : Fin 3) (x : StreamCtx) (source : Source) :
    Thins s (s.advanceStream k x source) := by
  unfold State.advanceStream
  split
  · exact (s.freeUnlink_thins k _ _).trans (State.verdict_thins _ _ _ _ _)
  · exact s.moveStreamToFront_thins k x

/-- A chunk that does not wait for a check may get any record: no entry that stands names it. -/
theorem Thins.modChunk {s t : State} (h : Thins s t) {w : Fin 32} {i : Nat} {c : Chunk} (hc : s.chunk? w i = some c)
    (idle : c.state ≠ .unchecked) (f : Chunk → Chunk) : Thins s (t.modChunk w i f) := by
  refine ⟨h.queue, fun e he stands => ?_⟩
  obtain ⟨loaded, d, hd, waits⟩ := h.stands e he stands
  obtain ⟨_, x, hx, un, _⟩ := stands
  refine ⟨((t.modChunk_work w i f).isLoaded _).trans loaded, d, ?_, waits⟩
  rw [State.chunk?_modChunk, if_neg, hd]
  rintro ⟨hw, hi⟩
  rw [hw, hi] at hc
  cases hc.symm.trans hx
  exact idle un

theorem State.startProgramStream_thins {s : State} {w : Fin 32} {i : Nat} {c : Chunk} (hc : s.chunk? w i = some c)
    (idle : c.state ≠ .unchecked) (bytes : List Byte) : Thins s (s.startProgramStream w i bytes) := by
  obtain ⟨roomy, hr⟩ : ∃ roomy, roomy = if s.freeContext.isSome then s else s.evict := ⟨_, rfl⟩
  have room : Thins s roomy := by
    rw [hr]
    split
    · exact .refl s
    · exact s.evict_thins
  cases hk : roomy.freeContext with
  | none =>
    have same : s.startProgramStream w i bytes = roomy := by simp only [State.startProgramStream, ← hr, hk]
    rw [same]
    exact room
  | some k =>
    rw [State.startProgramStream_of_roomy w i bytes hr hk]
    exact ((room.modChunk hc idle _).trans (State.moveStreamToFront_thins _ _ _)).trans (State.advanceStream_thins _ _ _ _)

theorem State.programChunk_thins (s : State) (w : Fin 32) (l : Landing) (data : List Byte) :
    Thins s (s.programChunk w l data) := by
  unfold State.programChunk
  split
  · exact .refl s
  · next c hc =>
    split
    · next erased =>
      split
      · exact State.startProgramStream_thins hc (by rw [erased]; nofun) _
      · exact s.disturb_thins _ _
    · split
      · split
        · exact s.advanceStream_thins _ _ _
        · exact s.disturb_thins _ _
      · exact s.disturb_thins _ _
    all_goals exact s.disturb_thins _ _

theorem State.harvestIdle_thins (s : State) (o : Offer) : Thins s (s.harvestIdle o) := by
  unfold State.harvestIdle
  split
  · split
    · exact s.advanceStream_thins _ _ _
    · exact s.endDigesting_thins _ _
  · split
    · cases hk : s.freeContext with
      | none =>
        rw [s.startReadStream_full o hk]
        exact .refl s
      | some k =>
        rw [s.startReadStream_free o k hk]
        exact ((s.modChunk_thins _ _ (Chunk.linkedTo k) fun _ => ⟨rfl, rfl⟩).trans (State.moveStreamToFront_thins _ _ _)).trans
          (State.advanceStream_thins _ _ _ _)
    · exact .refl s

theorem State.beginReadback_thins (s : State) (e : Entry) : Thins s (s.beginReadback e) := by
  have dequeued : Thins s (s.setQueue (s.scheduler.queue.drop 1)) := ⟨List.drop_sublist _ _, fun _ _ h => h⟩
  have checking := (dequeued.trans (State.endDigesting_thins _ e.window e.chunk)).trans
    (State.moveChunk_thins _ e.window e.chunk .checking none)
  exact (checking.trans (State.modChunk_thins _ e.window e.chunk (fun c => { c with link := some .readback })
    fun _ => ⟨rfl, rfl⟩)).trans (State.setReadback_thins _ _)

theorem State.judgeReadback_thins (s : State) (r : ReadbackCtx) (digest : Digest) : Thins s (s.judgeReadback r digest) :=
  ((s.setReadback_thins none).trans (State.unlink_thins _ _ _)).trans (State.verdict_thins _ _ _ _ _)

theorem State.closeEvent_thins (s : State) (w : Fin 32) (n : Nat) : Thins s (s.closeEvent w n) := by
  obtain ⟨records, _, _, scheduler, _⟩ := s.closeEvent_spec w n
  exact ((s.closeEvent_work w n).sheds (by rw [scheduler])).thins fun e _ c hc waits => ⟨c, (records _ _).trans hc, waits⟩

theorem State.setDipTouched_thins (s : State) (w : Fin 32) : Thins s (s.setDipTouched w) := s.modWin_thins w _ rfl

/-! ### Catalogues and resets -/

/-- A window that is not LOADED may get any body. -/
theorem State.modBody_thins (s : State) {w : Fin 32} (f : Window → Window) (unloaded : (s.win w).body.isLoaded = false) :
    Thins s (s.modWin w f) := by
  refine .of_others (w := w) (fun u h => by rw [State.win_modWin, if_neg (Ne.symm h)]) (.refl _) fun e _ stands here => ?_
  rw [State.entryStands, here, unloaded] at stands
  exact absurd stands.1 nofun

/-- A torn window's entries leave the queue with its chunks (R50). -/
theorem State.teardown_thins (s : State) (w : Fin 32) (next : WinBody) : Thins s (s.teardown w next) := by
  obtain ⟨_, scheduler, _⟩ := s.teardown_leaves w next
  have queue : (s.teardown w next).scheduler.queue = s.scheduler.queue.filter fun e => decide (e.window ≠ w) := by rw [scheduler]
  refine .of_others (w := w) (fun u h => ?_) (by rw [queue]; exact List.filter_sublist) fun e he _ => ?_
  · rw [State.win, s.teardown_windows w next]
    exact (s.win_modWin w u _).trans (if_neg (Ne.symm h))
  · rw [queue] at he
    simpa using (List.mem_filter.1 he).2

theorem State.openCatalogue_thins (s : State) (w : Fin 32) (g : Geometry) (c : Catalogue) :
    Thins s (s.openCatalogue w g c) := by
  unfold State.openCatalogue
  split
  · exact s.teardown_thins _ _
  · next bare => exact s.modBody_thins _ (WinBody.isLoaded_of_bare (by simpa using bare))

/-- The window that enters LOADED has no entry in the queue (R60). -/
theorem State.enterLoaded_thins {s : State} {w : Fin 32} (unloaded : (s.win w).body.isLoaded = false) (g : Geometry)
    (c : Catalogue) : Thins s (s.enterLoaded w g c) := by
  refine .of_others (s.enterLoaded_enters w g c).others (s.enterLoaded_queue w g c) fun e _ stands here => ?_
  rw [State.entryStands, here, unloaded] at stands
  exact absurd stands.1 nofun

theorem State.offerOpen_thins {s : State} {w : Fin 32} {g : Geometry} {c : Catalogue} (hb : (s.win w).body = .opened g c)
    (i : Nat) (ds : List Digest) : Thins s (s.offerOpen w g c i ds) := by
  have stored : Thins s (s.store w g (c.offered i ds)) := s.modBody_thins _ (by rw [hb]; rfl)
  have opened : ((s.store w g (c.offered i ds)).win w).body.isLoaded = false := by
    rw [State.store_win, if_pos rfl]
    rfl
  have rejected : ∀ (t : State) d r, Thins t (t.reject w g d r) := fun t d r =>
    (t.teardown_thins w (.rejected g)).trans (State.raise_thins _ _)
  rw [State.offerOpen_eq_store]
  split
  · exact rejected _ _ _
  · split
    · split
      · exact stored.trans (State.enterLoaded_thins opened _ _)
      · exact stored.trans (rejected _ _ _)
    · exact stored

theorem Blank.thins {t : State} (h : Blank t) (s : State) : Thins s t := by
  refine ⟨by rw [h.checks]; exact List.nil_sublist _, fun e he => ?_⟩
  rw [h.checks] at he
  cases he

end Sys2Proof.Machine
end

section
/-! The law of the check queue (R116) at the adds: of a refill (R117, R121), and of a CHECK record (R117, R118, R122). -/

namespace Sys2Proof.Machine

/-! ### A chunk that may be added -/

theorem State.addable_iff (s : State) (w : Fin 32) (i : Nat) :
    s.addable w i = true ↔ ∃ c, s.chunk? w i = some c ∧ c.state = .unchecked ∧ c.queued = false := by
  unfold State.addable
  cases s.chunk? w i <;> simp

theorem State.chunk?_setQueued (s : State) (w u : Fin 32) (i j : Nat) (q : Bool) :
    (s.setQueued w i q).chunk? u j =
      if w = u ∧ i = j then (s.chunk? u j).map fun c => { c with queued := q } else s.chunk? u j :=
  s.chunk?_modChunk w u i j _

/-- No entry that stands names a chunk that may be added: its queued field would be yes (R116). -/
theorem State.entryStands.ne_of_addable {s : State} {w : Fin 32} {i : Nat} {e : Entry} (stands : s.entryStands e)
    (adds : s.addable w i = true) : (e.window, e.chunk) ≠ (w, i) := by
  obtain ⟨_, c, hc, _, queued⟩ := stands
  obtain ⟨d, hd, _, free⟩ := (s.addable_iff w i).1 adds
  rintro ⟨⟩
  cases hc.symm.trans hd
  rw [queued] at free
  cases free

/-- A chunk that may be added gets an entry between `front` and `back`, behind which its class keeps the order (R116). -/
theorem QueueLaw.add {s : State} (law : QueueLaw s) {front back : List Entry} {e : Entry} (room : s.scheduler.queue.length < 64)
    (loaded : (s.win e.window).body.isLoaded = true) (adds : s.addable e.window e.chunk = true)
    (split : s.scheduler.queue = front ++ back) (ahead : e.urgent = true → ∀ x ∈ front, x.urgent = true)
    (behind : ∀ x ∈ back, x.urgent = true → e.urgent = true) :
    QueueLaw ((s.setQueue (front ++ e :: back)).setQueued e.window e.chunk true) := by
  obtain ⟨_, once, stands, order⟩ := law
  have others : ∀ x ∈ s.scheduler.queue, (x.window, x.chunk) ≠ (e.window, e.chunk) := fun x hx =>
    (stands x hx).ne_of_addable adds
  have queue : ((s.setQueue (front ++ e :: back)).setQueued e.window e.chunk true).scheduler.queue = front ++ e :: back := rfl
  have loads : ∀ u, (((s.setQueue (front ++ e :: back)).setQueued e.window e.chunk true).win u).body.isLoaded =
      (s.win u).body.isLoaded := (State.setQueued_queueWork _ _ _ _).chunks.isLoaded
  have perm : (front ++ e :: back).Perm (e :: s.scheduler.queue) := split ▸ List.perm_middle
  rw [QueueLaw, queue]
  refine ⟨?_, ?_, fun x hx => ⟨?_, ?_⟩, ?_⟩
  · rw [perm.length_eq]
    exact room
  · rw [(perm.map _).nodup_iff, List.map_cons, List.nodup_cons]
    refine ⟨fun h => ?_, once⟩
    obtain ⟨x, hx, same⟩ := List.mem_map.1 h
    exact others x hx same
  · rw [loads]
    rcases List.mem_cons.1 (perm.mem_iff.1 hx) with rfl | hx
    · exact loaded
    · exact (stands x hx).1
  · rw [State.chunk?_setQueued]
    rcases List.mem_cons.1 (perm.mem_iff.1 hx) with rfl | hx
    · obtain ⟨c, hc, un, _⟩ := (s.addable_iff _ _).1 adds
      exact ⟨{ c with queued := true }, by rw [if_pos ⟨rfl, rfl⟩]; exact congrArg _ hc, un, rfl⟩
    · rw [if_neg fun h => others x hx (by rw [h.1, h.2])]
      exact (stands x hx).2
  · rw [split, List.pairwise_append] at order
    obtain ⟨fronts, backs, across⟩ := order
    rw [List.pairwise_append, List.pairwise_cons]
    refine ⟨fronts, ⟨behind, backs⟩, fun a ha b hb urgent => ?_⟩
    rcases List.mem_cons.1 hb with rfl | hb
    · exact ahead urgent a ha
    · exact across a ha b hb urgent

theorem QueueLaw.addNormal {s : State} (law : QueueLaw s) {w : Fin 32} {i : Nat} (room : s.scheduler.queue.length < 64)
    (loaded : (s.win w).body.isLoaded = true) (adds : s.addable w i = true) : QueueLaw (s.addNormal w i) :=
  law.add (e := { window := w, chunk := i, urgent := false }) (back := []) room loaded adds (List.append_nil _).symm nofun nofun

/-- In a queue in order the urgent entries are a first part of it, and the normal ones the rest (R116). -/
theorem urgent_first {q : List Entry} (order : q.Pairwise fun a b => b.urgent = true → a.urgent = true) :
    q.takeWhile (fun x => x.urgent) = q.filter (fun x => x.urgent) ∧
      q.dropWhile (fun x => x.urgent) = q.filter (fun x => !x.urgent) := by
  induction q with
  | nil => exact ⟨rfl, rfl⟩
  | cons a q ih =>
    obtain ⟨ahead, order⟩ := List.pairwise_cons.1 order
    cases ha : a.urgent with
    | true => simp [ha, ih order]
    | false =>
      have normal : ∀ x ∈ q, x.urgent = false := fun x hx => by
        by_contra hu
        have := ahead x hx (by simpa using hu)
        rw [ha] at this
        cases this
      have none : q.filter (fun x => x.urgent) = [] := List.filter_eq_nil_iff.2 fun x hx => by simp [normal x hx]
      have all : q.filter (fun x => !x.urgent) = q := List.filter_eq_self.2 fun x hx => by simp [normal x hx]
      simp [ha, none, all]

/-- An urgent entry goes directly behind the last urgent one (R118). -/
theorem placeUrgent_eq {q : List Entry} (order : q.Pairwise fun a b => b.urgent = true → a.urgent = true) (e : Entry) :
    placeUrgent e q = q.filter (fun x => x.urgent) ++ e :: q.filter (fun x => !x.urgent) := by
  obtain ⟨first, rest⟩ := urgent_first order
  rw [placeUrgent, first, rest]

theorem QueueLaw.addUrgent {s : State} (law : QueueLaw s) {w : Fin 32} {i : Nat} (room : s.scheduler.queue.length < 64)
    (loaded : (s.win w).body.isLoaded = true) (adds : s.addable w i = true) : QueueLaw (s.addUrgent w i) :=
  law.add (e := { window := w, chunk := i, urgent := true }) room loaded adds List.takeWhile_append_dropWhile.symm
    (fun _ _ hx => List.mem_takeWhile_imp hx) fun _ _ _ => rfl

/-! ### The adds of CHECK (R118, R122) -/

theorem State.setCheckWanted_thins (s : State) (w : Fin 32) : Thins s (s.setCheckWanted w) := s.modWin_thins w _ rfl

/-- The youngest entry leaves a queue that has one, and no other entry is of its chunk (R116, R118). -/
theorem State.displace_thins {s : State} (law : QueueLaw s) {front : List Entry} {youngest : Entry}
    (queue : s.scheduler.queue = front ++ [youngest]) : Thins s (s.displace youngest) := by
  obtain ⟨_, once, _⟩ := law
  have left : (s.displace youngest).scheduler.queue = front := by
    show s.scheduler.queue.dropLast = front
    rw [queue, List.dropLast_concat]
  refine Thins.trans (t := (s.setQueue s.scheduler.queue.dropLast).setQueued youngest.window youngest.chunk false) ?_
    (State.setCheckWanted_thins _ _)
  have sheds : Sheds s ((s.setQueue s.scheduler.queue.dropLast).setQueued youngest.window youngest.chunk false) :=
    ⟨(s.setQueue_work _).trans (State.modChunk_work _ _ _ _), List.dropLast_sublist _⟩
  refine sheds.thins fun e he c hc waits => ⟨c, ?_, waits⟩
  rw [State.chunk?_setQueued, if_neg]
  · exact hc
  · rintro ⟨hw, hi⟩
    rw [queue, List.map_append, List.nodup_append] at once
    obtain ⟨_, _, apart⟩ := once
    have mem : e ∈ front := left ▸ he
    exact apart _ (List.mem_map_of_mem mem) _ (List.mem_singleton_self _) (congrArg₂ Prod.mk hw hi).symm

/-- A chunk that may be added still may once another's entry is displaced (R118). -/
theorem State.addable_displace {s : State} {w : Fin 32} {i : Nat} (adds : s.addable w i = true) (e : Entry) :
    (s.displace e).addable w i = true := by
  obtain ⟨c, hc, un, free⟩ := (s.addable_iff w i).1 adds
  refine (State.addable_iff _ w i).2 ?_
  have flags : (s.displace e).chunk? w i =
      ((s.setQueue s.scheduler.queue.dropLast).setQueued e.window e.chunk false).chunk? w i :=
    State.chunk?_modWin_body _ _ _ rfl _ _
  have same : (s.setQueue s.scheduler.queue.dropLast).chunk? w i = some c := hc
  rw [flags, State.chunk?_setQueued, same]
  split
  · exact ⟨_, rfl, un, rfl⟩
  · exact ⟨c, rfl, un, free⟩

theorem State.queueFull_iff (s : State) : s.queueFull = true ↔ 64 ≤ s.scheduler.queue.length := decide_eq_true_iff

/-- A full queue has a youngest entry (R118). -/
theorem State.youngest_of_full {s : State} (full : s.queueFull = true) :
    ∃ front youngest, s.scheduler.queue = front ++ [youngest] := by
  have long := s.queueFull_iff.1 full
  have some : s.scheduler.queue ≠ [] := fun h => by
    rw [h] at long
    exact absurd long (by decide)
  exact ⟨_, _, (List.dropLast_append_getLast some).symm⟩

/-- What CHECK's add of a chunk that may be added is, by its class and the room in the queue (R117, R118, R122). -/
theorem State.checkChunk_of_addable {s : State} {w : Fin 32} {i : Nat} (adds : s.addable w i = true) :
    (s.queueFull = false → s.checkChunk w false i = s.addNormal w i ∧ s.checkChunk w true i = s.addUrgent w i) ∧
      (s.queueFull = true → s.checkChunk w false i = s.setCheckWanted w ∧
        ∀ front youngest, s.scheduler.queue = front ++ [youngest] →
          s.checkChunk w true i = if youngest.urgent then s.setCheckWanted w else (s.displace youngest).addUrgent w i) := by
  refine ⟨fun room => ?_, fun full => ⟨?_, fun front youngest queue => ?_⟩⟩
  · simp [State.checkChunk, adds, room]
  · simp [State.checkChunk, adds, full]
  · simp [State.checkChunk, adds, full, queue]

theorem State.checkChunk_of_not_addable {s : State} {w : Fin 32} {i : Nat} (no : s.addable w i = false) (urgent : Bool) :
    s.checkChunk w urgent i = s := by simp [State.checkChunk, no]

/-- An add of CHECK on a LOADED window keeps the law of the check queue (R116 to R118, R122). -/
theorem QueueLaw.checkChunk {s : State} (law : QueueLaw s) {w : Fin 32} (loaded : (s.win w).body.isLoaded = true)
    (urgent : Bool) (i : Nat) : QueueLaw (s.checkChunk w urgent i) := by
  cases adds : s.addable w i with
  | false =>
    rw [State.checkChunk_of_not_addable adds]
    exact law
  | true =>
    obtain ⟨roomy, crowded⟩ := State.checkChunk_of_addable adds
    cases full : s.queueFull with
    | false =>
      have room : s.scheduler.queue.length < 64 := by
        rw [← Nat.not_le, ← s.queueFull_iff, full]
        nofun
      obtain ⟨normal, high⟩ := roomy full
      cases urgent with
      | false => rw [normal]; exact law.addNormal room loaded adds
      | true => rw [high]; exact law.addUrgent room loaded adds
    | true =>
      obtain ⟨normal, high⟩ := crowded full
      cases urgent with
      | false => rw [normal]; exact (s.setCheckWanted_thins w).queueLaw law
      | true =>
        obtain ⟨front, youngest, queue⟩ := State.youngest_of_full full
        rw [high front youngest queue]
        split
        · exact (s.setCheckWanted_thins w).queueLaw law
        · have displaced := s.displace_queueWork youngest
          refine ((State.displace_thins law queue).queueLaw law).addUrgent ?_ ((displaced.chunks.isLoaded w).trans loaded)
            (State.addable_displace adds _)
          have room : s.scheduler.queue.length ≤ 64 := law.1
          show s.scheduler.queue.dropLast.length < 64
          rw [queue] at room ⊢
          rw [List.dropLast_concat]
          simp only [List.length_append, List.length_singleton] at room
          omega

/-! ### A refill (R121) -/

/-- What every turn of a refill keeps, the refill keeps. -/
theorem State.refill_keeps {P : State → Prop} (turn : ∀ t w, P t → P (State.refillWindow t w)) {s : State} (h : P s) :
    P s.refill := by
  have sweep : ∀ (l : List (Fin 32)) (t : State), P t → P (l.foldl State.refillWindow t) := by
    intro l
    induction l with
    | nil => exact fun _ h => h
    | cons w l ih => exact fun t h => ih _ (turn t w h)
  rw [State.refill_eq]
  exact sweep allWindows _ (sweep allWindows s h)

/-- The chunk index a pass examines behind the cursor's: the next one, or 0 behind the last (R121). -/
def State.nextCursor (s : State) (w : Fin 32) : Nat :=
  if (s.win w).cursor + 1 < (s.win w).body.count then (s.win w).cursor + 1 else 0

def State.setCursor (w : Fin 32) (n : Nat) (s : State) : State := s.modWin w fun v => { v with cursor := n }

/-- A pass with an index left to examine ends at a full queue, or examines the chunk at the cursor and goes on (R121). -/
theorem State.passWindow_succ (w : Fin 32) (fuel : Nat) (added : Bool) (s : State) :
    s.passWindow w (fuel + 1) added =
      if s.queueFull then s
      else if s.addable w (s.win w).cursor then
        ((s.addNormal w (s.win w).cursor).setCursor w (s.nextCursor w)).passWindow w fuel true
      else (s.setCursor w (s.nextCursor w)).passWindow w fuel added := rfl

theorem State.setCursor_thins (s : State) (w : Fin 32) (n : Nat) : Thins s (s.setCursor w n) := s.modWin_thins w _ rfl

theorem State.setCursor_queueWork (s : State) (w : Fin 32) (n : Nat) : QueueWork s (s.setCursor w n) :=
  s.modWanted_queueWork w _ fun _ => rfl

theorem QueueLaw.passWindow {s : State} (law : QueueLaw s) {w : Fin 32} (loaded : (s.win w).body.isLoaded = true)
    (fuel : Nat) (added : Bool) : QueueLaw (s.passWindow w fuel added) := by
  induction fuel generalizing added s with
  | zero =>
    unfold State.passWindow
    split
    · exact law
    · exact (s.modWin_thins w _ rfl).queueLaw law
  | succ fuel ih =>
    rw [State.passWindow_succ]
    split
    · exact law
    · next free =>
      have room : s.scheduler.queue.length < 64 := by rwa [← Nat.not_le, ← s.queueFull_iff]
      split
      · next adds =>
        have work := (s.addNormal_queueWork w (s.win w).cursor).trans (State.setCursor_queueWork _ w (s.nextCursor w))
        exact ih ((State.setCursor_thins _ _ _).queueLaw (law.addNormal room loaded adds))
          ((work.chunks.isLoaded w).trans loaded) _
      · have work := s.setCursor_queueWork w (s.nextCursor w)
        exact ih ((s.setCursor_thins _ _).queueLaw law) ((work.chunks.isLoaded w).trans loaded) _

theorem QueueLaw.refill {s : State} (law : QueueLaw s) : QueueLaw s.refill := by
  refine State.refill_keeps (fun t w h => ?_) law
  unfold State.refillWindow
  split
  · next turn =>
    simp only [Bool.and_eq_true] at turn
    obtain ⟨⟨loaded, _⟩, _⟩ := turn
    exact h.passWindow loaded _ _
  · exact h

end Sys2Proof.Machine
end

section
/-! What a step can be to the check queue (R116): entries leave it, a refill adds to it, a CHECK record adds to it. Records, the supply,
time and read-back. -/

namespace Sys2Proof.Machine

/-- A way from one state to another made of what can happen to the check queue. -/
inductive CheckCourse : State → State → Prop
  | thins {s t : State} (h : Thins s t) : CheckCourse s t
  | refilled (s : State) : CheckCourse s s.refill
  | checked {s : State} {w : Fin 32} (loaded : (s.win w).body.isLoaded = true) (urgent : Bool) (i : Nat) :
      CheckCourse s (s.checkChunk w urgent i)
  | trans {s t u : State} (h : CheckCourse s t) (k : CheckCourse t u) : CheckCourse s u

/-- The law of the check queue is kept by everything that can happen to it (R116). -/
theorem CheckCourse.queueLaw {s t : State} (h : CheckCourse s t) (law : QueueLaw s) : QueueLaw t := by
  induction h with
  | thins h => exact h.queueLaw law
  | refilled s => exact law.refill
  | checked loaded urgent i => exact law.checkChunk loaded urgent i
  | trans _ _ first second => exact second (first law)

theorem Thins.checkCourse {s t : State} (h : Thins s t) : CheckCourse s t := .thins h

theorem CheckCourse.refl (s : State) : CheckCourse s s := .thins (.refl s)

theorem CheckCourse.of_blocks {s t : State} (windows : t.windows = s.windows) (queue : t.scheduler.queue = s.scheduler.queue) :
    CheckCourse s t := .thins (.of_blocks windows queue)

theorem CheckCourse.foldl {α : Type} (f : State → α → State) (hf : ∀ s a, CheckCourse s (f s a)) (l : List α) (s : State) :
    CheckCourse s (l.foldl f s) := by
  induction l generalizing s with
  | nil => exact .refl s
  | cons a l ih => exact (hf s a).trans (ih _)

/-! ### What leaves the check queue alone -/

theorem State.settleClaim_thins (s : State) : Thins s s.settleClaim := by
  rw [s.settleClaim_eq]
  exact .of_blocks rfl rfl

theorem State.requestMark_thins (s : State) (m : Mark) : Thins s (s.requestMark m) := by
  rw [s.requestMark_eq]
  exact .of_blocks rfl rfl

theorem State.completionTest_thins (s : State) (w : Fin 32) : Thins s (s.completionTest w) := by
  unfold State.completionTest
  split
  · split
    · exact (s.raise_thins _).trans (State.modWin_thins _ _ _ rfl)
    · exact .refl s
  all_goals exact .refl s

theorem State.restartIf_thins (s : State) (now : Bool) : Thins s (s.restartIf now) := by
  unfold State.restartIf
  split
  · exact (State.resetWith_blank _ _ _ _).thins s
  · exact .refl s

theorem State.watchStatus_thins (s : State) (byte : Byte) : Thins s (s.watchStatus byte) := by
  rw [s.watchStatus_eq]
  split <;> exact .of_blocks rfl rfl

/-- What stands behind an event: a refill, and the claim count (R16, R121). -/
theorem State.refillSettle_checkCourse (s : State) : CheckCourse s s.refill.settleClaim :=
  (CheckCourse.refilled s).trans (State.settleClaim_thins _).checkCourse

/-! ### Records -/

/-- The owners of the records on views write the view table and the Report Writer only (R129 to R144). -/
theorem State.release_thins (s : State) (v : Fin 8) (view : View) : Thins s (s.release v view) := by
  unfold State.release
  dsimp only
  split
  · exact .of_blocks rfl rfl
  · split
    · obtain ⟨_, frame, _⟩ := s.dropPending_frame v { view with held := false } _ _
      rw [frame]
      exact .of_blocks rfl rfl
    · obtain ⟨_, frame⟩ := State.markCommit_frame (s.setView v _) _ .kept
      rw [frame]
      exact .of_blocks rfl rfl

theorem State.commit_thins (s : State) (mode : Mode) (addr : Nat) (v : Fin 8) (view : View) (bank : Bank) :
    Thins s (s.commit mode addr v view bank).st := by
  have dropped : ∀ pc, Thins s (s.dropPending v view pc .replaced) := fun pc => by
    obtain ⟨_, frame, _⟩ := s.dropPending_frame v view pc .replaced
    rw [frame]
    exact .of_blocks rfl rfl
  unfold State.commit
  split
  · split
    · exact dropped _
    · exact .refl s
  · split
    · exact .of_blocks rfl rfl
    · split
      · exact .of_blocks rfl rfl
      · split
        · dsimp only
          split
          · exact (dropped _).trans (.of_blocks rfl rfl)
          · exact .of_blocks rfl rfl
        · exact .of_blocks rfl rfl

theorem State.takeCommit_thins (s : State) (mode : Mode) (addr : Nat) (bytes : List Byte) :
    Thins s (s.takeCommit mode addr bytes).st := by
  unfold State.takeCommit
  split
  · split
    · exact .refl s
    · exact s.commit_thins _ _ _ _ _
  · exact .refl s

theorem State.takeRelease_thins (s : State) (bytes : List Byte) : Thins s (s.takeRelease bytes).st := by
  unfold State.takeRelease
  split
  · exact .refl s
  · split
    · exact .refl s
    · split
      · exact s.release_thins _ _
      · exact .refl s

theorem State.takeWindow_thins (s : State) (bytes : List Byte) : Thins s (s.takeWindow bytes).st := by
  rcases s.takeWindow_cases bytes with ⟨r, h⟩ | ⟨w, t, hw, h⟩ <;> rw [h]
  · exact .refl s
  · obtain ⟨⟨_, change, _⟩, rfl⟩ := (State.takeWindow_taken_iff hw).1 h
    exact s.modBody_thins (fun v => { v with body := v.body.redefine (windowGeometry bytes) }) (WinBody.isLoaded_of_bare change.1)

theorem State.takeManifest_thins (s : State) (bytes : List Byte) : Thins s (s.takeManifest bytes).st := by
  simp only [State.takeManifest]
  split
  · exact .refl s
  · split
    · exact .refl s
    · exact .refl s
    · split
      · exact .refl s
      · exact s.openCatalogue_thins _ _ _

theorem State.takeDigests_thins (s : State) (bytes : List Byte) : Thins s (s.takeDigests bytes).st := by
  simp only [State.takeDigests]
  split
  · exact .refl s
  · split
    · exact .refl s
    · split
      · next hb =>
        split
        · exact .refl s
        · exact State.offerOpen_thins hb _ _
      · split
        · exact .refl s
        · split <;> exact .refl s
      all_goals exact .refl s

theorem State.takeDrop_thins (s : State) (bytes : List Byte) : Thins s (s.takeDrop bytes).st := by
  simp only [State.takeDrop]
  split
  · exact .refl s
  · split
    · exact .refl s
    · split
      · exact .refl s
      · simp only [Ruling.st]
        refine Thins.trans ?_ (State.modWin_thins _ _ _ rfl)
        split
        · exact s.teardown_thins _ _
        · next bare => exact s.modBody_thins _ (WinBody.isLoaded_of_bare (by simpa using bare))

/-- The adds of CHECK are made in a window that stays LOADED (R122). -/
theorem State.checkChunks_checkCourse (w : Fin 32) (urgent : Bool) (l : List Nat) (s : State)
    (loaded : (s.win w).body.isLoaded = true) : CheckCourse s (l.foldl (State.checkChunk w urgent) s) := by
  induction l generalizing s with
  | nil => exact .refl s
  | cons i l ih =>
    exact (CheckCourse.checked loaded urgent i).trans
      (ih _ (((State.checkChunk_queueWork w urgent s i).chunks.isLoaded w).trans loaded))

theorem State.takeCheck_checkCourse (s : State) (bytes : List Byte) : CheckCourse s (s.takeCheck bytes).st := by
  simp only [State.takeCheck]
  split
  · exact .refl s
  · split
    · exact .refl s
    · split
      · next loaded =>
        exact ((State.checkChunks_checkCourse _ _ _ s loaded).trans (State.modWin_thins _ _ _ rfl).checkCourse).trans
          (State.completionTest_thins _ _).checkCourse
      · exact .refl s

theorem State.takeAck_thins (s : State) : Thins s s.takeAck.st := by
  have released : Thins s (if s.alertStays then s else s.modReports fun r => { r with alert := false }) := by
    split <;> exact .of_blocks rfl rfl
  simp only [State.takeAck, Ruling.st]
  exact released.trans (Thins.foldl _ (fun s w => s.modWin_thins w _ rfl) allWindows _)

/-- A record that comes to its owner is such a way, whatever its kind. -/
theorem State.dispatch_checkCourse (s : State) (k : RecKind) (mode : Mode) (addr : Nat) (bytes : List Byte) :
    CheckCourse s (s.dispatch k mode addr bytes).st := by
  cases k with
  | window => exact (s.takeWindow_thins bytes).checkCourse
  | manifest => exact (s.takeManifest_thins bytes).checkCourse
  | digests => exact (s.takeDigests_thins bytes).checkCourse
  | drop => exact (s.takeDrop_thins bytes).checkCourse
  | check => exact s.takeCheck_checkCourse bytes
  | commit => exact (s.takeCommit_thins mode addr bytes).checkCourse
  | release => exact (s.takeRelease_thins bytes).checkCourse
  | ack => exact s.takeAck_thins.checkCourse
  | budget => exact .of_blocks rfl rfl
  | restart => exact .refl s
  | opclass | view | unview | hold | snapshot =>
    simp only [State.dispatch, State.takeOpclass, State.takeView, State.takeUnview, State.takeHold, State.takeSnapshot]
    repeat' split
    all_goals exact .of_blocks rfl rfl

/-! ### What stands around a record -/

theorem State.refuseRecord_thins (s : State) (addr : Nat) (bytes : List Byte) (r : Reason) (o : Origin) :
    Thins s (s.refuseRecord addr bytes r o) := (s.requestMark_thins _).trans (State.raise_thins _ _)

/-- The parser goes on behind a record, and the check queue is refilled (R121, R161). -/
theorem State.nextRecord_checkCourse (s : State) (bytes : List Byte) : CheckCourse s (s.nextRecord bytes) :=
  (s.modParser_thins _).checkCourse.trans (.refilled _)

theorem State.ruleRecord_checkCourse (s : State) (k : RecKind) (mode : Mode) (addr : Nat) (bytes : List Byte) :
    CheckCourse s (s.ruleRecord k mode addr bytes).st := by
  unfold State.ruleRecord
  split
  · exact s.dispatch_checkCourse k mode addr bytes
  · exact .refl s

theorem State.rule_checkCourse (s : State) (addr : Nat) (bytes : List Byte) (taint : Bool) :
    CheckCourse s (s.rule addr bytes taint).st := by
  unfold State.rule
  split
  · exact .refl s
  · split
    · exact .refl s
    · split
      · exact .refl s
      · exact s.ruleRecord_checkCourse _ _ _ _

theorem State.liveRecord_checkCourse (s : State) (bytes : List Byte) (taint : Bool) :
    CheckCourse s (s.liveRecord bytes taint).st := by
  have ruled := s.rule_checkCourse s.parser.cursor bytes taint
  have marked : ∀ (t : State) (m : Mark), CheckCourse t ((t.requestMark m).nextRecord bytes) := fun t m =>
    (t.requestMark_thins m).checkCourse.trans (State.nextRecord_checkCourse _ _)
  simp only [State.liveRecord, State.markRestart]
  split <;> rename_i hr <;> rw [hr] at ruled <;> simp only [Ruling.st] at ruled ⊢
  · exact ruled.trans ((State.refuseRecord_thins _ _ _ _ _).checkCourse.trans (State.nextRecord_checkCourse _ _))
  · exact ruled.trans (marked _ _)
  · exact ruled.trans (State.nextRecord_checkCourse _ _)
  · split <;> dsimp only
    · exact ruled.trans (marked _ _)
    · exact ruled.trans (marked _ _)
    · exact ruled.trans (State.nextRecord_checkCourse _ _)

/-- At replay a ruling is marked or reported, and counted (R168, R169). -/
theorem State.replayRuling_thins (addr : Nat) (bytes : List Byte) (r : Ruling) :
    Thins r.st (State.replayRuling addr bytes r) := by
  cases r with
  | taken u => exact (u.requestMark_thins _).trans (State.modParser_thins _ _)
  | pended u => exact u.modParser_thins _
  | refused u reason => exact (u.refuseRecord_thins _ _ _ _).trans (State.modParser_thins _ _)
  | commitRefused u => exact (u.requestMark_thins _).trans (State.modParser_thins _ _)

theorem State.replayStanding_checkCourse (s : State) (k : RecKind) (kept : Bool) (addr : Nat) (bytes : List Byte) :
    CheckCourse s (s.replayStanding k kept addr bytes) := by
  unfold State.replayStanding
  split
  · have ruled := s.ruleRecord_checkCourse k .replayKept addr bytes
    split
    · next hr =>
      rw [hr] at ruled
      exact ruled.trans (State.modParser_thins _ _).checkCourse
    · exact ruled.trans (State.replayRuling_thins _ _ _).checkCourse
  · exact (s.ruleRecord_checkCourse _ _ _ _).trans (State.replayRuling_thins _ _ _).checkCourse

theorem State.replayRecord_checkCourse (s : State) (bytes : List Byte) : CheckCourse s (s.replayRecord bytes) := by
  have refused : ∀ reason, CheckCourse s (s.refuseAtReplay s.parser.cursor bytes reason) := fun reason =>
    (State.replayRuling_thins s.parser.cursor bytes (.refused s reason)).checkCourse
  refine .trans ?_ (State.nextRecord_checkCourse _ _)
  split
  · exact (s.modParser_thins _).checkCourse
  · split
    · exact refused _
    · split
      · exact refused _
      · split
        · exact refused _
        · split
          · exact s.replayStanding_checkCourse _ _ _ _
          · exact ((s.requestMark_thins _).trans (State.modParser_thins _ _)).checkCourse

theorem State.collected_checkCourse (s : State) (o : Origin) (first : Nat) (bytes : List Byte) (taint : Bool) :
    CheckCourse s (s.collected o first bytes taint).st := by
  unfold State.collected
  dsimp only
  split
  · split
    · exact .of_blocks rfl rfl
    · split
      · exact .of_blocks rfl rfl
      · split <;> exact .of_blocks rfl rfl
  · split
    · cases o with
      | live =>
        have live := s.liveRecord_checkCourse bytes taint
        dsimp only
        split <;> exact live
      | replay =>
        dsimp only [FeedResult.st]
        exact s.replayRecord_checkCourse bytes
    · exact .of_blocks rfl rfl

theorem State.feed_checkCourse (s : State) (o : Origin) (first : Nat) (b : Byte) : CheckCourse s (s.feed o first b).st := by
  unfold State.feed
  dsimp only
  split
  · exact .refl s
  · exact s.collected_checkCourse _ _ _ _
  · exact s.collected_checkCourse _ _ _ _

theorem State.feedLive_checkCourse (first : Nat) (bytes : List Byte) (s : State) :
    CheckCourse s (s.feedLive first bytes).st := by
  induction bytes generalizing s with
  | nil => exact .refl s
  | cons b bs ih =>
    have one := s.feed_checkCourse .live first b
    unfold State.feedLive
    split <;> rename_i hf <;> rw [hf] at one
    · exact one.trans (ih _)
    all_goals exact one

theorem State.feedReplay_checkCourse (bytes : List Byte) (s : State) : CheckCourse s (s.feedReplay bytes).1 := by
  induction bytes generalizing s with
  | nil => exact .refl s
  | cons b bs ih =>
    have one := s.feed_checkCourse .replay 0 b
    unfold State.feedReplay
    split <;> rename_i hf <;> rw [hf] at one
    · split
      · exact one
      · exact one.trans (ih _)
    all_goals exact one

end Sys2Proof.Machine
end

section
/-! Each step of the part is made of what can happen to the check queue, and so keeps its law (R116) (O55). -/

namespace Sys2Proof.Machine

/-! ### The supply -/

theorem dipChunk_thins (w : Fin 32) (ranges : List (Nat × Nat)) (m : DipMark) (i : Nat) :
    Thins m.st (dipChunk w ranges m i).st := by
  unfold dipChunk
  split
  · exact (m.st.disturb_thins w i).trans (State.setDipTouched_thins _ _)
  · exact .refl _

theorem dipChunks_thins (w : Fin 32) (ranges : List (Nat × Nat)) (l : List Nat) (m : DipMark) :
    Thins m.st (l.foldl (dipChunk w ranges) m).st := by
  induction l generalizing m with
  | nil => exact .refl _
  | cons i l ih => exact (dipChunk_thins w ranges m i).trans (ih _)

theorem dipWindow_thins (ranges : List (Nat × Nat)) (m : DipMark) (w : Fin 32) :
    Thins m.st (dipWindow ranges m w).st := by
  unfold dipWindow
  split
  · exact (dipChunks_thins w ranges _ m).trans (State.closeEvent_thins _ _ _)
  · exact .refl _

theorem dipWindows_thins (ranges : List (Nat × Nat)) (l : List (Fin 32)) (m : DipMark) :
    Thins m.st (l.foldl (dipWindow ranges) m).st := by
  induction l generalizing m with
  | nil => exact .refl _
  | cons w l ih => exact (dipWindow_thins ranges m w).trans (ih _)

theorem State.enterDip_thins (fresh : Bool) (s : State) : Thins s (s.enterDip fresh) := by
  have struck : Thins s s.dipStrike.st := by
    unfold State.dipStrike State.dipMark
    dsimp only
    split
    · exact (dipWindows_thins _ allWindows { st := s, marked := 0, windows := 0 }).trans
        (State.modParser_thins _ _)
    · exact .refl s
  unfold State.enterDip
  dsimp only
  split
  · exact (struck.trans (State.modSupply_thins _ _)).trans (State.raise_thins _ _)
  · exact struck.trans (State.modSupply_thins _ _)

theorem State.convertDip_thins (s : State) (w : Fin 32) : Thins s (s.convertDip w) := by
  unfold State.convertDip
  split
  · exact s.modWin_thins w _ rfl
  · exact .refl s

theorem State.enterNormal_checkCourse (now : Word32) (s : State) : CheckCourse s (s.enterNormal now) := by
  have converted := (s.modSupply_thins fun p => { p with state := .normal, settle := none }).trans
    (Thins.foldl _ State.convertDip_thins allWindows _)
  have closing : ∀ (t : State) (r : Report) (f : Supply → Supply), CheckCourse t ((t.refill.raise r).modSupply f) := fun t r f =>
    (CheckCourse.refilled t).trans ((State.raise_thins _ _).trans (State.modSupply_thins _ _)).checkCourse
  unfold State.enterNormal
  dsimp only
  exact converted.checkCourse.trans (closing _ _ _)

theorem State.bandEvent_thins (band : Band) (s : State) : Thins s (s.bandEvent band) := by
  have held := s.modSupply_thins fun p => { p with band := band }
  simp only [State.bandEvent]
  split
  · exact .refl s
  · split
    · exact held.trans (State.enterDip_thins _ _)
    · exact held
    · exact held
    · exact held.trans (State.modSupply_thins _ _)
    · exact held
    · exact held
    · exact held.trans (State.enterDip_thins _ _)
    · exact held.trans (State.modSupply_thins _ _)
    · exact held.trans (State.modSupply_thins _ _)

theorem State.changeBand_checkCourse (band : Band) (s : State) : CheckCourse s (s.changeBand band) := by
  unfold State.changeBand
  split
  · exact .refl s
  · exact (s.bandEvent_thins band).checkCourse.trans (State.refillSettle_checkCourse _)

/-! ### Time and read-back -/

theorem State.tickQuiet_thins (s : State) (w : Fin 32) : Thins s (s.tickQuiet w) := by
  unfold State.tickQuiet
  split
  · exact .refl s
  · split <;> exact s.modWin_thins w _ rfl

theorem State.tickSettle_checkCourse (s : State) : CheckCourse s s.tickSettle := by
  unfold State.tickSettle
  split
  · split
    · exact s.enterNormal_checkCourse _
    · exact .of_blocks rfl rfl
  all_goals exact .refl s

theorem State.tickTimers_checkCourse (s : State) : CheckCourse s s.tickTimers := by
  have claimed : Thins s (s.tickClaim.modScheduler Scheduler.tick) := by
    unfold State.tickClaim
    split <;> exact .of_blocks rfl rfl
  exact ((claimed.trans (Thins.foldl _ State.tickQuiet_thins allWindows _)).checkCourse.trans
    (State.tickSettle_checkCourse _)).trans (.refilled _)

theorem State.takeHead_checkCourse (s : State) : CheckCourse s s.takeHead := by
  unfold State.takeHead
  split
  · split
    · rw [s.startReadback_eq]
      exact (s.beginReadback_thins _).checkCourse.trans (State.refillSettle_checkCourse _)
    · exact .refl s
  · exact .refl s

theorem State.endBurst_thins (s : State) (r : ReadbackCtx) (bytes : List Byte) : Thins s (s.endBurst r bytes) := by
  unfold State.endBurst
  refine Thins.trans ?_ (State.settleClaim_thins _)
  split
  · rw [s.completeReadback_eq]
    exact (s.judgeReadback_thins r _).trans (State.closeEvent_thins _ _ _)
  · exact s.setReadback_thins _

/-! ### Reading -/

theorem State.harvest_checkCourse (s : State) (o : Offer) : CheckCourse s (s.harvest o) := by
  unfold State.harvest
  split
  · exact .refl s
  · split
    · exact .refl s
    · split
      · exact (s.endDigesting_thins _ _).checkCourse
      · exact ((s.harvestIdle_thins o).trans (State.closeEvent_thins _ _ _)).checkCourse.trans (.refilled _)

theorem ReadRun.close_checkCourse (r : ReadRun) : CheckCourse r.st r.close.st := by
  unfold ReadRun.close
  split
  · exact r.st.harvest_checkCourse _
  · exact .refl _

theorem ReadRun.cut_checkCourse (r : ReadRun) (b : ByteSite) : CheckCourse r.st (r.cut b).st := by
  unfold ReadRun.cut
  split
  · split
    · exact .refl _
    · exact r.close_checkCourse
  · exact .refl _

theorem ReadRun.account_thins (r : ReadRun) (b : ByteSite) : Thins r.st (r.account b).st := by
  unfold ReadRun.account
  split
  · split
    · unfold State.signalFill
      dsimp only
      split
      · exact .refl _
      · exact (State.raise_thins _ _).trans (State.modWin_thins _ _ _ rfl)
    · exact .refl _
  · exact .refl _

theorem State.duringRead_checkCourse (s : State) (e : DuringRead) : CheckCourse s (s.duringRead e) := by
  cases e with
  | tick => exact s.tickTimers_checkCourse.trans (State.settleClaim_thins _).checkCourse
  | bandChange band => exact s.changeBand_checkCourse band
  | readbackStart => exact s.takeHead_checkCourse

theorem ReadRun.between_checkCourse (r : ReadRun) (x : Nat) (events : List DuringRead) :
    CheckCourse r.st (r.between x events).st := by
  cases events with
  | nil => exact .refl _
  | cons e es =>
    exact (r.cut_checkCourse (r.st.siteOf x)).trans (CheckCourse.foldl _ State.duringRead_checkCourse (e :: es) _)

theorem ReadRun.byte_checkCourse (r : ReadRun) (x : Nat) (byte : Byte) : CheckCourse r.st (r.byte x byte).st :=
  (r.cut_checkCourse (r.st.siteOf x)).trans
    (ReadRun.account_thins
      { r.cut (r.st.siteOf x) with
        last := some (r.st.siteOf x)
        offer := (r.cut (r.st.siteOf x)).grow (r.st.siteOf x) byte
        out := (r.cut (r.st.siteOf x)).out ++ [(r.cut (r.st.siteOf x)).st.delivered (r.st.siteOf x) byte] }
      (r.st.siteOf x)).checkCourse

theorem ReadRun.bytes_checkCourse (a flashBytes : Nat) (during : List (Nat × DuringRead)) (data : List Byte) :
    ∀ (k : Nat) (r : ReadRun), CheckCourse r.st (ReadRun.bytes a flashBytes during k data r).st := by
  induction data with
  | nil => exact fun k r => r.between_checkCourse _ _
  | cons b bs ih => exact fun k r => ((r.between_checkCourse _ _).trans (ReadRun.byte_checkCourse _ _ _)).trans (ih _ _)

theorem State.readRun_checkCourse (s : State) (x : HostXfer) : CheckCourse s (s.readRun x).finish := by
  have opened : CheckCourse s s.takeOpcode := (s.modBridge_thins _).checkCourse
  have run : CheckCourse s.takeOpcode (s.readRun x).st :=
    ReadRun.bytes_checkCourse _ _ _ _ 0 { st := s.takeOpcode, last := none, offer := none, out := [], filled := [] }
  refine (opened.trans run).trans ?_
  unfold ReadRun.finish
  split
  · exact ReadRun.close_checkCourse _
  · exact (ReadRun.close_checkCourse _).trans (.of_blocks (t := State.countFillCommand _) rfl rfl)

/-! ### The host's commands and forwarding -/

/-- What a state makes of the check queue stands behind a settled claim count (R16). -/
theorem CheckCourse.settled {s t : State} (h : CheckCourse s t) : CheckCourse s t.settleClaim :=
  h.trans t.settleClaim_thins.checkCourse

theorem State.releaseSelect_checkCourse (s : State) (c : Collected) (addrLen : Nat) :
    CheckCourse s (s.releaseSelect c addrLen) := by
  unfold State.releaseSelect
  split
  · exact CheckCourse.settled (.of_blocks rfl rfl)
  · exact CheckCourse.settled (.of_blocks rfl rfl)

theorem State.hostCommand_checkCourse (s : State) (x : HostXfer) : CheckCourse s (s.hostCommand x) := by
  have collected : ∀ c n, CheckCourse s (s.takeOpcode.releaseSelect c n) := fun c n =>
    (s.modBridge_thins _).checkCourse.trans (State.releaseSelect_checkCourse _ c n)
  have passed : Thins s (s.takeOpcode.forwardRaw x) := .of_blocks rfl rfl
  unfold State.hostCommand
  split
  · exact .of_blocks rfl rfl
  · exact CheckCourse.settled (.of_blocks rfl rfl)
  · rw [s.readCommand_eq]
    exact ((s.readRun_checkCourse x).trans (State.drive_thins _ _ _).checkCourse).settled
  · exact collected _ _
  · exact collected _ _
  · exact collected _ _
  · exact collected _ _
  · exact collected _ _
  · exact (passed.trans (Thins.foldl _ State.watchStatus_thins x.flash _)).checkCourse.settled
  · exact CheckCourse.settled (.of_blocks rfl rfl)
  · exact passed.checkCourse.settled
  · exact CheckCourse.settled (.of_blocks rfl rfl)

theorem State.restartQuiet_thins (s : State) (w : Fin 32) : Thins s (s.restartQuiet w) := by
  unfold State.restartQuiet
  split
  · exact s.modWin_thins w _ rfl
  · exact .refl s

theorem State.programEvent_thins (s : State) (w : Fin 32) (l : Landing) (data : List Byte) :
    Thins s (s.programEvent w l data) := by
  unfold State.programEvent
  dsimp only
  split
  · exact (s.programChunk_thins w l data).trans (State.closeEvent_thins _ _ _)
  · exact ((s.disturb_thins w l.chunk).trans (State.setDipTouched_thins _ _)).trans (State.closeEvent_thins _ _ _)

theorem State.landProgram_checkCourse (s : State) (c : Collected) : CheckCourse s (s.landProgram c).st := by
  unfold State.landProgram
  split
  · simp only [State.programWindow]
    refine Thins.checkCourse (Thins.trans ?_ (State.restartQuiet_thins _ _))
    split
    · exact s.programEvent_thins _ _ _
    · exact .refl s
  · split
    · unfold State.commandProgram
      split
      · exact .refl s
      · split
        · exact .of_blocks rfl rfl
        · split
          · exact .of_blocks rfl rfl
          · exact State.feedLive_checkCourse _ _ s
    · exact .refl s

/-- What stands behind an event on the flash: a refill, the claim count and perhaps a restart (R16, R121, R165). -/
theorem State.closed_checkCourse (s : State) (now : Bool) : CheckCourse s (s.refill.settleClaim.restartIf now) :=
  s.refillSettle_checkCourse.trans (State.restartIf_thins _ _).checkCourse

theorem State.forwardProgram_checkCourse (s : State) (c : Collected) : CheckCourse s (s.forwardProgram c) := by
  unfold State.forwardProgram
  split
  · exact CheckCourse.settled (.of_blocks rfl rfl)
  · have busy : CheckCourse s (s.emptyBuffer.busyWithHost (c.touched s.flashBytes)) := .of_blocks rfl rfl
    exact (busy.trans (State.landProgram_checkCourse _ c)).trans (State.closed_checkCourse _ _)

theorem State.eraseChunk_thins (w : Fin 32) (cover : Nat × Nat) (s : State) (i : Nat) : Thins s (s.eraseChunk w cover i) := by
  unfold State.eraseChunk
  split
  · split
    · split
      · exact s.eraseFully_thins w i
      · exact s.disturb_thins w i
    · exact (s.disturb_thins w i).trans (State.setDipTouched_thins _ _)
  · exact .refl s

theorem State.eraseWindow_thins (cover : Nat × Nat) (s : State) (w : Fin 32) : Thins s (s.eraseWindow cover w) := by
  unfold State.eraseWindow
  split
  · exact (Thins.foldl _ (State.eraseChunk_thins w cover) _ s).trans (State.closeEvent_thins _ _ _)
  · exact .refl s

theorem State.eraseTouches_thins (cover : Nat × Nat) (s : State) (w : Fin 32) : Thins s (s.eraseTouches cover w) := by
  unfold State.eraseTouches
  split
  · exact s.restartQuiet_thins w
  · exact .refl s

theorem State.eraseMeetsCommand_thins (s : State) (cover : Nat × Nat) : Thins s (s.eraseMeetsCommand cover).st := by
  unfold State.eraseMeetsCommand State.eraseCommandArea
  dsimp only
  split
  · refine .trans (.of_blocks (t := State.modReports _ (s.modParser _)) rfl rfl)
      (Thins.foldl (State.loseRecord cover) (fun _ _ => .of_blocks rfl rfl) allViews _)
  · exact .refl s

theorem State.eraseMeetsReport_thins (s : State) (cover : Nat × Nat) : Thins s (s.eraseMeetsReport cover) := by
  unfold State.eraseMeetsReport State.eraseReportArea
  split
  · split <;> exact .of_blocks rfl rfl
  · exact .refl s

theorem State.forwardErase_checkCourse (s : State) (c : Collected) : CheckCourse s (s.forwardErase c) := by
  have busy : Thins s (s.emptyBuffer.busyWithHost (c.touched s.flashBytes)) := .of_blocks rfl rfl
  have windows : ∀ (t : State) cover, Thins t (t.eraseWindows cover) := fun t cover =>
    (Thins.foldl _ (State.eraseWindow_thins cover) allWindows t).trans
      (Thins.foldl _ (State.eraseTouches_thins cover) allWindows _)
  exact (((busy.trans (windows _ _)).trans (State.eraseMeetsCommand_thins _ _)).trans
    (State.eraseMeetsReport_thins _ _)).checkCourse.trans (State.closed_checkCourse _ _)

/-! ### Internal programs and start-up reads -/

theorem State.pollProgram_thins (s : State) (kind : ProgramKind) (byte : Byte) : Thins s (s.pollProgram kind byte) := by
  have watched : Thins s ((s.issue [statusTxn]).watchStatus byte) :=
    (s.issue_thins _).trans (State.watchStatus_thins _ _)
  have completed : ∀ t : State, Thins t (t.completeProgram kind).st := fun t => by cases kind <;> exact .of_blocks rfl rfl
  simp only [State.pollProgram]
  split
  · exact watched.trans (State.settleClaim_thins _)
  · exact ((watched.trans (completed _)).trans (State.settleClaim_thins _)).trans (State.restartIf_thins _ _)

theorem State.tickProgram_thins (s : State) : Thins s s.tickProgram.st := by
  unfold State.tickProgram
  split
  · split <;> exact .of_blocks rfl rfl
  all_goals exact .refl s

theorem State.startupBytes_checkCourse (s : State) (purpose : ReadPurpose) (bytes : List Byte) :
    CheckCourse s (s.startupBytes purpose bytes) := by
  cases purpose with
  | scan => exact .of_blocks rfl rfl
  | replay =>
    have replayed := State.feedReplay_checkCourse bytes s
    simp only [State.startupBytes, State.replayBytes]
    split <;> rename_i hf <;> rw [hf] at replayed
    · exact replayed.trans (.of_blocks (t := State.endReplay _ _) rfl rfl)
    · exact replayed

/-! ### The step -/

/-- Each row of the table is such a way. -/
theorem exec_checkCourse (i : Instr) (s t : State) (h : exec i s = .next t) : CheckCourse s t := by
  have host : ∀ {x : HostXfer}, i ∈ hostRows x → CheckCourse s t := by
    intro x hi
    rw [exec_of_hostRow hi] at h
    cases h
    exact s.hostCommand_checkCourse x
  cases i with
  | read x | program x | erase4K x | erase32K x | erase64K x | eraseAll x | status x | writeEnable x | pass x | block x
  | commandDiscard x | opcodeWhileNotReady x => exact host (x := x) (by simp [hostRows])
  | programForward =>
    simp only [exec, execProgramForward] at h
    split at h
    · split at h <;> cases h
      · exact s.forwardProgram_checkCourse _
      · exact .refl s
    · cases h; exact .refl s
  | eraseForward =>
    simp only [exec, execEraseForward] at h
    split at h
    · split at h <;> cases h
      · exact .refl s
      · exact s.forwardErase_checkCourse _
    · cases h; exact .refl s
  | statusPoll waiting byte =>
    simp only [exec, execStatusPoll] at h
    split at h <;> cases h
    · exact ((s.issue_thins _).trans (State.watchStatus_thins _ _)).checkCourse.settled
    · exact .refl s
  | markProgram waiting =>
    simp only [exec, execMarkProgram] at h
    split at h
    · split at h <;> cases h <;> exact .of_blocks rfl rfl
    · cases h; exact .refl s
  | reportProgram waiting =>
    simp only [exec, execReportProgram] at h
    split at h
    · split at h <;> cases h <;> exact .of_blocks rfl rfl
    · cases h; exact .refl s
  | internalProgramTransactionEnd =>
    simp only [exec, execInternalProgramTransactionEnd] at h
    split at h <;> cases h
    · exact CheckCourse.settled (.of_blocks rfl rfl)
    all_goals exact .refl s
  | internalProgramPoll byte =>
    simp only [exec, execInternalProgramPoll] at h
    split at h <;> cases h
    · exact (s.pollProgram_thins _ _).checkCourse
    all_goals exact .refl s
  | internalProgramTimeout =>
    simp only [exec, execInternalProgramTimeout] at h
    split at h
    · split at h <;> cases h
      · have ended : Thins s s.timeOut.st := .of_blocks rfl rfl
        exact ((ended.trans (State.settleClaim_thins _)).trans (State.restartIf_thins _ _)).checkCourse
      · exact .refl s
    all_goals cases h; exact .refl s
  | startupRead waiting =>
    simp only [exec, execStartupRead] at h
    split at h
    · split at h <;> cases h <;> exact .of_blocks rfl rfl
    · cases h; exact .refl s
  | startupReadEnd bytes =>
    simp only [exec, execStartupReadEnd] at h
    split at h
    · split at h <;> cases h
      · exact ((s.modBridge_thins _).checkCourse.trans (State.startupBytes_checkCourse _ _ _)).settled
      · exact .refl s
    all_goals cases h; exact .refl s
  | readbackStart => cases h; exact s.takeHead_checkCourse
  | readbackBurst waiting =>
    simp only [exec, execReadbackBurst] at h
    split at h
    · split at h <;> cases h <;> exact .of_blocks rfl rfl
    · cases h; exact .refl s
  | readbackBurstEnd bytes =>
    simp only [exec, execReadbackBurstEnd] at h
    split at h
    · split at h <;> cases h
      · exact (s.endBurst_thins _ _).checkCourse
      · exact .refl s
    · cases h; exact .refl s
  | tick =>
    simp only [exec, execTick] at h
    split at h <;> obtain rfl := Host.Outcome.next.inj h
    · exact .refl s
    · exact (s.tickTimers_checkCourse.trans (State.tickProgram_thins _).checkCourse).settled.trans
        (State.restartIf_thins _ _).checkCourse
  | quietTimerExpiry window =>
    simp only [exec, execQuietTimerExpiry] at h
    split at h
    · cases h; exact .refl s
    · next w _ =>
      split at h
      · split at h <;> obtain rfl := Host.Outcome.next.inj h
        · exact (s.modWin_thins w _ rfl).checkCourse.trans (State.refillSettle_checkCourse _)
        · exact .refl s
      · cases h; exact .refl s
  | bandChange band =>
    simp only [exec, execBandChange] at h
    split at h <;> cases h
    · exact .refl s
    · exact s.changeBand_checkCourse band
  | settleTimerExpiry =>
    simp only [exec, execSettleTimerExpiry] at h
    split at h
    · split at h <;> obtain rfl := Host.Outcome.next.inj h
      · exact (s.enterNormal_checkCourse _).settled
      · exact .refl s
    all_goals cases h; exact .refl s
  | powerOnReset pins band => cases h; exact ((State.resetWith_blank _ _ _ _).thins s).checkCourse
  | resetPinAssert => cases h; exact ((State.cleared_blank _ _ _ _ .held).thins s).checkCourse
  | resetPinRelease pins band =>
    simp only [exec, execResetPinRelease] at h
    split at h <;> cases h
    · exact ((State.resetWith_blank _ _ _ _).thins s).checkCourse
    · exact .of_blocks rfl rfl

/-- A step is such a way: on an empty queue the part idles. -/
theorem step_checkCourse {s t : State} (h : step s = .next t) : CheckCourse s t := by
  unfold step at h
  split at h
  · cases h; exact .refl s
  · next c rest _ => exact .trans (.of_blocks (t := { s with pending := rest }) rfl rfl) (exec_checkCourse c _ t h)

/-- Settles O55: entries only leave, but for the adds of a refill and of CHECK, and each of these keeps the law. -/
theorem checkQueueNamesOnlyUncheckedQueuedChunks : Obligations.CheckQueueNamesOnlyUncheckedQueuedChunks := fun _ _ law h =>
  (step_checkCourse h).queueLaw law

end Sys2Proof.Machine
end

section
/-! SNAPSHOT, ACK and BUDGET (R127, R155, R174 to R176) (O52). -/

namespace Sys2Proof.Machine

theorem State.ruleRecord_of_words {s : State} {k : RecKind} {bytes : List Byte} (words : recordWords bytes = k.words bytes)
    (mode : Mode) (addr : Nat) : s.ruleRecord k mode addr bytes = s.dispatch k mode addr bytes := if_pos words

/-- A SNAPSHOT whose report joins the queue takes the counters and the latch back to their first values (R155, R176). -/
theorem State.takeSnapshot_joins {s : State} (room : s.reports.queue.length < 16) :
    s.takeSnapshot =
      .taken { s with
        reports :=
          { s.reports with
            queue := s.reports.queue ++ [.snapshot s.reports.counters s.supply.latch s.supply.state s.reports.index]
            counters :=
              { goodVerdicts := 0, badVerdicts := 0, readbackAborts := 0, evictions := 0, withheld := 0
                fillCommands := 0 } }
        supply := { s.supply with latch := true } } := by
  simp [State.takeSnapshot, State.raise, State.modReports, State.modCounters, State.modSupply, Config.reportEntries, room]

/-- A SNAPSHOT whose report is lost leaves the counters and the latch (R170, R176). -/
theorem State.takeSnapshot_lost {s : State} (full : 16 ≤ s.reports.queue.length) :
    s.takeSnapshot = .taken { s with reports := { s.reports with dropped := true } } := by
  simp [State.takeSnapshot, State.raise, State.modReports, Config.reportEntries, Nat.not_lt.2 full]

/-- The fill-reported flags of the windows that were looked at are cleared, and nothing else is written (R175). -/
theorem State.clearFillReported_foldl (l : List (Fin 32)) (s : State) :
    (∀ w, (l.foldl State.clearFillReported s).win w =
      { s.win w with fillReported := (s.win w).fillReported && !decide (w ∈ l) }) ∧
      l.foldl State.clearFillReported s = { s with windows := (l.foldl State.clearFillReported s).windows } := by
  induction l generalizing s with
  | nil => exact ⟨fun w => by simp, rfl⟩
  | cons v l ih =>
    obtain ⟨win, frame⟩ := ih (s.clearFillReported v)
    rw [List.foldl_cons]
    refine ⟨fun w => ?_, frame.trans rfl⟩
    rw [win, State.clearFillReported, State.win_modWin]
    by_cases h : v = w
    · subst h; simp
    · simp [h, Ne.symm h]

/-- The alert line stays asserted over an ACK while the journal is FULL with reports waiting, or FAILED (R174). -/
theorem State.alertStays_eq (s : State) :
    s.alertStays =
      (decide (s.reports.journal = .full ∧ s.reports.queue ≠ []) || decide (s.reports.journal = .failed)) := by
  cases hq : s.reports.queue <;> simp [State.alertStays, hq]

theorem State.takeAck_spec (s : State) :
    ∃ t, s.takeAck = .taken t ∧ (∀ w, t.win w = { s.win w with fillReported := false }) ∧
      t.reports = { s.reports with alert := s.reports.alert && s.alertStays } ∧
      t = { s with windows := t.windows, reports := t.reports } := by
  obtain ⟨released, hr⟩ : ∃ released, released = if s.alertStays then s else s.modReports fun r => { r with alert := false } :=
    ⟨_, rfl⟩
  have alert : released = { s with reports := { s.reports with alert := s.reports.alert && s.alertStays } } := by
    rw [hr]
    cases s.alertStays <;> simp [State.modReports]
  obtain ⟨win, frame⟩ := State.clearFillReported_foldl allWindows released
  refine ⟨allWindows.foldl State.clearFillReported released, by rw [hr]; rfl, fun w => ?_, ?_, ?_⟩
  · rw [win, alert]
    simp [State.win]
  · rw [frame, alert]
  · rw [frame, alert]

/-- Settles O52. -/
theorem snapshotAndAckActOnCountersAndAlert : Obligations.SnapshotAndAckActOnCountersAndAlert := by
  refine ⟨fun s mode addr bytes words => ⟨fun room => ?_, fun full => ?_, ?_⟩, fun s mode addr bytes words => ?_⟩
  · exact (State.ruleRecord_of_words words mode addr).trans (State.takeSnapshot_joins room)
  · exact (State.ruleRecord_of_words words mode addr).trans (State.takeSnapshot_lost full)
  · obtain ⟨t, taken, win, reports, frame⟩ := s.takeAck_spec
    rw [s.alertStays_eq] at reports
    exact ⟨t, (State.ruleRecord_of_words words mode addr).trans taken, win, reports, frame⟩
  · exact State.ruleRecord_of_words words mode addr

end Sys2Proof.Machine
end

section
/-! The adds of CHECK (R117, R118) and the record as a whole (R122, R123) (O46). -/

namespace Sys2Proof.Machine

/-! ### One add -/

theorem State.setQueued_checkWanted (s : State) (w u : Fin 32) (i : Nat) (q : Bool) :
    ((s.setQueued w i q).win u).checkWanted = (s.win u).checkWanted := by
  rw [State.setQueued, State.modChunk, State.win_modWin]
  split
  · next h => rw [h]
  · rfl

theorem State.setCheckWanted_checkWanted (s : State) (w u : Fin 32) :
    ((s.setCheckWanted w).win u).checkWanted = (decide (w = u) || (s.win u).checkWanted) := by
  rw [State.setCheckWanted, State.win_modWin]
  by_cases h : w = u <;> simp [h]

theorem State.setCheckWanted_chunk? (s : State) (w u : Fin 32) (j : Nat) : (s.setCheckWanted w).chunk? u j = s.chunk? u j :=
  s.chunk?_modWin_body w _ rfl u j

/-- A displaced chunk's queued field is no, and every other record stands (R118). -/
theorem State.displace_chunk? (s : State) (e : Entry) (u : Fin 32) (j : Nat) :
    (s.displace e).chunk? u j =
      if e.window = u ∧ e.chunk = j then (s.chunk? u j).map fun c => { c with queued := false } else s.chunk? u j :=
  (State.setCheckWanted_chunk? _ _ _ _).trans (State.chunk?_setQueued _ _ _ _ _ _)

theorem State.displace_checkWanted (s : State) (e : Entry) (u : Fin 32) :
    ((s.displace e).win u).checkWanted = (decide (e.window = u) || (s.win u).checkWanted) := by
  rw [State.displace, State.setCheckWanted_checkWanted, State.setQueued_checkWanted]
  rfl

theorem State.addUrgent_checkWanted (s : State) (w u : Fin 32) (i : Nat) :
    ((s.addUrgent w i).win u).checkWanted = (s.win u).checkWanted := State.setQueued_checkWanted _ _ _ _ _

/-- An add with room in the queue (R117, R118). -/
theorem State.checkChunk_roomy {s : State} {w : Fin 32} {i : Nat} (law : QueueLaw s) (adds : s.addable w i = true)
    (room : s.scheduler.queue.length < 64) :
    (s.checkChunk w false i).scheduler.queue = s.scheduler.queue ++ [{ window := w, chunk := i, urgent := false }] ∧
      (s.checkChunk w true i).scheduler.queue =
        s.scheduler.queue.filter (fun e => e.urgent) ++
          [{ window := w, chunk := i, urgent := true }] ++ s.scheduler.queue.filter (fun e => !e.urgent) := by
  obtain ⟨_, _, _, order⟩ := law
  have free : s.queueFull = false := by
    rw [← Bool.not_eq_true, s.queueFull_iff]
    omega
  obtain ⟨normal, high⟩ := (State.checkChunk_of_addable adds).1 free
  refine ⟨by rw [normal]; rfl, ?_⟩
  rw [high, List.append_assoc, List.singleton_append, ← placeUrgent_eq order]
  rfl

/-- An urgent add takes the place of the youngest entry of a full queue, if that is normal (R118, R122). -/
theorem State.checkChunk_displaces {s : State} {w : Fin 32} {i : Nat} (law : QueueLaw s) (adds : s.addable w i = true)
    (full : s.queueFull = true) {front : List Entry} {youngest : Entry} (queue : s.scheduler.queue = front ++ [youngest])
    (normal : youngest.urgent = false) :
    (s.checkChunk w true i).scheduler.queue =
        front.filter (fun e => e.urgent) ++ [{ window := w, chunk := i, urgent := true }] ++
          front.filter (fun e => !e.urgent) ∧
      ((s.checkChunk w true i).win youngest.window).checkWanted = true ∧
      (s.checkChunk w true i).addable youngest.window youngest.chunk = true := by
  obtain ⟨_, _, stands, order⟩ := law
  have youngestStands := stands youngest (by rw [queue]; exact List.mem_append_right _ (List.mem_singleton_self _))
  have apart := youngestStands.ne_of_addable adds
  obtain ⟨_, c, hc, un, _⟩ := youngestStands
  have placed : s.checkChunk w true i = (s.displace youngest).addUrgent w i := by
    rw [((State.checkChunk_of_addable adds).2 full).2 front youngest queue, normal]
    exact if_neg nofun
  rw [placed]
  refine ⟨?_, ?_, ?_⟩
  · have left : (s.displace youngest).scheduler.queue = front := by
      show s.scheduler.queue.dropLast = front
      rw [queue, List.dropLast_concat]
    rw [queue, List.pairwise_append] at order
    rw [List.append_assoc, List.singleton_append, ← placeUrgent_eq order.1, ← left]
    rfl
  · rw [State.addUrgent_checkWanted, State.displace_checkWanted]
    simp
  · refine (State.addable_iff _ _ _).2 ⟨{ c with queued := false }, ?_, un, rfl⟩
    refine (State.chunk?_setQueued _ _ _ _ _ _).trans ?_
    rw [if_neg fun h => apart (by rw [h.1, h.2])]
    refine (State.displace_chunk? _ _ _ _).trans ?_
    rw [if_pos ⟨rfl, rfl⟩, hc]
    rfl

/-! ### No UNCHECKED chunk is forgotten (R122) -/

/-- If the chunk is UNCHECKED it is queued. -/
def State.covered (w : Fin 32) (i : Nat) (s : State) : Prop :=
  ∀ d, s.chunk? w i = some d → d.state = .unchecked → d.queued = true

/-- The chunk is covered, or a later refill of its window will find it (R121, R122). -/
def State.remembered (w : Fin 32) (i : Nat) (s : State) : Prop := s.covered w i ∨ (s.win w).checkWanted = true

theorem State.covered_of_not_addable {s : State} {w : Fin 32} {i : Nat} (no : s.addable w i = false) : s.covered w i := by
  intro d hd un
  by_contra free
  rw [(s.addable_iff w i).2 ⟨d, hd, un, by simpa using free⟩] at no
  cases no

theorem State.covered.of_chunk? {s t : State} {w : Fin 32} {i : Nat} (h : s.covered w i) (same : t.chunk? w i = s.chunk? w i) :
    t.covered w i := by
  rw [State.covered, same]
  exact h

theorem State.covered.queue {s : State} {w : Fin 32} {i : Nat} (h : s.covered w i) (u : Fin 32) (j : Nat) :
    (s.setQueued u j true).covered w i := by
  intro d hd un
  rw [State.chunk?_setQueued] at hd
  split at hd
  · obtain ⟨c, _, rfl⟩ := Option.map_eq_some_iff.1 hd
    rfl
  · exact h d hd un

theorem State.setQueued_covered (s : State) (w : Fin 32) (i : Nat) : (s.setQueued w i true).covered w i := by
  intro d hd _
  rw [State.chunk?_setQueued, if_pos ⟨rfl, rfl⟩] at hd
  obtain ⟨c, _, rfl⟩ := Option.map_eq_some_iff.1 hd
  rfl

theorem State.remembered.queue {s : State} {w : Fin 32} {i : Nat} (h : s.remembered w i) (u : Fin 32) (j : Nat) (q : List Entry) :
    ((s.setQueue q).setQueued u j true).remembered w i :=
  h.imp (fun c => State.covered.queue (c.of_chunk? (t := s.setQueue q) rfl) u j) fun c =>
    (State.setQueued_checkWanted _ _ _ _ _).trans c

theorem State.remembered.want {s : State} {w : Fin 32} {i : Nat} (h : s.remembered w i) (u : Fin 32) :
    (s.setCheckWanted u).remembered w i :=
  h.imp (fun c => c.of_chunk? (s.setCheckWanted_chunk? _ _ _)) fun c => by
    rw [State.setCheckWanted_checkWanted, c, Bool.or_true]

/-- The displaced chunk's window wants a check (R122). -/
theorem State.remembered.displace {s : State} {w : Fin 32} {i : Nat} (h : s.remembered w i) (e : Entry) :
    (s.displace e).remembered w i := by
  by_cases own : e.window = w
  · exact .inr (by rw [State.displace_checkWanted]; simp [own])
  · refine h.imp (fun c => c.of_chunk? ?_) fun c => by rw [State.displace_checkWanted, c, Bool.or_true]
    rw [State.displace_chunk?, if_neg fun k => own k.1]

/-- The add of a chunk that may be added is one of four. -/
theorem State.checkChunk_cases {s : State} {w : Fin 32} {i : Nat} (adds : s.addable w i = true) (urgent : Bool) :
    s.checkChunk w urgent i = s.setCheckWanted w ∨ s.checkChunk w urgent i = s.addNormal w i ∨
      s.checkChunk w urgent i = s.addUrgent w i ∨ ∃ e, s.checkChunk w urgent i = (s.displace e).addUrgent w i := by
  obtain ⟨roomy, crowded⟩ := State.checkChunk_of_addable adds
  cases full : s.queueFull with
  | false =>
    obtain ⟨normal, high⟩ := roomy full
    cases urgent with
    | false => exact .inr (.inl normal)
    | true => exact .inr (.inr (.inl high))
  | true =>
    obtain ⟨normal, high⟩ := crowded full
    cases urgent with
    | false => exact .inl normal
    | true =>
      obtain ⟨front, youngest, queue⟩ := State.youngest_of_full full
      rw [high front youngest queue]
      split
      · exact .inl rfl
      · exact .inr (.inr (.inr ⟨youngest, rfl⟩))

theorem State.remembered.checkChunk {s : State} {w : Fin 32} {i : Nat} (h : s.remembered w i) (v : Fin 32) (urgent : Bool)
    (j : Nat) : (s.checkChunk v urgent j).remembered w i := by
  cases adds : s.addable v j with
  | false =>
    rw [State.checkChunk_of_not_addable adds]
    exact h
  | true =>
    rcases State.checkChunk_cases adds urgent with e | e | e | ⟨y, e⟩ <;> rw [e]
    · exact h.want v
    · exact h.queue _ _ _
    · exact h.queue _ _ _
    · exact (h.displace y).queue _ _ _

theorem State.checkChunk_remembers (s : State) (w : Fin 32) (urgent : Bool) (i : Nat) :
    (s.checkChunk w urgent i).remembered w i := by
  cases adds : s.addable w i with
  | false =>
    rw [State.checkChunk_of_not_addable adds]
    exact .inl (State.covered_of_not_addable adds)
  | true =>
    rcases State.checkChunk_cases adds urgent with e | e | e | ⟨y, e⟩ <;> rw [e]
    · exact .inr (by rw [State.setCheckWanted_checkWanted]; simp)
    · exact .inl (State.setQueued_covered _ _ _)
    · exact .inl (State.setQueued_covered _ _ _)
    · exact .inl (State.setQueued_covered _ _ _)

theorem State.checkChunks_remember (w : Fin 32) (urgent : Bool) (l : List Nat) (s : State) (i : Nat)
    (h : i ∈ l ∨ s.remembered w i) : (l.foldl (State.checkChunk w urgent) s).remembered w i := by
  induction l generalizing s with
  | nil => exact h.resolve_left (List.not_mem_nil)
  | cons j l ih =>
    refine ih _ ?_
    rcases h with h | h
    · exact (List.mem_cons.1 h).symm.imp_right fun own => by rw [own]; exact s.checkChunk_remembers w urgent j
    · exact .inr (h.checkChunk w urgent j)

/-! ### The record (R122, R123) -/

/-- The state behind the adds of a CHECK record on a window of `n` chunks. -/
def State.checkAdded (w : Fin 32) (urgent : Bool) (n : Nat) (s : State) : State :=
  (List.range n).foldl (State.checkChunk w urgent) s

theorem State.modWin_modWin (s : State) (w : Fin 32) (f g : Window → Window) :
    (s.modWin w f).modWin w g = s.modWin w fun v => g (f v) := by
  simp only [State.modWin, State.win_setWin_self, State.setWin_setWin]

theorem State.checkAdded_work (s : State) (w : Fin 32) (urgent : Bool) (n : Nat) : QueueWork s (s.checkAdded w urgent n) :=
  QueueWork.foldl _ (State.checkChunk_queueWork w urgent) _ s

def State.checkDoneReport (w : Fin 32) (chunks : List Chunk) : Report :=
  .checkDone w chunks.length (countState chunks .good) (countState chunks .bad) (countState chunks .erased)

/-- Behind the adds CHECK reports a settled window at once, and else remembers that it wants the report (R122, R123). -/
theorem State.check_loaded {s : State} {w : Fin 32} {g : Geometry} {c : Catalogue} {e : ErasedDigests}
    (hb : (s.win w).body = .loaded g c e) (urgent : Bool) :
    s.check w urgent =
      (if settledChunks c.chunks then (s.checkAdded w urgent c.chunks.length).raise (State.checkDoneReport w c.chunks)
      else s.checkAdded w urgent c.chunks.length).modWin w fun v => { v with checkReportWanted := !settledChunks c.chunks } := by
  obtain ⟨added, ha⟩ : ∃ added, added = s.checkAdded w urgent c.chunks.length := ⟨_, rfl⟩
  have work := s.checkAdded_work w urgent c.chunks.length
  rw [← ha] at work ⊢
  obtain ⟨chunks, body, same⟩ := work.behind.loaded hb
  have count : (s.win w).body.count = c.chunks.length := by rw [hb]; rfl
  have length : chunks.length = c.chunks.length := by simpa using congrArg List.length same
  have settled : settledChunks chunks = settledChunks c.chunks := 
    all_state_of_known same fun st => decide (st ≠ .unchecked ∧ st ≠ .checking ∧ st ≠ .filling)
  have states : ∀ st, countState chunks st = countState c.chunks st := fun st =>
    countP_state_of_known same fun x => decide (x = st)
  have wanted : (added.modWin w fun v => { v with checkReportWanted := true }).win w =
      { added.win w with checkReportWanted := true } := by rw [State.win_modWin, if_pos rfl]
  have checked : s.check w urgent = (added.modWin w fun v => { v with checkReportWanted := true }).completionTest w := by
    rw [ha, State.check, count]
    rfl
  rw [checked, State.completionTest, wanted, body]
  simp only [Bool.true_and, settled, length, states]
  cases settledChunks c.chunks with
  | false => rfl
  | true => 
    exact State.modWin_modWin (added.raise (State.checkDoneReport w c.chunks)) w
      (fun v => { v with checkReportWanted := true }) fun v => { v with checkReportWanted := false }

/-- What a CHECK record on a LOADED window adds to its adds: a report or a flag, and no more (R122, R123). -/
structure CheckClosed (w : Fin 32) (chunks : List Chunk) (added t : State) : Prop where
  work : ChunkWork added t
  engine : t.engine = added.engine
  queue : t.scheduler.queue = added.scheduler.queue
  records : ∀ u j, t.chunk? u j = added.chunk? u j
  wanted : ∀ u, (t.win u).checkWanted = (added.win u).checkWanted
  flag : (t.win w).checkReportWanted = !settledChunks chunks
  reports : t.reports = if settledChunks chunks then (added.raise (State.checkDoneReport w chunks)).reports else added.reports

theorem State.check_closed {s : State} {w : Fin 32} {g : Geometry} {c : Catalogue} {e : ErasedDigests}
    (hb : (s.win w).body = .loaded g c e) (urgent : Bool) :
    CheckClosed w c.chunks (s.checkAdded w urgent c.chunks.length) (s.check w urgent) := by
  rw [State.check_loaded hb urgent]
  generalize s.checkAdded w urgent c.chunks.length = added
  have closed : ∀ (u : State) (b : Bool), ChunkWork added u → u.engine = added.engine →
      u.scheduler.queue = added.scheduler.queue → u.windows = added.windows → b = !settledChunks c.chunks →
      (u.reports = if settledChunks c.chunks then (added.raise (State.checkDoneReport w c.chunks)).reports else added.reports) →
      CheckClosed w c.chunks added (u.modWin w fun v => { v with checkReportWanted := b }) := by
    intro u b work engine queue windows flag reports
    have win : ∀ x, u.win x = added.win x := fun x => by rw [State.win, windows]; rfl
    refine ⟨work.trans (u.modWin_work w _ (fun _ => rfl) fun _ => rfl), engine, queue, fun x j => ?_, fun x => ?_, ?_, reports⟩
    · rw [State.chunk?_modWin_body u w _ rfl, State.chunk?, win]
      rfl
    · rw [State.win_modWin, win]
      split
      · next h => rw [h]
      · exact congrArg _ (win x)
    · rw [State.win_modWin, if_pos rfl]
      exact flag
  cases settled : settledChunks c.chunks with
  | true => exact closed _ _ (added.raise_work _) rfl rfl rfl (by rw [settled]) (by rw [settled]; rfl)
  | false => exact closed _ _ (.refl added) rfl rfl rfl (by rw [settled]) (by rw [settled]; rfl)

theorem settledChunks_iff (chunks : List Chunk) :
    settledChunks chunks = true ↔ ∀ x ∈ chunks, x.state ≠ .unchecked ∧ x.state ≠ .checking ∧ x.state ≠ .filling := by
  simp [settledChunks]

theorem State.takeCheck_refused_range {s : State} {bytes : List Byte} (h : 32 ≤ field bytes 8 1 ∨ 1 < field bytes 9 1) :
    s.takeCheck bytes = .refused s .range := by
  rcases h with h | h
  · simp only [State.takeCheck, windowNumber_of_le h]
  · simp only [State.takeCheck, h, if_true]
    split <;> rfl

theorem State.takeCheck_of_window {s : State} {bytes : List Byte} {w : Fin 32} (hw : field bytes 8 1 = w.val)
    (priority : field bytes 9 1 ≤ 1) :
    s.takeCheck bytes =
      if (s.win w).body.isLoaded then .taken (s.check w (decide (field bytes 9 1 = 1))) else .refused s .state := by
  simp only [State.takeCheck, windowNumber_of_eq hw, Nat.not_lt.2 priority, if_false]

/-- Settles O46. -/
theorem checkAddsGoWhereTheirClassSays : Obligations.CheckAddsGoWhereTheirClassSays := by
  refine ⟨fun s w i law _ adds => ⟨State.checkChunk_roomy law adds, fun long => ?_⟩,
    fun s bytes => ⟨State.takeCheck_refused_range, fun w hw priority => ⟨fun unloaded => ?_, fun g cat e hb => ?_⟩⟩⟩
  · have full : s.queueFull = true := s.queueFull_iff.2 long.ge
    obtain ⟨normal, high⟩ := (State.checkChunk_of_addable adds).2 full
    have wants : ((s.setCheckWanted w).win w).checkWanted = true := by
      rw [State.setCheckWanted_checkWanted]
      simp
    refine ⟨by rw [normal]; rfl, by rw [normal]; exact wants, fun urgent => ?_,
      fun front youngest queue low => State.checkChunk_displaces law adds full queue low⟩
    obtain ⟨front, youngest, queue⟩ := State.youngest_of_full full
    have last : youngest.urgent = true := urgent youngest (by rw [queue]; simp)
    rw [high front youngest queue, if_pos last]
    exact ⟨rfl, wants⟩
  · rw [State.takeCheck_of_window hw priority, unloaded]
    rfl
  · obtain ⟨urgent, hu⟩ : ∃ urgent, urgent = decide (field bytes 9 1 = 1) := ⟨_, rfl⟩
    have closed := State.check_closed hb urgent
    have adds := s.checkAdded_work w urgent cat.chunks.length
    have work := adds.chunks.trans closed.work
    refine ⟨s.check w urgent, ?_, work.sameOutsideChunks, closed.engine.trans adds.engine, work.bridge, work.ports,
      fun u j => (adds.known u j).trans (.of_eq (closed.records u j)), ?_, fun i d hd un => ?_, fun settled => ?_, fun open' => ?_⟩
    · rw [State.takeCheck_of_window hw priority, hb, hu]
      rfl
    · rw [← hu]
      refine ⟨closed.queue, closed.wanted, closed.records, fun entry mem => ?_⟩
      rw [closed.queue] at mem
      exact State.mem_queue_of_checkChunks w urgent _ s entry mem
    · have lt : i < cat.chunks.length := by
        have here := (State.chunk?_isSome _ w i).1 (Option.isSome_iff_exists.2 ⟨d, hd⟩)
        rw [work.count, hb] at here
        exact here
      rw [closed.wanted]
      rw [closed.records] at hd
      exact (State.checkChunks_remember w urgent _ s i (.inl (List.mem_range.2 lt))).imp (fun covered => covered d hd un) id
    · have quiet := (settledChunks_iff cat.chunks).2 settled
      refine ⟨by rw [closed.flag, quiet]; rfl, ?_⟩
      rw [closed.reports, if_pos quiet, State.raise, State.raise, State.modReports, State.modReports, adds.reports]
      rfl
    · have busy : settledChunks cat.chunks = false := by
        rw [← Bool.not_eq_true, settledChunks_iff]
        obtain ⟨x, hx, state⟩ := open'
        intro settled
        obtain ⟨un, checking, filling⟩ := settled x hx
        rcases state with h | h | h
        · exact un h
        · exact checking h
        · exact filling h
      refine ⟨by rw [closed.flag, busy]; rfl, ?_⟩
      rw [closed.reports, busy]
      exact adds.reports

end Sys2Proof.Machine
end

section
/-! What a refill makes of a window that wants a check (R121), and the expiry of a quiet timer (R120) (O45). -/

namespace Sys2Proof.Machine

/-! ### A pass over one window -/

theorem State.setCursor_win (s : State) (w u : Fin 32) (n : Nat) :
    (s.setCursor w n).win u = if w = u then { s.win w with cursor := n } else s.win u := State.win_modWin _ _ _ _

/-- An add to the queue changes one window, and of that its chunk records only. -/
theorem State.addNormal_win (s : State) (w u : Fin 32) (i : Nat) :
    ((s.addNormal w i).win u).checkWanted = (s.win u).checkWanted ∧ ((s.addNormal w i).win u).cursor = (s.win u).cursor ∧
      (u ≠ w → (s.addNormal w i).win u = s.win u) := by
  have win : (s.addNormal w i).win u =
      if w = u then { s.win w with body := (s.win w).body.modCat fun c =>
        { c with chunks := c.chunks.modify i fun c => { c with queued := true } } } else s.win u :=
    State.win_modWin _ _ _ _
  rw [win]
  by_cases h : w = u
  · subst h
    exact ⟨by rw [if_pos rfl], by rw [if_pos rfl], fun n => absurd rfl n⟩
  · rw [if_neg h]
    exact ⟨rfl, rfl, fun _ => rfl⟩

/-- A pass over one window leaves the entries of the others alone. -/
theorem State.passWindow_win_other {w u : Fin 32} (h : u ≠ w) (fuel : Nat) (added : Bool) (s : State) :
    (s.passWindow w fuel added).win u = s.win u := by
  induction fuel generalizing added s with
  | zero =>
    unfold State.passWindow
    split
    · rfl
    · rw [State.win_modWin, if_neg (Ne.symm h)]
  | succ fuel ih =>
    rw [State.passWindow_succ]
    split
    · rfl
    · split
      · rw [ih, State.setCursor_win, if_neg (Ne.symm h)]
        exact (s.addNormal_win w u _).2.2 h
      · rw [ih, State.setCursor_win, if_neg (Ne.symm h)]

theorem State.refillWindow_win_other (s : State) {w u : Fin 32} (h : u ≠ w) : (s.refillWindow w).win u = s.win u := by
  unfold State.refillWindow
  split
  · exact State.passWindow_win_other h _ _ s
  · rfl

theorem State.covered.setCursor {s : State} {w : Fin 32} {i : Nat} (h : s.covered w i) (u : Fin 32) (n : Nat) :
    (s.setCursor u n).covered w i := h.of_chunk? (State.chunk?_modWin_body _ _ _ rfl _ _)

theorem State.covered.addNormal {s : State} {w : Fin 32} {i : Nat} (h : s.covered w i) (u : Fin 32) (j : Nat) :
    (s.addNormal u j).covered w i := State.covered.queue (h.of_chunk? (t := s.setQueue _) rfl) u j

/-- A pass takes no chunk out of the queue. -/
theorem State.covered.passWindow {s : State} {w : Fin 32} {i : Nat} (h : s.covered w i) (u : Fin 32) (fuel : Nat)
    (added : Bool) : (s.passWindow u fuel added).covered w i := by
  induction fuel generalizing added s with
  | zero =>
    unfold State.passWindow
    split
    · exact h
    · exact h.of_chunk? (State.chunk?_modWin_body _ _ _ rfl _ _)
  | succ fuel ih =>
    rw [State.passWindow_succ]
    split
    · exact h
    · split
      · exact ih ((h.addNormal u _).setCursor u _) _
      · exact ih (h.setCursor u _) _

/-- The queue is full and the window still wants its check, so that the refill goes on when room comes (R121). -/
def State.waitsForRoom (w : Fin 32) (s : State) : Prop := s.queueFull = true ∧ (s.win w).checkWanted = true

theorem State.nextCursor_eq {s : State} {w : Fin 32} (lt : (s.win w).cursor < (s.win w).body.count) :
    s.nextCursor w = ((s.win w).cursor + 1) % (s.win w).body.count := by
  unfold State.nextCursor
  split
  · next h => rw [Nat.mod_eq_of_lt h]
  · rw [show (s.win w).cursor + 1 = (s.win w).body.count by omega, Nat.mod_self]

/-- A pass of a window that wants its check ends at a full queue with the flag set, or has covered every chunk it had left to
examine, from the cursor on and around (R121). -/
theorem State.passWindow_covers (w : Fin 32) (fuel : Nat) (added : Bool) (s : State) (wanted : (s.win w).checkWanted = true)
    (lt : (s.win w).cursor < (s.win w).body.count) :
    (s.passWindow w fuel added).waitsForRoom w ∨
      ∀ k < fuel, (s.passWindow w fuel added).covered w (((s.win w).cursor + k) % (s.win w).body.count) := by
  induction fuel generalizing added s with
  | zero => exact .inr nofun
  | succ fuel ih =>
    have goes : ∀ (t : State) (b : Bool), QueueWork s t → (t.win w).checkWanted = true →
        (t.win w).cursor = s.nextCursor w → t.covered w (s.win w).cursor →
        (t.passWindow w fuel b).waitsForRoom w ∨
          ∀ k < fuel + 1, (t.passWindow w fuel b).covered w (((s.win w).cursor + k) % (s.win w).body.count) := by
      intro t b work wanted cursor here
      have count := work.chunks.count w
      rw [State.nextCursor_eq lt] at cursor
      refine (ih b t wanted ?_).imp_right fun rest k hk => ?_
      · rw [cursor, count]
        exact Nat.mod_lt _ (by omega)
      · cases k with
        | zero =>
          rw [Nat.add_zero, Nat.mod_eq_of_lt lt]
          exact here.passWindow w fuel b
        | succ k =>
          have next := rest k (by omega)
          rwa [cursor, count, Nat.mod_add_mod, Nat.add_assoc, Nat.add_comm 1 k] at next
    rw [State.passWindow_succ]
    split
    · next full => exact .inl ⟨full, wanted⟩
    · split
      · refine goes _ true ((s.addNormal_queueWork _ _).trans (State.setCursor_queueWork _ _ _)) ?_ ?_
          (State.covered.setCursor (State.setQueued_covered _ _ _) _ _)
        · rw [State.setCursor_win, if_pos rfl]
          exact (s.addNormal_win w w _).1.trans wanted
        · rw [State.setCursor_win, if_pos rfl]
      · next no =>
        refine goes _ added (s.setCursor_queueWork _ _) ?_ ?_
          (State.covered.setCursor (State.covered_of_not_addable (by simpa using no)) _ _)
        · rw [State.setCursor_win, if_pos rfl]
          exact wanted
        · rw [State.setCursor_win, if_pos rfl]

/-! ### The refill -/

/-- What a refill makes of a LOADED window that wants its check: it waits for room, or each of its chunks is covered. -/
def State.searched (w : Fin 32) (s : State) : Prop := s.waitsForRoom w ∨ ∀ i, s.covered w i

/-- A LOADED window that wants its check and whose cursor is at one of its chunks, as the refill finds it at its turn. -/
structure State.searchable (w : Fin 32) (s : State) : Prop where
  loaded : (s.win w).body.isLoaded = true
  wanted : (s.win w).checkWanted = true
  cursor : (s.win w).cursor < (s.win w).body.count

theorem State.searched.refillWindow {s : State} {w : Fin 32} (h : s.searched w) (u : Fin 32) : (s.refillWindow u).searched w := by
  rcases h with ⟨full, wanted⟩ | covered
  · have same : s.refillWindow u = s := by simp [State.refillWindow, full]
    rw [same]
    exact .inl ⟨full, wanted⟩
  · refine .inr fun i => ?_
    unfold State.refillWindow
    split
    · exact (covered i).passWindow _ _ _
    · exact covered i

theorem State.searchable.refillWindow {s : State} {w : Fin 32} (h : s.searchable w) : (s.refillWindow w).searched w := by
  cases full : s.queueFull with
  | true =>
    have same : s.refillWindow w = s := by simp [State.refillWindow, full]
    rw [same]
    exact .inl ⟨full, h.wanted⟩
  | false =>
    have turn : s.refillWindow w = s.passWindow w (s.win w).body.count false := by
      simp [State.refillWindow, h.loaded, h.wanted, full]
    rw [turn]
    refine (State.passWindow_covers w _ false s h.wanted h.cursor).imp_right fun around i => ?_
    by_cases lt : i < (s.win w).body.count
    · have cursor := h.cursor
      have round : ((s.win w).cursor + (i + (s.win w).body.count - (s.win w).cursor) % (s.win w).body.count) %
          (s.win w).body.count = i := by
        rw [Nat.add_mod_mod, show (s.win w).cursor + (i + (s.win w).body.count - (s.win w).cursor) =
          i + (s.win w).body.count by omega, Nat.add_mod_right, Nat.mod_eq_of_lt lt]
      have here := around _ (Nat.mod_lt (i + (s.win w).body.count - (s.win w).cursor) (by omega))
      rwa [round] at here
    · intro d hd
      have here := (State.chunk?_isSome _ w i).1 (Option.isSome_iff_exists.2 ⟨d, hd⟩)
      rw [(State.passWindow_queueWork w _ false s).chunks.count] at here
      exact absurd here lt

theorem State.searchable.of_win {s t : State} {w : Fin 32} (h : s.searchable w) (same : t.win w = s.win w) : t.searchable w :=
  ⟨by rw [same]; exact h.loaded, by rw [same]; exact h.wanted, by rw [same]; exact h.cursor⟩

/-- A refill gives each window that wants its check its turn (R121). -/
theorem State.searchable.refill {s : State} {w : Fin 32} (h : s.searchable w) : s.refill.searched w := by
  have keeps : ∀ (l : List (Fin 32)) (t : State), t.searched w → (l.foldl State.refillWindow t).searched w := by
    intro l
    induction l with
    | nil => exact fun _ k => k
    | cons u l ih => exact fun t k => ih _ (k.refillWindow u)
  have turn : ∀ (l : List (Fin 32)) (t : State), w ∈ l → t.searchable w → (l.foldl State.refillWindow t).searched w := by
    intro l
    induction l with
    | nil => exact fun _ mem => absurd mem (List.not_mem_nil)
    | cons u l ih =>
      intro t mem k
      by_cases own : w = u
      · subst own
        exact keeps l _ k.refillWindow
      · exact ih _ ((List.mem_cons.1 mem).resolve_left own) (k.of_win (t.refillWindow_win_other own))
  rw [State.refill_eq]
  exact keeps allWindows _ (turn allWindows s (mem_allWindows w) h)

/-- A refill passes over a window that is not LOADED (R121). -/
theorem State.refill_win_of_not_loaded {s : State} {w : Fin 32} (unloaded : (s.win w).body.isLoaded = false) :
    s.refill.win w = s.win w := by
  refine State.refill_keeps (P := fun t => t.win w = s.win w) (fun t u same => ?_) rfl
  by_cases own : w = u
  · subst own
    have idle : t.refillWindow w = t := by simp [State.refillWindow, same, unloaded]
    rw [idle, same]
  · rw [t.refillWindow_win_other own, same]

/-! ### The expiry (R120, R121) -/

theorem State.expireQuiet_win (s : State) (w u : Fin 32) :
    (s.expireQuiet w).win u = if w = u then { s.win w with quiet := none, checkWanted := true } else s.win u :=
  State.win_modWin _ _ _ _

theorem State.expireQuiet_behind (s : State) (w : Fin 32) : Behind s (s.expireQuiet w) := by
  have split : s.expireQuiet w = (s.modWin w fun v => { v with quiet := none }).setCheckWanted w :=
    (State.modWin_modWin s w (fun v => { v with quiet := none }) fun v => { v with checkWanted := true }).symm
  rw [split]
  exact (s.modQuiet_behind w fun _ => none).trans (State.setCheckWanted_queueWork _ w).behind

/-- The state behind the expiry of a quiet timer. -/
def State.expired (w : Fin 32) (s : State) : State := (s.expireQuiet w).refill.settleClaim

theorem State.expired_behind (s : State) (w : Fin 32) : Behind s (s.expired w) :=
  ((s.expireQuiet_behind w).trans (State.refill_queueWork _).behind).trans (State.settleClaim_behind _)

theorem State.expired_quiet (s : State) (w u : Fin 32) :
    ((s.expired w).win u).quiet = if w = u then none else (s.win u).quiet := by
  rw [State.expired, State.settleClaim_win, (State.refill_queueWork _).chunks.quiet, State.expireQuiet_win]
  split <;> rfl

theorem State.expired_wanted {s : State} {w : Fin 32} (unloaded : (s.win w).body.isLoaded = false) :
    ((s.expired w).win w).checkWanted = true := by
  rw [State.expired, State.settleClaim_win, State.refill_win_of_not_loaded, State.expireQuiet_win, if_pos rfl]
  rw [State.expireQuiet_win, if_pos rfl]
  exact unloaded

theorem State.expired_searched {s : State} {w : Fin 32} (loaded : (s.win w).body.isLoaded = true)
    (cursor : (s.win w).cursor < (s.win w).body.count) : (s.expired w).searched w := by
  have ready : (s.expireQuiet w).searchable w := by
    constructor <;> rw [State.expireQuiet_win, if_pos rfl]
    · exact loaded
    · exact cursor
  rw [State.expired]
  refine ready.refill.imp (fun ⟨full, wanted⟩ => ⟨?_, ?_⟩) fun covered i => (covered i).of_chunk? (State.settleClaim_chunk? _ _ _)
  · rw [State.queueFull, State.settleClaim_scheduler]
    exact full
  · rw [State.settleClaim_win]
    exact wanted

theorem exec_quietTimerExpiry {s : State} {w : Fin 32} {n : Nat} (hq : (s.win w).quiet = some n) :
    exec (.quietTimerExpiry w.val) s = .next (if n ≤ 1 then s.expired w else s) := by
  simp only [exec, execQuietTimerExpiry, windowNumber_of_eq rfl, hq]
  split <;> rfl

/-- Settles O45: `State.passWindow_covers` for the pass over the window, which no other window's pass undoes. -/
theorem quietTimerExpiryQueuesTheWindow : Obligations.QuietTimerExpiryQueuesTheWindow := by
  refine fun s w n => ⟨fun hq last => ?_, fun hq more => ?_, fun hq => ?_, fun m beyond => ?_⟩
  · have behind := s.expired_behind w
    refine ⟨s.expired w, by rw [exec_quietTimerExpiry hq, if_pos last], (ChunkWork.refl s).sameOutsideChunks_behind behind,
      behind.reports, behind.bridge, behind.ports, behind.engine, behind.known, ?_, fun u other => ?_, State.expired_wanted,
      fun loaded cursor => State.expired_searched loaded cursor⟩
    · rw [State.expired_quiet, if_pos rfl]
    · rw [State.expired_quiet, if_neg (Ne.symm other)]
  · rw [exec_quietTimerExpiry hq, if_neg (Nat.not_le.2 more)]
  · simp only [exec, execQuietTimerExpiry, windowNumber_of_eq rfl, hq]
  · simp only [exec, execQuietTimerExpiry, windowNumber_of_le beyond]

end Sys2Proof.Machine
end
